-- ==== Sys2Proof/Word.lean ====
section
/-! DEFINITION. The words and the numbered things of the Bucora 4832: bytes, wrapping counts, zone sets, and the
numbers of zones, switches, districts and hold slots (spec 00, 0.4 Capacities and 0.5 Conventions). -/

namespace Sys2Proof

/-- One byte of a frame. -/
abbrev Byte := BitVec 8
/-- Feeder time: the minute count, 0 to 4 294 967 295, wrapping (00 0.5; R163). -/
abbrev Minute := BitVec 32
/-- A zone set: zone n is a member when bit n is set (12, opening paragraph). -/
abbrev ZoneSet := BitVec 32
/-- A zone number, 0 to 31. -/
abbrev ZoneNo := Fin 32
/-- A switch number, 0 to 15; a segment is named by the switch that feeds it (00 0.5). -/
abbrev SwitchNo := Fin 16
/-- A fire district, 0 to 7. -/
abbrev DistrictNo := Fin 8
/-- A hold slot, 0 to 63. -/
abbrev SlotNo := Fin 64
/-- The use count of a hold slot, 0 to 1023, wrapping (R19, R21). -/
abbrev UseCount := BitVec 10
/-- The version of a record, 0 to 255, wrapping. -/
abbrev Version := BitVec 8
/-- An owner tag as carried; 1 to 65535 are tags, 0 is refused (R53). -/
abbrev OwnerTag := BitVec 16
/-- A hunt case number, 0 to 65535 (R128). -/
abbrev CaseNo := BitVec 16

/-- "Whole feeder": all 32 zone numbers, present or not (00 0.5). -/
abbrev wholeFeeder : ZoneSet := BitVec.allOnes 32

/-- Membership of a zone in a zone set. -/
def ZoneSet.has (a : ZoneSet) (z : ZoneNo) : Bool := a.getLsbD z.val

/-- Two zone sets meet when they share at least one zone (00 0.5). -/
def ZoneSet.meets (a b : ZoneSet) : Bool := a &&& b != 0

/-- Every zone of `a` is a zone of `b`. -/
def ZoneSet.within (a b : ZoneSet) : Bool := a &&& b == a

end Sys2Proof
end

