-- ==== Sys2Proof/Config.lean ====
section
/-! DEFINITION. What the part fixes: its capacities (spec 00, 0.4), and the one free value of the model. The cold and
start values of the records stand in Machine/Cold.lean. -/

namespace Sys2Proof

/-- Live holds of port origin (00 0.4, R23). -/
def Config.portHolds : Nat := 48
/-- Live HUNT holds at which no case starts (R130 check 5). -/
def Config.huntHolds : Nat := 6
/-- Hunt steps per case (R138). -/
def Config.huntSteps : Nat := 32
/-- Blocking handles returned by CHECK CLOSE (R41). -/
def Config.blockingHandles : Nat := 8
/-- Handles returned by one LIST HOLDS (R29). -/
def Config.listedHandles : Nat := 12

/-- FREE VALUE (DESIGN CHOICE, log entry 3): the energisation reach that READ SWITCH returns for a switch that is not
configured while the reach table is valid. R18 has the reach returned; R7 starts its walk at a downstream zone, which such a
switch has not. Applied to the model's own counter `State.draws`, so each reading is a fresh value. -/
opaque Config.reachOfUnconfigured : Nat → ZoneSet

end Sys2Proof
end

