-- ==== Sys2Proof/Syntax.lean ====
section
/-! DEFINITION. The commands of the part: one constructor of `Instr` for each row of spec/opcode_table.json, with the
fields the row's request, frame or event carries. The spec lays out no request bodies (12.1 gives the heads alone), so a
command carries the decoded fields by name (DESIGN CHOICE, log entry 1). -/

namespace Sys2Proof

/-- The two request ports (00 0.1). -/
inductive Port | controller | maintenance
  deriving DecidableEq, Repr
/-- The danger levels, which also name the setting groups (00 0.5, R58). -/
inductive Level | normal | elevated | severe | ban
  deriving DecidableEq, Repr
/-- The season flag (R67). -/
inductive Season | inSeason | outOfSeason
  deriving DecidableEq, Repr
/-- Hold kind (R20). -/
inductive HoldKind | noReclose | noClose
  deriving DecidableEq, Repr
/-- Hold strength (R20, R22). -/
inductive Strength | plain | owned | pinned
  deriving DecidableEq, Repr
/-- Hold origin (R20). -/
inductive Origin | controller | maintenance | fire | hunt | system
  deriving DecidableEq, Repr
/-- Kind of close (00 0.5). -/
inductive CloseKind | automatic | deliberate
  deriving DecidableEq, Repr
/-- Switch class (R3). -/
inductive SwitchClass | headBreaker | recloser | sectionaliser | loadBreakSwitch
  deriving DecidableEq, Repr
/-- Action of an operation: OPEN or CLOSE (R81). -/
inductive SwitchAction | toOpen | toClose
  deriving DecidableEq, Repr
/-- The position a STATE frame reports: OPEN or CLOSED (12.2). -/
inductive Pole | opened | closed
  deriving DecidableEq, Repr
/-- Fault class of a TRIP frame (R87). -/
inductive FaultClass | phase | earth | sensitiveEarth
  deriving DecidableEq, Repr
/-- The ten notices (R176). -/
inductive Notice | trip | lockout | operation | profile | hold | level | hunt | integrity | time | start
  deriving DecidableEq, Repr
/-- The twelve fields of a setting group (R58). -/
inductive GroupField
  | shotsAllowed | deadTime1 | deadTime2 | deadTime3 | reclaimTime | recloseAfterEarth | profileCode
  | residualPickup | dropoffPercent | activeTests | closeBackOntoSuspect | isolateFound
  deriving DecidableEq, Repr

/-- A field whose values are named: the value named, or some value the manual does not name for the field. -/
inductive Choice (α : Type) | named (a : α) | unnamed
  deriving DecidableEq, Repr

/-- A quantity as carried: whole stored units, and whether the value carried is finer than the stored unit (it then lies
above `units` and below `units + 1`). -/
structure Amount where
  units : Nat
  finer : Bool := false
  deriving DecidableEq, Repr

/-- The value of an EDIT GROUP: a quantity or a yes/no. -/
inductive GroupValue | quantity (a : Amount) | yesNo (b : Bool)
  deriving DecidableEq, Repr

/-- The boundary field of a loaded zone entry, with the switch number as carried (R9); or a kind that is neither SWITCHED nor FIXED. -/
inductive BoundaryField | switched (n : Nat) | fixed | unnamed
  deriving DecidableEq, Repr

/-- One entry of a LOAD ZONES list (1.5). -/
structure ZoneLoad where
  zone : Nat
  parent : Option Nat
  boundary : BoundaryField
  district : Nat
  essential : Choice Bool
  deriving DecidableEq, Repr

/-- The entry a CONFIGURE SWITCH carries (R3, R12); `mechanism` in 0.1 s, absent when not given. -/
structure SwitchLoad where
  cls : Choice SwitchClass
  address : Nat
  downstream : Nat
  sensing : Choice Bool
  multiplier : Nat
  shift : Nat
  mechanism : Option Amount
  deriving DecidableEq, Repr

/-- A handle as a request carries it. -/
structure HandleField where
  slot : Nat
  useCount : Nat
  deriving DecidableEq, Repr

/-- The body of a PLACE HOLD (2.4); the scope as the zone numbers it names. -/
structure PlaceBody where
  kind : Choice HoldKind
  strength : Choice Strength
  scope : List Nat
  tag : Option OwnerTag
  expiry : Option Minute
  reason : Byte
  deriving DecidableEq, Repr

/-- The expiry change of an AMEND HOLD (2.6). -/
inductive ExpiryChange | keep | give (m : Minute) | remove
  deriving DecidableEq, Repr

/-- The body of an AMEND HOLD (2.6). -/
structure AmendBody where
  handle : HandleField
  conditional : Bool
  tag : Option OwnerTag
  expiry : ExpiryChange
  strength : Option (Choice Strength)
  scope : Option (List Nat)
  kind : Option (Choice HoldKind)
  deriving DecidableEq, Repr

/-- The body of a RELEASE HOLD (R34). -/
structure ReleaseBody where
  handle : HandleField
  conditional : Bool
  tag : Option OwnerTag
  deriving DecidableEq, Repr

/-- The body of a SET LINK SETTINGS: any of the fields, each optional (R103). -/
structure LinkFields where
  answerTime : Option Amount
  pollInterval : Option Amount
  headInterval : Option Amount
  reclose : Option Nat
  controller : Option Nat
  maintenance : Option Nat
  hunt : Option Nat
  profile : Option Nat
  poll : Option Nat
  deriving DecidableEq, Repr

/-- The body of a SET HUNT PARAMETERS: any of the fields, each optional, the times in seconds (R127). -/
structure HuntFields where
  autoStart : Option (Choice Bool)
  confirm : Option Amount
  listen : Option Amount
  settle : Option Amount
  observe : Option Amount
  essential : Option (Choice Bool)
  deriving DecidableEq, Repr

/-- The records of the retained store that carry a check code (R156). The feeder mode shares the code of zone entry 0. -/
inductive RecordId
  | slot (i : SlotNo) | zone (z : ZoneNo) | switch (k : SwitchNo) | group (l : Level) | seasonDistrict
  | huntParameters | huntCase | linkSettings | minuteCount | startCause
  deriving DecidableEq, Repr

/-- The requests the RQI decodes (10.7), CONFIGURE SWITCH in its two forms. -/
inductive Request
  | readZone (zone : Nat)
  | readSwitch (switch : Nat)
  | loadZones (entries : List ZoneLoad)
  | configureSwitch (switch : Nat) (entry : SwitchLoad)
  | configureSwitchRemoval (switch : Nat)
  | enterService
  | enterCommissioning
  | placeHold (body : PlaceBody)
  | readHold (handle : HandleField)
  | listHolds (startSlot : Nat) (zone : Option Nat) (origin : Option (Choice Origin))
  | amendHold (body : AmendBody)
  | releaseHold (body : ReleaseBody)
  | checkClose (switch : Nat) (kind : Choice CloseKind)
  | reserveHold (handle : HandleField)
  | reserveLevel (district : Nat)
  | openGroupEdit (group : Choice Level)
  | editGroup (field : Choice GroupField) (value : GroupValue)
  | commitGroup
  | discardGroupEdit
  | readGroup (group : Choice Level) (withStaging : Bool)
  | declareLevel (district : Nat) (level : Choice Level) (conditional : Bool)
  | setSeason (season : Choice Season)
  | readLevels
  | operateSwitch (switch : Nat) (action : Choice SwitchAction)
  | clearSwitchFailure (switch : Nat)
  | retryProfile (switch : Nat)
  | setLinkSettings (fields : LinkFields)
  | setHuntParameters (fields : HuntFields)
  | startHunt (essential : Option (Choice Bool))
  | readHunt
  | resumeHunt
  | abandonHunt
  | closeHuntCase
  | setTime (minute : Nat)
  | readTime
  | readStartCause (clear : Choice Bool)
  | readStatus
  | readNotices
  | clearNotices (names : List (Choice Notice)) (mask : Option (List (Choice Notice)))
  | identify
  deriving DecidableEq, Repr

/-- The commands: one constructor per row of spec/opcode_table.json. A request row is a complete request frame that
passes framing, arriving on `port`; the other rows are the port, field-link, timer, line and start events. -/
inductive Instr
  | readZone (port : Port) (zone : Nat)
  | readSwitch (port : Port) (switch : Nat)
  | loadZones (port : Port) (entries : List ZoneLoad)
  | configureSwitch (port : Port) (switch : Nat) (entry : SwitchLoad)
  | configureSwitchRemoval (port : Port) (switch : Nat)
  | enterService (port : Port)
  | enterCommissioning (port : Port)
  | placeHold (port : Port) (body : PlaceBody)
  | readHold (port : Port) (handle : HandleField)
  | listHolds (port : Port) (startSlot : Nat) (zone : Option Nat) (origin : Option (Choice Origin))
  | amendHold (port : Port) (body : AmendBody)
  | releaseHold (port : Port) (body : ReleaseBody)
  | checkClose (port : Port) (switch : Nat) (kind : Choice CloseKind)
  | reserveHold (port : Port) (handle : HandleField)
  | reserveLevel (port : Port) (district : Nat)
  | openGroupEdit (port : Port) (group : Choice Level)
  | editGroup (port : Port) (field : Choice GroupField) (value : GroupValue)
  | commitGroup (port : Port)
  | discardGroupEdit (port : Port)
  | readGroup (port : Port) (group : Choice Level) (withStaging : Bool)
  | declareLevel (port : Port) (district : Nat) (level : Choice Level) (conditional : Bool)
  | setSeason (port : Port) (season : Choice Season)
  | readLevels (port : Port)
  | operateSwitch (port : Port) (switch : Nat) (action : Choice SwitchAction)
  | clearSwitchFailure (port : Port) (switch : Nat)
  | retryProfile (port : Port) (switch : Nat)
  | setLinkSettings (port : Port) (fields : LinkFields)
  | setHuntParameters (port : Port) (fields : HuntFields)
  | startHunt (port : Port) (essential : Option (Choice Bool))
  | readHunt (port : Port)
  | resumeHunt (port : Port)
  | abandonHunt (port : Port)
  | closeHuntCase (port : Port)
  | setTime (port : Port) (minute : Nat)
  | readTime (port : Port)
  | readStartCause (port : Port) (clear : Choice Bool)
  | readStatus (port : Port)
  | readNotices (port : Port)
  | clearNotices (port : Port) (names : List (Choice Notice)) (mask : Option (List (Choice Notice)))
  | identify (port : Port)
  /-- A complete frame that fails framing: its bytes, and whether the body lacks the shape its code calls for (R170). -/
  | refusedFormatFrame (port : Port) (bytes : List Byte) (shapeWrong : Bool)
  /-- A complete frame met the port HELD or READY-HELD (R169). -/
  | frameDiscarded (port : Port)
  /-- A read transaction on the controller port; `whole` when it ended after the last byte of the response (R171). -/
  | readTransaction (whole : Bool)
  /-- The last byte of the maintenance port's response has been sent (R172). -/
  | responseSent
  /-- More than 0.2 s between two bytes of an incomplete maintenance frame; the bytes received (R172). -/
  | maintenanceByteTimeout (bytes : List Byte)
  /-- An inbound ANSWER: accepted, or refused with a reason (12.2). -/
  | answerFrame (address : Byte) (accepted : Bool) (reason : Byte)
  /-- An inbound STATE: the position, and the raw residual count when one is carried (12.2). -/
  | stateFrame (address : Byte) (position : Pole) (residual : Option (BitVec 16))
  /-- An inbound TRIP (12.2). -/
  | tripFrame (address : Byte) (faultClass : FaultClass)
  /-- 50 ms between two bytes of an inbound frame; the bytes received (R181). -/
  | fieldByteTimeout (bytes : List Byte)
  | answerTimerExpiry
  | mechanismTimerExpiry (switch : SwitchNo)
  | routineTimerExpiry
  | headTimerExpiry
  | deadTimeExpiry (switch : SwitchNo)
  | reclaimExpiry (switch : SwitchNo)
  | confirmTimerExpiry
  | listenWindowExpiry
  | settleTimerExpiry
  | observeTimerExpiry
  /-- One pass of the background scan; the records whose contents have come to disagree with their check code since the
  last verification (log entry 4). -/
  | scanPass (failed : List RecordId)
  /-- A TREF pulse; the time in milliseconds since the last counted pulse, absent when none has been counted since the
  start (R163). -/
  | trefPulse (gap : Option Nat)
  /-- 1.5 s with no counted pulse (R163). -/
  | trefLoss
  | oscillatorSecond
  /-- The TFB line changes to the level given. -/
  | tfbEdge (asserted : Bool)
  /-- The LKEY line changes to the level given. -/
  | lkeyChange (asserted : Bool)
  /-- RESET asserted; the records whose write it interrupts (R156). -/
  | resetAssert (interrupted : List RecordId)
  | resetRelease
  /-- SUPMON below its lower threshold; the records whose write it interrupts (R156). -/
  | supplyFall (interrupted : List RecordId)
  | supplyRecovery
  /-- Power-up: whether the store has lost its validity marker, and the records that have come to fail their check. -/
  | powerUp (markerAbsent : Bool) (failed : List RecordId)
  /-- A complete inbound frame that is discarded without being taken; its bytes (R83, R181). -/
  | inboundFrameDiscarded (bytes : List Byte)
  deriving DecidableEq, Repr

end Sys2Proof
end

