-- ==== Sys2Proof/Machine/Types.lean ====
section
/-! DEFINITION. The records of the part, block by block as spec 00, 0.3 gives their owners: FMU, HTU, FSU, SOU, RCS,
EHU, SVU, RQI, and the discrete lines. Plain data. -/

namespace Sys2Proof.Machine

/-- A second-scale timer: stopped, or running with its set time and the time left, both in 0.1 s (00 0.5 "Time"). -/
inductive Timer | stopped | running (set left : Nat)
  deriving DecidableEq, Repr

/-! ## FMU (chapter 1) -/

/-- The boundary of a zone with its parent (R1). -/
inductive Boundary | switched (k : SwitchNo) | fixed
  deriving DecidableEq, Repr
/-- The fields of a present zone (R1). -/
structure ZoneInfo where
  parent : Option ZoneNo
  boundary : Boundary
  district : DistrictNo
  essential : Bool
  deriving DecidableEq, Repr
/-- A zone entry: its fields when present, and its suspicion count, 0 to 15 (R1, R2). -/
structure ZoneEntry where
  info : Option ZoneInfo
  suspicion : Nat
  deriving DecidableEq, Repr
/-- A configured entry of the switch configuration table (R3); `mechanism` in 0.1 s. -/
structure SwitchConfig where
  cls : SwitchClass
  address : Byte
  downstream : ZoneNo
  sensing : Bool
  multiplier : Nat
  shift : Nat
  mechanism : Nat
  deriving DecidableEq, Repr
/-- Subtree and segment of a configured switch (R6). -/
structure SwitchReach where
  subtree : ZoneSet
  segment : ZoneSet
  deriving DecidableEq, Repr
/-- Feeder mode (R5). -/
inductive FeederMode | commissioning | service
  deriving DecidableEq, Repr
/-- The FMU's state; `reachTable` is absent while the reach table is invalid (R8). -/
structure Fmu where
  mode : FeederMode
  zones : Vector ZoneEntry 32
  switches : Vector (Option SwitchConfig) 16
  reachTable : Option (Vector (Option SwitchReach) 16)
  deriving DecidableEq, Repr

/-! ## HTU (chapter 2) -/

/-- A handle: slot and use count (R19). -/
structure Handle where
  slot : SlotNo
  useCount : UseCount
  deriving DecidableEq, Repr
/-- Cause reference of a device hold (R20). -/
inductive Cause | district (d : DistrictNo) | huntCase (n : CaseNo) | continuity | integrity
  deriving DecidableEq, Repr
/-- A hold record (R20), less its handle, which is its place and the slot's use count. -/
structure Hold where
  kind : HoldKind
  strength : Strength
  origin : Origin
  scope : ZoneSet
  tag : Option OwnerTag
  expiry : Option Minute
  reason : Byte
  cause : Option Cause
  placed : Minute
  version : Version
  deriving DecidableEq, Repr
/-- A hold slot: empty or live, with its use count (R19). -/
structure Slot where
  hold : Option Hold
  useCount : UseCount
  deriving DecidableEq, Repr
/-- The counts of live holds by origin (R19, R42). -/
structure LiveCounts where
  controller : Nat
  maintenance : Nat
  fire : Nat
  hunt : Nat
  system : Nat
  deriving DecidableEq, Repr
structure Htu where
  slots : Vector Slot 64
  counts : LiveCounts
  deriving DecidableEq, Repr

/-! ## FSU (chapter 4) -/

/-- A setting group (R58): dead times and pickup in 0.1 units, reclaim in whole seconds. -/
structure Group where
  shots : Nat
  dead1 : Nat
  dead2 : Nat
  dead3 : Nat
  reclaim : Nat
  recloseEarth : Bool
  profile : Nat
  pickup : Nat
  dropoff : Nat
  activeTests : Bool
  closeBack : Bool
  isolate : Bool
  deriving DecidableEq, Repr
/-- The four setting groups (R58). -/
structure Groups where
  normal : Group
  elevated : Group
  severe : Group
  ban : Group
  deriving DecidableEq, Repr
/-- An open staging record: the group being edited, its owner and the working copy (R56, R61). -/
structure Staging where
  level : Level
  owner : Port
  group : Group
  deriving DecidableEq, Repr
/-- A district record (R67). -/
structure District where
  declared : Level
  effective : Level
  version : Version
  fire : Option Handle
  deriving DecidableEq, Repr
/-- The FSU's state; `tfb` is the FSU's own state of the line (R71). -/
structure Fsu where
  groups : Groups
  staging : Option Staging
  season : Season
  tfb : Bool
  districts : Vector District 8
  deriving DecidableEq, Repr

/-! ## SOU (chapter 5) -/

inductive Position | opened | closed | unknown
  deriving DecidableEq, Repr
inductive Condition | sound | silent | failed
  deriving DecidableEq, Repr
/-- The set of requester classes of an operation (R81). -/
structure Classes where
  reclose : Bool := false
  controller : Bool := false
  maintenance : Bool := false
  hunt : Bool := false
  deriving DecidableEq, Repr
/-- A request in an operation slot. Its close kind is read from its classes (R81; see `OpRequest.closeKind`). -/
structure OpRequest where
  action : SwitchAction
  classes : Classes
  deriving DecidableEq, Repr
inductive Phase | awaitAnswer | awaitMove
  deriving DecidableEq, Repr
structure InFlight where
  request : OpRequest
  phase : Phase
  deriving DecidableEq, Repr
inductive ProfileState | confirmed | pending | refused | noAnswer
  deriving DecidableEq, Repr
/-- Poll classes, in the order of R100. -/
inductive PollClass | routine | head | hunt
  deriving DecidableEq, Repr
inductive Quality | good | over
  deriving DecidableEq, Repr
/-- The last residual of a switch: value in 0.1 A (R102). -/
structure Residual where
  value : Nat
  quality : Quality
  minute : Minute
  deriving DecidableEq, Repr
/-- The first failed test of the dispatch-time gate (R96). -/
inductive GateReason | hold | condition | profile | mode
  deriving DecidableEq, Repr
/-- The results of an operation (R81), with the unit's refusal reason (R85) and the gate's reason (R96). -/
inductive OpResult
  | done | already | refusedByUnit (reason : Byte) | noAnswer | noMove | heldAtDispatch (reason : GateReason)
  | preEmpted | cancelled
  deriving DecidableEq, Repr
structure LastResult where
  action : SwitchAction
  classes : Classes
  result : OpResult
  deriving DecidableEq, Repr
/-- A switch runtime record (R81), with its mechanism timer (R85). -/
structure Runtime where
  position : Position
  condition : Condition
  slot : Option OpRequest
  inFlight : Option InFlight
  mechanism : Timer
  confirmed : Option Nat
  profileState : ProfileState
  pushWanted : Bool
  pollWanted : Option PollClass
  lastResidual : Option Residual
  lastResult : Option LastResult
  deriving DecidableEq, Repr
/-- What the awaited outbound message is (R84), with the profile code sent (R98) or the poll's class (R101). -/
inductive AwaitedKind | operate | setProfile (code : Nat) | poll (cls : PollClass)
  deriving DecidableEq, Repr
/-- The awaited outbound message (R84). `withdrawn` once the switch's record has been returned to its start values while
the wait runs on: a reply then finds nothing awaited, and the expiry changes no runtime record (R12, R160). -/
structure Awaited where
  switch : SwitchNo
  kind : AwaitedKind
  withdrawn : Bool
  deriving DecidableEq, Repr
/-- The link settings record (R103): answer time in 0.1 s, intervals in whole seconds, a level per requester class. -/
structure LinkSettings where
  answerTime : Nat
  pollInterval : Nat
  headInterval : Nat
  reclose : Nat
  controller : Nat
  maintenance : Nat
  hunt : Nat
  profile : Nat
  poll : Nat
  deriving DecidableEq, Repr
/-- An outbound message (12.2). -/
inductive OutMessage | operate (action : SwitchAction) | setProfile (code : Nat) | poll
  deriving DecidableEq, Repr
/-- An outbound frame: unit address and message; its bytes are `OutFrame.bytes`. -/
structure OutFrame where
  address : Byte
  message : OutMessage
  deriving DecidableEq, Repr
/-- The SOU's state; `sent` is the last frame the transmitter sent. -/
structure Sou where
  runtime : Vector Runtime 16
  awaited : Option Awaited
  answerTimer : Timer
  routineTimer : Timer
  headTimer : Timer
  link : LinkSettings
  sent : Option OutFrame
  deriving DecidableEq, Repr

/-! ## RCS (chapter 6) -/

inductive SeqState
  | outOfService | uncertain | closed | opened | deadTime (n : Nat) | reclosing (n : Nat) | reclaim (n : Nat) | lockout
  deriving DecidableEq, Repr
inductive LockoutReason | shots | held | profile | earth | condition | level | mode | restart | closeFailed | cls
  deriving DecidableEq, Repr
structure Lockout where
  reason : LockoutReason
  minute : Minute
  deriving DecidableEq, Repr
/-- A sequence record (R105); the marker is retained with the switch entry (R119). -/
structure Sequence where
  state : SeqState
  shotsUsed : Nat
  deadTimer : Timer
  reclaimTimer : Timer
  tripClass : Option FaultClass
  cancel : Bool
  note : Option FaultClass
  lastLockout : Option Lockout
  marker : Option Nat
  deriving DecidableEq, Repr
structure Rcs where
  seqs : Vector Sequence 16
  deriving DecidableEq, Repr

/-! ## EHU (chapters 7 and 8) -/

inductive WatchState | idle | watching | hunting
  deriving DecidableEq, Repr
inductive ReportClass | above | below | band
  deriving DecidableEq, Repr
inductive StartRefusal | state | full
  deriving DecidableEq, Repr
structure HeadReport where
  value : Nat
  quality : Quality
  cls : ReportClass
  minute : Minute
  deriving DecidableEq, Repr
/-- The watch record (R123). -/
structure Watch where
  state : WatchState
  episode : Bool
  confirmTimer : Timer
  confirmed : Bool
  lastRefusal : Option StartRefusal
  lastHead : Option HeadReport
  deriving DecidableEq, Repr
/-- The hunt parameters record (R127), times in whole seconds. -/
structure HuntParams where
  autoStart : Bool
  confirm : Nat
  listen : Nat
  settle : Nat
  observe : Nat
  essential : Bool
  deriving DecidableEq, Repr
/-- The feeder thresholds: residual pickup in 0.1 A and dropoff percent (R76, R121). -/
structure Thresholds where
  pickup : Nat
  dropoff : Nat
  deriving DecidableEq, Repr
inductive CaseState | idle | locating | stepping | suspended | concluded
  deriving DecidableEq, Repr
inductive StartOrigin | auto | controller | maintenance
  deriving DecidableEq, Repr
inductive StepPhase | opening | settling | observing | closingBack
  deriving DecidableEq, Repr
inductive StepOutcome | downstream | notDownstream | inconclusive | failed
  deriving DecidableEq, Repr
inductive LeftOpenReason | foundIsolate | noCloseBack | held
  deriving DecidableEq, Repr
inductive SuspensionKind | trip | switchFailed | headSilent
  deriving DecidableEq, Repr
inductive ResultKind | found | narrowed | limit | selfCleared | abandoned
  deriving DecidableEq, Repr
inductive AbandonReason | port | restart | mode | integrity
  deriving DecidableEq, Repr
structure Step where
  switch : SwitchNo
  phase : StepPhase
  outcome : Option StepOutcome
  deriving DecidableEq, Repr
structure LeftOpen where
  switch : SwitchNo
  reason : LeftOpenReason
  deriving DecidableEq, Repr
structure Suspension where
  kind : SuspensionKind
  switch : SwitchNo
  deriving DecidableEq, Repr
/-- The hunt case record (R128). -/
structure HuntCase where
  number : CaseNo
  state : CaseState
  startMinute : Option Minute
  startOrigin : Option StartOrigin
  essential : Bool
  candidates : List SwitchNo
  cleared : List SwitchNo
  listen : Timer
  clearedInWindow : Bool
  step : Option Step
  stepsTaken : Nat
  noRetest : BitVec 16
  inconclusive : Vector Nat 16
  leftOpen : List LeftOpen
  suspension : Option Suspension
  result : Option ResultKind
  found : Option SwitchNo
  abandon : Option AbandonReason
  holdHandle : Option Handle
  inconsistent : Bool
  startDeferred : Bool
  deriving DecidableEq, Repr
/-- The EHU's state: watch, parameters, thresholds, case, and the working fields and timers of a step (R139). -/
structure Ehu where
  watch : Watch
  params : HuntParams
  thresholds : Thresholds
  huntCase : HuntCase
  settleTimer : Timer
  observeTimer : Timer
  disturbed : Bool
  deciding : Option ReportClass
  pendingCause : Option Suspension
  pendingAbandon : Option AbandonReason
  runningCount : Nat
  deriving DecidableEq, Repr

/-! ## SVU (chapter 9) -/

inductive StartCause | cold | resetLine | supply
  deriving DecidableEq, Repr
/-- The start-cause record (R168). -/
structure StartCauseRecord where
  last : Option StartCause
  first : Option StartCause
  haltMark : Bool
  deriving DecidableEq, Repr
inductive TimeState | unset | good | degraded
  deriving DecidableEq, Repr
inductive CountSource | tref | oscillator
  deriving DecidableEq, Repr
/-- What READ STATUS returns (R179). -/
structure Status where
  mode : FeederMode
  timeState : TimeState
  halted : Bool
  lkey : Bool
  tfb : Bool
  watch : WatchState
  caseState : CaseState
  counts : LiveCounts
  deriving DecidableEq, Repr
/-- The SVU's state. `badCodes` lists the retained records whose check code does not match their contents (log entry 4);
`haltStatus` is the status as it stood when the part halted (R162). -/
structure Svu where
  minute : Minute
  second : Nat
  timeSet : Bool
  pulseRun : Nat
  source : CountSource
  timeState : TimeState
  startCause : StartCauseRecord
  validity : Bool
  badCodes : List RecordId
  scanTimer : Timer
  halted : Bool
  haltStatus : Option Status
  deriving DecidableEq, Repr

/-! ## RQI (chapters 3 and 10) -/

/-- A set of notices: one flag for each (R176). -/
structure NoticeSet where
  trip : Bool := false
  lockout : Bool := false
  operation : Bool := false
  profile : Bool := false
  hold : Bool := false
  level : Bool := false
  hunt : Bool := false
  integrity : Bool := false
  time : Bool := false
  start : Bool := false
  deriving DecidableEq, Repr
/-- A reservation (R45). -/
inductive Reservation | hold (h : Handle) (v : Version) | district (d : DistrictNo) (v : Version)
  deriving DecidableEq, Repr
/-- Completion codes (10.3). -/
inductive Code
  | done | accepted | already | refusedFormat | refusedPort | refusedMode | refusedRange | refusedStale | refusedLost
  | refusedNotOwner | refusedKey | refusedOrigin | refusedFull | refusedBusy | refusedState | refusedFailed | refusedHeld
  | refusedOrder | refusedSequence | refusedTopology | refusedHalted
  deriving DecidableEq, Repr
/-- What READ SWITCH returns (R18, R77, R81, R105): `subtree` and `segment` are absent together. -/
structure SwitchReport where
  config : Option SwitchConfig
  table : Option SwitchReach
  reach : ZoneSet
  runtime : Runtime
  required : Option Nat
  seqState : SeqState
  shotsUsed : Nat
  deadLeft : Option Nat
  reclaimLeft : Option Nat
  tripClass : Option FaultClass
  lastLockout : Option Lockout
  deriving DecidableEq, Repr
/-- One district of READ LEVELS (R72). -/
structure DistrictReport where
  record : District
  present : Bool
  deriving DecidableEq, Repr
/-- The object a failed topology check names (R14). -/
inductive TopologyObject | zone (z : ZoneNo) | switch (k : SwitchNo)
  deriving DecidableEq, Repr
/-- What READ HUNT returns (R136); times left in whole seconds. -/
structure HuntReport where
  watch : Watch
  confirmLeft : Option Nat
  thresholds : Thresholds
  params : HuntParams
  huntCase : HuntCase
  listenLeft : Option Nat
  zones : List (SwitchNo × ZoneSet)
  deriving DecidableEq, Repr
/-- The data of a response, as the owning rule names it. -/
inductive ResponseData
  | empty
  | zone (info : Option ZoneInfo) (suspicion : Nat)
  | switch (r : SwitchReport)
  | loaded (zones widened : Nat)
  | topology (check : Nat) (object : TopologyObject)
  | placed (handle : Handle) (version : Version) (tooLate : List SwitchNo)
  | hold (handle : Handle) (h : Hold)
  | holds (handles : List Handle) (continuation : Option SlotNo)
  | amended (version : Version) (tooLate : List SwitchNo)
  | released (useCount : UseCount)
  | permission (permitted : Bool) (blocking : Nat) (handles : List Handle) (reach : ZoneSet)
  | reservedLevel (declared effective : Level) (version : Version) (season : Season) (tfb : Bool)
  | staging (level : Level) (group : Group)
  | edited (field : GroupField) (value : GroupValue)
  | committed (level : Level) (changed : Nat)
  | order (check : Nat) (pair : Option (Level × Level))
  | discarded (level : Level) (owner : Port)
  | group (g : Group)
  | groupAndStaging (g : Group) (staging : Option Staging)
  | declared (declared effective : Level) (version : Version)
  | district (record : District)
  | season (season : Season) (changed : Nat)
  | levels (season : Season) (tfb : Bool) (districts : Vector DistrictReport 8) (thresholds : Thresholds) (source : Level)
  | operation (k : SwitchNo) (action : SwitchAction)
  | switchNumber (k : SwitchNo)
  | link (settings : LinkSettings)
  | params (p : HuntParams)
  | caseNumber (n : CaseNo)
  | hunt (r : HuntReport)
  | steppingOn (t : SwitchNo)
  | timeAfter (minute : Minute) (state : TimeState)
  | time (minute : Minute) (second : Nat) (state : TimeState) (timeSet : Bool) (run : Nat) (source : CountSource)
  | startCause (record : StartCauseRecord) (halted : Bool)
  | status (s : Status)
  | notices (set mask : NoticeSet)
  | cleared (before after mask : NoticeSet)
  | identity (bytes : List Byte)
  deriving DecidableEq, Repr
/-- What the owning block returns for a request (R173). -/
structure Completion where
  code : Code
  data : ResponseData
  deriving DecidableEq, Repr
/-- A response (R173): the request code echoed, completion code, discard mark, notice-waiting flag, data. -/
structure Response where
  request : Byte
  code : Code
  discardMark : Bool
  noticeWaiting : Bool
  data : ResponseData
  deriving DecidableEq, Repr
/-- A complete frame in a request buffer: a request, or a frame that fails framing with the code it echoes (R170). -/
inductive Frame | request (r : Request) | malformed (code : Byte)
  deriving DecidableEq, Repr
/-- One port: request buffer, response buffer, discard mark, reservation register, notice set and mask (R45, R169,
R176, R177). -/
structure PortRecord where
  request : Option Frame
  response : Option Response
  discardMark : Bool
  reservation : Option Reservation
  notices : NoticeSet
  mask : NoticeSet
  deriving DecidableEq, Repr
/-- What a read transaction clocked out: the status byte, and the response while the port was READY (R171). -/
structure ReadOut where
  status : Byte
  response : Option Response
  deriving DecidableEq, Repr
structure Rqi where
  controller : PortRecord
  maintenance : PortRecord
  lastRead : Option ReadOut
  deriving DecidableEq, Repr

/-! ## Lines (00 0.3) -/

/-- The discrete input lines as they stand: LKEY, TFB, RESET, and SUPMON's report that the supply has fallen below the
lower threshold and not yet risen above the upper one. `fell` records that SUPMON fell during the present hold in reset,
which gives the start its cause (R166). -/
structure Lines where
  lkey : Bool
  tfb : Bool
  reset : Bool
  supplyLow : Bool
  fell : Bool
  deriving DecidableEq, Repr

end Sys2Proof.Machine
end

