-- ==== Sys2Proof/Machine/Formats.lean ====
section
/-! DEFINITION. Chapter 12: the framing of the request ports, the field-link frames with their check, and the images that
the spec lays out byte by byte (hold record, hunt case, IDENTIFY). -/

namespace Sys2Proof.Machine

/-! ## Bytes -/

/-- A number as two bytes, high byte first (12). -/
def be16 (n : Nat) : List Byte := [BitVec.ofNat 8 (n / 256), BitVec.ofNat 8 n]
/-- A number as four bytes, high byte first (12). -/
def be32 (n : Nat) : List Byte := be16 (n / 65536) ++ be16 (n % 65536)
/-- A flags byte: the listed bits, bit 0 first. -/
def flagsByte (bits : List Bool) : Byte := BitVec.ofNat 8 (bits.foldr (fun b n => 2 * n + b.toNat) 0)

/-! ## Request and response frames (12.1, R170) -/

/-- The request code of a request (12.1). -/
def requestCode : Request → Byte
  | .readZone _ => 0x10 | .readSwitch _ => 0x11 | .loadZones _ => 0x12
  | .configureSwitch _ _ => 0x13 | .configureSwitchRemoval _ => 0x13
  | .enterService => 0x14 | .enterCommissioning => 0x15
  | .placeHold _ => 0x20 | .readHold _ => 0x21 | .listHolds _ _ _ => 0x22 | .amendHold _ => 0x23 | .releaseHold _ => 0x24
  | .checkClose _ _ => 0x25 | .reserveHold _ => 0x28 | .reserveLevel _ => 0x29
  | .openGroupEdit _ => 0x30 | .editGroup _ _ => 0x31 | .commitGroup => 0x32 | .discardGroupEdit => 0x33
  | .readGroup _ _ => 0x34 | .declareLevel _ _ _ => 0x35 | .setSeason _ => 0x36 | .readLevels => 0x37
  | .operateSwitch _ _ => 0x40 | .clearSwitchFailure _ => 0x41 | .retryProfile _ => 0x42 | .setLinkSettings _ => 0x43
  | .setHuntParameters _ => 0x50 | .startHunt _ => 0x51 | .readHunt => 0x52 | .resumeHunt => 0x53 | .abandonHunt => 0x54
  | .closeHuntCase => 0x55 | .setTime _ => 0x60 | .readTime => 0x61 | .readStartCause _ => 0x62
  | .readStatus => 0x70 | .readNotices => 0x71 | .clearNotices _ _ => 0x72 | .identify => 0x73

/-- The catalogue's request codes (12.1). -/
def requestCodes : List Byte :=
  [0x10, 0x11, 0x12, 0x13, 0x14, 0x15, 0x20, 0x21, 0x22, 0x23, 0x24, 0x25, 0x28, 0x29, 0x30, 0x31, 0x32, 0x33, 0x34, 0x35,
   0x36, 0x37, 0x40, 0x41, 0x42, 0x43, 0x50, 0x51, 0x52, 0x53, 0x54, 0x55, 0x60, 0x61, 0x62, 0x70, 0x71, 0x72, 0x73]

/-- The completion code values (12.1). -/
def codeByte : Code → Byte
  | .done => 0x00 | .accepted => 0x01 | .already => 0x02 | .refusedFormat => 0x80 | .refusedPort => 0x81
  | .refusedMode => 0x82 | .refusedRange => 0x83 | .refusedStale => 0x84 | .refusedLost => 0x85 | .refusedNotOwner => 0x86
  | .refusedKey => 0x87 | .refusedOrigin => 0x88 | .refusedFull => 0x89 | .refusedBusy => 0x8A | .refusedState => 0x8B
  | .refusedFailed => 0x8C | .refusedHeld => 0x8D | .refusedOrder => 0x8E | .refusedSequence => 0x8F
  | .refusedTopology => 0x90 | .refusedHalted => 0x91

/-- The sum of the bytes modulo 256 (R170). -/
def byteSum (bytes : List Byte) : Byte := bytes.foldl (· + ·) 0

/-- R170's tests, less the shape of the body: length byte 2 to 255 and matched by the bytes received, sum 0 modulo 256,
request code in the catalogue. -/
def headFramed (bytes : List Byte) : Bool :=
  match bytes with
  | l :: code :: rest =>
    2 ≤ l.toNat && bytes.length == l.toNat + 1 && byteSum bytes == 0 && requestCodes.contains code && !rest.isEmpty
  | _ => false

/-- The request code a frame that fails framing is answered with: the code it held, 0x00 when it held none (12.1). DEDUCED (log entry
38): the second byte of a frame of two bytes is taken as its code, though a sender of length 1 meant it as the check. -/
def heldCode : List Byte → Byte
  | _ :: code :: _ => code
  | _ => 0

/-- A response frame (12.1): length byte, head, data, and the check that makes the sum 0 modulo 256. -/
def responseFrame (r : Response) (data : List Byte) : List Byte :=
  let body := BitVec.ofNat 8 (data.length + 4) :: r.request :: codeByte r.code
    :: flagsByte [r.discardMark, r.noticeWaiting] :: data
  body ++ [-(byteSum body)]

/-! ## Field-link frames (12.2, R181, R182) -/

/-- One bit of the check: generator x^16 + x^12 + x^5 + 1, most significant bit first (R182). -/
def crcBit (c : BitVec 16) : BitVec 16 := if c.msb then (c <<< 1) ^^^ 0x1021 else c <<< 1
/-- One byte of the check. -/
def crcByte (c : BitVec 16) (b : Byte) : BitVec 16 :=
  crcBit (crcBit (crcBit (crcBit (crcBit (crcBit (crcBit (crcBit (c ^^^ (b.setWidth 16 <<< 8)))))))))
/-- The 16-bit check: initial value 0xFFFF, not reflected, no final XOR (R182). -/
def crc16 (bytes : List Byte) : BitVec 16 := bytes.foldl crcByte 0xFFFF

/-- A field-link frame around a message type and body (12.2). -/
def linkFrame (address type : Byte) (body : List Byte) : List Byte :=
  let covered := address :: BitVec.ofNat 8 (body.length + 1) :: type :: body
  covered ++ be16 (crc16 covered).toNat

/-- The bytes of an outbound frame (12.2). -/
def OutFrame.bytes (f : OutFrame) : List Byte :=
  match f.message with
  | .operate .toOpen => linkFrame f.address 0x01 [0x01]
  | .operate .toClose => linkFrame f.address 0x01 [0x02]
  | .setProfile code => linkFrame f.address 0x02 [BitVec.ofNat 8 code]
  | .poll => linkFrame f.address 0x03 []

/-- An inbound message (12.2). -/
inductive Inbound
  | answer (accepted : Bool) (reason : Byte)
  | state (position : Pole) (residual : Option (BitVec 16))
  | trip (faultClass : FaultClass)
  deriving DecidableEq, Repr

/-- The bytes of an inbound frame as a unit sends it (12.2). -/
def Inbound.bytes (address : Byte) : Inbound → List Byte
  | .answer true reason => linkFrame address 0x81 [0x00, reason]
  | .answer false reason => linkFrame address 0x81 [0x01, reason]
  | .state position residual =>
    linkFrame address 0x82
      ((match position with | .opened => 0x01 | .closed => 0x02) ::
        (match residual with | none => [0x00, 0x00, 0x00] | some n => 0x01 :: be16 n.toNat))
  | .trip .phase => linkFrame address 0x83 [0x01]
  | .trip .earth => linkFrame address 0x83 [0x02]
  | .trip .sensitiveEarth => linkFrame address 0x83 [0x03]

/-- A message type and body as a message: the type, the body length and every field tabled in 12.2 (R181). -/
def inboundBody (type : Byte) (body : List Byte) : Option Inbound :=
  match type, body with
  | 0x81, [0x00, 0x00] => some (.answer true 0)
  | 0x81, [0x01, reason] => some (.answer false reason)
  | 0x82, [p, flag, hi, lo] =>
    let residual : Option (Option (BitVec 16)) :=
      if flag = 0x01 then some (some (hi ++ lo)) else if flag = 0x00 ∧ hi = 0 ∧ lo = 0 then some none else none
    match p, residual with
    | 0x01, some r => some (.state .opened r)
    | 0x02, some r => some (.state .closed r)
    | _, _ => none
  | 0x83, [0x01] => some (.trip .phase)
  | 0x83, [0x02] => some (.trip .earth)
  | 0x83, [0x03] => some (.trip .sensitiveEarth)
  | _, _ => none

/-- The receiver's tests on a complete inbound frame that need no record of the part: its length, its check, its type, body
length and field values (R83, R181, R182). Answers the unit address and the message. -/
def parseInbound (bytes : List Byte) : Option (Byte × Inbound) :=
  match bytes with
  | address :: len :: type :: rest =>
    if bytes.length = len.toNat + 4 ∧ 1 ≤ len.toNat then
      let covered := bytes.take (len.toNat + 2)
      if bytes.drop (len.toNat + 2) = be16 (crc16 covered).toNat then
        (inboundBody type (rest.take (len.toNat - 1))).map (address, ·)
      else none
    else none
  | _ => none

/-! ## Images (12.3 to 12.5) -/

/-- A handle as three bytes: the slot, then the use count in two bytes (12). -/
def Handle.bytes (h : Handle) : List Byte := BitVec.ofNat 8 h.slot.val :: be16 h.useCount.toNat

def kindByte : HoldKind → Byte | .noReclose => 1 | .noClose => 2
def strengthByte : Strength → Byte | .plain => 1 | .owned => 2 | .pinned => 3
def originByte : Origin → Byte | .controller => 1 | .maintenance => 2 | .fire => 3 | .hunt => 4 | .system => 5
/-- Cause kind and cause value, 0 when absent (12.3). -/
def causeBytes : Option Cause → List Byte
  | none => [0, 0, 0]
  | some (.district d) => 1 :: be16 d.val
  | some (.huntCase n) => 2 :: be16 n.toNat
  | some .continuity => [3, 0, 0]
  | some .integrity => [4, 0, 0]

/-- The hold record image, 26 bytes (12.3). -/
def holdImage (h : Handle) (r : Hold) : List Byte :=
  h.bytes ++ [kindByte r.kind, strengthByte r.strength, originByte r.origin] ++ be32 r.scope.toNat
    ++ [flagsByte [r.tag.isSome, r.expiry.isSome, r.cause.isSome]]
    ++ be16 ((r.tag.map (·.toNat)).getD 0) ++ be32 ((r.expiry.map (·.toNat)).getD 0) ++ [r.reason] ++ causeBytes r.cause
    ++ be32 r.placed.toNat ++ [r.version]

def caseStateByte : CaseState → Byte | .idle => 0 | .locating => 1 | .stepping => 2 | .suspended => 3 | .concluded => 4
def startOriginByte : StartOrigin → Byte | .auto => 1 | .controller => 2 | .maintenance => 3
def phaseByte : StepPhase → Byte | .opening => 1 | .settling => 2 | .observing => 3 | .closingBack => 4
def outcomeByte : StepOutcome → Byte | .downstream => 1 | .notDownstream => 2 | .inconclusive => 3 | .failed => 4
def suspensionByte : SuspensionKind → Byte | .trip => 1 | .switchFailed => 2 | .headSilent => 3
def resultByte : ResultKind → Byte | .found => 1 | .narrowed => 2 | .limit => 3 | .selfCleared => 4 | .abandoned => 5
def abandonByte : AbandonReason → Byte | .port => 1 | .restart => 2 | .mode => 3 | .integrity => 4
def leftOpenByte : LeftOpenReason → Byte | .foundIsolate => 1 | .noCloseBack => 2 | .held => 3
def switchByte (k : SwitchNo) : Byte := BitVec.ofNat 8 k.val

/-- The hunt case image, 33 + c + k + 2m bytes; `listenLeft` is the listen window left in whole seconds (12.4). -/
def caseImage (c : HuntCase) (listenLeft : Nat) : List Byte :=
  let opt {α : Type} (f : α → Byte) (o : Option α) : Byte := (o.map f).getD 0
  be16 c.number.toNat
    ++ [caseStateByte c.state,
        flagsByte [c.startMinute.isSome, c.step.isSome, c.suspension.isSome, c.result.isSome, c.found.isSome,
          c.abandon.isSome, c.holdHandle.isSome]]
    ++ be32 ((c.startMinute.map (·.toNat)).getD 0)
    ++ [opt startOriginByte c.startOrigin, flagsByte [c.essential],
        flagsByte [c.inconsistent, c.startDeferred, c.clearedInWindow], BitVec.ofNat 8 c.stepsTaken,
        opt (fun st => switchByte st.switch) c.step, opt (fun st => phaseByte st.phase) c.step,
        opt outcomeByte (c.step.bind (·.outcome)), opt (fun p => suspensionByte p.kind) c.suspension,
        opt (fun p => switchByte p.switch) c.suspension, opt resultByte c.result, opt switchByte c.found,
        opt abandonByte c.abandon]
    ++ (c.holdHandle.map Handle.bytes).getD [0, 0, 0]
    ++ be16 c.noRetest.toNat
    ++ be32 (c.inconclusive.toList.foldr (fun n acc => 4 * acc + n) 0)
    ++ [BitVec.ofNat 8 listenLeft, BitVec.ofNat 8 c.candidates.length, BitVec.ofNat 8 c.cleared.length,
        BitVec.ofNat 8 c.leftOpen.length]
    ++ c.candidates.map switchByte ++ c.cleared.map switchByte
    ++ c.leftOpen.flatMap (fun l => [switchByte l.switch, leftOpenByte l.reason])

/-- The data of IDENTIFY, 15 bytes (12.5, R180). -/
def identifyTable : List Byte :=
  [0x3A, 0x61, 0x12, 0xE0, 0x01, 32, 16, 8, 64, 48, 16, 4, 16, 6, 32]

/-- The data of a response where the spec lays it out: the hold image, handles, the tail of READ HUNT's data from the case
image on, and IDENTIFY's table (12.3 to 12.5). The other responses' data stand by their named fields (log entry 1). -/
def ResponseData.layout : ResponseData → Option (List Byte)
  | .hold h r => some (holdImage h r)
  | .holds hs _ => some (hs.flatMap Handle.bytes)
  | .permission _ _ hs _ => some (hs.flatMap Handle.bytes)
  | .hunt r => some (caseImage r.huntCase (r.listenLeft.getD 0) ++ r.zones.flatMap fun e => be32 e.2.toNat)
  | .identity bytes => some bytes
  | .empty => some []
  | _ => none

end Sys2Proof.Machine
end

