-- ==== Sys2Proof/WellFormed.lean ====
section
/-! DEFINITION. Which commands a sender can send: numbers fit the bytes chapter 12 gives them, and a frame event carries bytes
that the event is about. Numbers out of a field's own range are well formed: the part refuses them. -/

namespace Sys2Proof

/-- A handle fits its three bytes (12). -/
def HandleField.wellFormed (h : HandleField) : Bool := h.slot < 256 && h.useCount < 65536

/-- No record is named twice. -/
def recordsDistinct (l : List RecordId) : Bool := l.Nodup

/-- The check on each command. Every constructor is named, so that a new one cannot slip past. -/
def Instr.wellFormed : Instr → Bool
  | .readZone _ zone => zone < 256
  | .readSwitch _ n => n < 256
  | .loadZones _ entries => entries.length < 256
  | .configureSwitch _ n e => n < 256 && e.address < 256 && e.downstream < 256 && e.multiplier < 65536 && e.shift < 256
  | .configureSwitchRemoval _ n => n < 256
  | .enterService _ => true
  | .enterCommissioning _ => true
  | .placeHold _ b => b.scope.Nodup
  | .readHold _ h => h.wellFormed
  | .listHolds _ start zone _ => start < 256 && zone.all (· < 256)
  | .amendHold _ b => b.handle.wellFormed && b.scope.all (·.Nodup)
  | .releaseHold _ b => b.handle.wellFormed
  | .checkClose _ n _ => n < 256
  | .reserveHold _ h => h.wellFormed
  | .reserveLevel _ d => d < 256
  | .openGroupEdit _ _ => true
  | .editGroup _ _ _ => true
  | .commitGroup _ => true
  | .discardGroupEdit _ => true
  | .readGroup _ _ _ => true
  | .declareLevel _ d _ _ => d < 256
  | .setSeason _ _ => true
  | .readLevels _ => true
  | .operateSwitch _ n _ => n < 256
  | .clearSwitchFailure _ n => n < 256
  | .retryProfile _ n => n < 256
  | .setLinkSettings _ _ => true
  | .setHuntParameters _ _ => true
  | .startHunt _ _ => true
  | .readHunt _ => true
  | .resumeHunt _ => true
  | .abandonHunt _ => true
  | .closeHuntCase _ => true
  | .setTime _ _ => true
  | .readTime _ => true
  | .readStartCause _ _ => true
  | .readStatus _ => true
  | .readNotices _ => true
  | .clearNotices _ _ _ => true
  | .identify _ => true
  -- R170: a frame that fails framing, of 1 to 256 bytes (DESIGN CHOICE, log entry 39: R171 bounds no write transaction)
  | .refusedFormatFrame _ bytes shapeWrong =>
    1 ≤ bytes.length && bytes.length ≤ 256 && (shapeWrong || !Machine.headFramed bytes)
  | .frameDiscarded _ => true
  | .readTransaction _ => true
  | .responseSent => true
  -- R172: bytes have arrived, and fewer than the length byte announces
  | .maintenanceByteTimeout bytes =>
    match bytes with
    | [] => false
    | l :: _ => bytes.length < l.toNat + 1
  -- 12.2: the refusal reason is 0 when accepted
  | .answerFrame address accepted reason => 1 ≤ address.toNat && address.toNat ≤ 254 && (!accepted || reason == 0)
  | .stateFrame address _ _ => 1 ≤ address.toNat && address.toNat ≤ 254
  | .tripFrame address _ => 1 ≤ address.toNat && address.toNat ≤ 254
  -- R181: bytes have arrived, and fewer than the body length byte announces with the two check bytes
  | .fieldByteTimeout bytes =>
    match bytes with
    | [] => false
    | [_] => true
    | _ :: b :: _ => bytes.length < b.toNat + 4
  | .answerTimerExpiry => true
  | .mechanismTimerExpiry _ => true
  | .routineTimerExpiry => true
  | .headTimerExpiry => true
  | .deadTimeExpiry _ => true
  | .reclaimExpiry _ => true
  | .confirmTimerExpiry => true
  | .listenWindowExpiry => true
  | .settleTimerExpiry => true
  | .observeTimerExpiry => true
  | .scanPass failed => recordsDistinct failed
  -- R163: 1.5 s without a counted pulse is its own event, yet a pulse may come later still
  | .trefPulse _ => true
  | .trefLoss => true
  | .oscillatorSecond => true
  | .tfbEdge _ => true
  | .lkeyChange _ => true
  | .resetAssert interrupted => recordsDistinct interrupted
  | .resetRelease => true
  | .supplyFall interrupted => recordsDistinct interrupted
  | .supplyRecovery => true
  | .powerUp _ failed => recordsDistinct failed
  -- R181: the frame is complete
  | .inboundFrameDiscarded bytes =>
    match bytes with
    | _ :: b :: _ => bytes.length == b.toNat + 4
    | _ => false

end Sys2Proof
end

