-- ==== Sys2Proof/Decode.lean ====
section
/-! DEFINITION. The commands that words spell by the bits of spec/opcode_table.json. No row of the table gives bits (each has
"fields": [] and no "fixed"): the commands arrive as requests, frames, timer and line events. So no word spells a command.
The byte layouts the spec does give stand in Machine/Formats.lean. -/

namespace Sys2Proof

/-- The command a word spells: none, since no row of the table gives bits. -/
def decodeTableWord (_nbits _w : Nat) : Option Instr := none

end Sys2Proof
end

