-- ==== Sys2Proof/Machine/Cold.lean ====
section
/-! DEFINITION. The cold values of the retained records and the start values of the volatile ones, each from the rule that
specifies its record. -/

namespace Sys2Proof.Machine

/-- R1: not present, suspicion count 0. -/
def ZoneEntry.cold : ZoneEntry := ⟨none, 0⟩

/-- R3, R5, R8: nothing configured, COMMISSIONING, reach table invalid. -/
def Fmu.cold : Fmu :=
  { mode := .commissioning, zones := Vector.replicate 32 .cold, switches := Vector.replicate 16 none, reachTable := none }

/-- R43: empty, use count 0. -/
def Slot.cold : Slot := ⟨none, 0⟩

/-- R27's table and R43: the CONTINUITY hold, placed at minute `m`. -/
def Hold.continuity (m : Minute) : Hold :=
  { kind := .noClose, strength := .pinned, origin := .system, scope := wholeFeeder, tag := none, expiry := none, reason := 0,
    cause := some .continuity, placed := m, version := 0 }

def LiveCounts.zero : LiveCounts := ⟨0, 0, 0, 0, 0⟩

/-- R43: the table after a cold start, the CONTINUITY hold alone, in slot 0 as handle 0/0. -/
def Htu.cold : Htu :=
  { slots := (Vector.replicate 64 Slot.cold).set 0 ⟨some (Hold.continuity 0), 0⟩
    counts := { LiveCounts.zero with system := 1 } }

/-- R59's table. -/
def Groups.cold : Groups :=
  { normal :=
        { shots := 3, dead1 := 10, dead2 := 150, dead3 := 600, reclaim := 30, recloseEarth := true, profile := 0,
          pickup := 80, dropoff := 80, activeTests := true, closeBack := true, isolate := false }
    elevated :=
        { shots := 2, dead1 := 50, dead2 := 300, dead3 := 600, reclaim := 60, recloseEarth := true, profile := 1,
          pickup := 50, dropoff := 80, activeTests := true, closeBack := true, isolate := false }
    severe :=
        { shots := 1, dead1 := 150, dead2 := 300, dead3 := 600, reclaim := 120, recloseEarth := false, profile := 2,
          pickup := 30, dropoff := 80, activeTests := true, closeBack := false, isolate := true }
    ban :=
        { shots := 0, dead1 := 150, dead2 := 300, dead3 := 600, reclaim := 120, recloseEarth := false, profile := 3,
          pickup := 15, dropoff := 80, activeTests := false, closeBack := false, isolate := true } }

/-- R67: declared NORMAL, version 0, no FIRE handle. DEDUCED (log entry 33): R67 gives no cold effective level but the computed one; the
record that R78 compares with holds NORMAL, that of season OUT and TFB not asserted (R68). -/
def District.cold : District := ⟨.normal, .normal, 0, none⟩

def Fsu.cold : Fsu :=
  { groups := .cold, staging := none, season := .outOfSeason, tfb := false, districts := Vector.replicate 8 .cold }

/-- R81's right-hand column. -/
def Runtime.start : Runtime :=
  { position := .unknown, condition := .sound, slot := none, inFlight := none, mechanism := .stopped, confirmed := none,
    profileState := .pending, pushWanted := false, pollWanted := none, lastResidual := none, lastResult := none }

/-- R103 and R94: the defaults. -/
def LinkSettings.default : LinkSettings :=
  { answerTime := 20, pollInterval := 300, headInterval := 5, reclose := 3, controller := 2, maintenance := 2, hunt := 2,
    profile := 1, poll := 0 }

/-- R104: every runtime record at its start values, nothing awaited, every timer stopped. -/
def Sou.start (link : LinkSettings) : Sou :=
  { runtime := Vector.replicate 16 .start, awaited := none, answerTimer := .stopped, routineTimer := .stopped,
    headTimer := .stopped, link := link, sent := none }

/-- R105's right-hand column, with the state R119 gives a switch that is not in service; `marker` as retained. -/
def Sequence.start (marker : Option Nat) : Sequence :=
  { state := .outOfService, shotsUsed := 0, deadTimer := .stopped, reclaimTimer := .stopped, tripClass := none, cancel := false,
    note := none, lastLockout := none, marker := marker }

/-- R123's right-hand column. -/
def Watch.start : Watch :=
  { state := .idle, episode := false, confirmTimer := .stopped, confirmed := false, lastRefusal := none, lastHead := none }

/-- R127: the defaults. -/
def HuntParams.default : HuntParams :=
  { autoStart := true, confirm := 60, listen := 20, settle := 5, observe := 10, essential := false }

/-- R128: the hunt case record after a cold start. DESIGN CHOICE (log entry 48): R128 gives no value for the cleared-in-window mark
there; the mark is clear. -/
def HuntCase.cold : HuntCase :=
  { number := 0, state := .idle, startMinute := none, startOrigin := none, essential := false, candidates := [], cleared := [],
    listen := .stopped, clearedInWindow := false, step := none, stepsTaken := 0, noRetest := 0,
    inconclusive := Vector.replicate 16 0, leftOpen := [], suspension := none, result := none, found := none, abandon := none,
    holdHandle := none, inconsistent := false, startDeferred := false }

/-- R76: the pair of the NORMAL group, as when no district has a present zone. -/
def Thresholds.cold : Thresholds := ⟨80, 80⟩

def Ehu.cold : Ehu :=
  { watch := .start, params := .default, thresholds := .cold, huntCase := .cold, settleTimer := .stopped, observeTimer := .stopped,
    disturbed := false, deciding := none, pendingCause := none, pendingAbandon := none, runningCount := 0 }

/-- R157: a pass begins every 60 s. -/
def Svu.scanPeriod : Nat := 600

/-- R163, R164, R168: the time base and the start-cause record after a cold start. -/
def Svu.cold : Svu :=
  { minute := 0, second := 0, timeSet := false, pulseRun := 0, source := .oscillator, timeState := .unset,
    startCause := ⟨some .cold, some .cold, false⟩, validity := true, badCodes := [],
    scanTimer := .running Svu.scanPeriod Svu.scanPeriod, halted := false, haltStatus := none }

/-- R45, R169, R176, R177: a port at a start, its notice set emptied. -/
def PortRecord.start : PortRecord :=
  { request := none, response := none, discardMark := false, reservation := none, notices := {}, mask := {} }

/-- R167 item 6: after a start the START notice is set on both ports. -/
def Rqi.cold : Rqi :=
  { controller := { PortRecord.start with notices := { start := true } }
    maintenance := { PortRecord.start with notices := { start := true } }
    lastRead := none }

/-- DESIGN CHOICE (log entry 2): no line asserted, the supply up. -/
def Lines.quiet : Lines := ⟨false, false, false, false, false⟩

end Sys2Proof.Machine
end

