-- ==== Sys2Proof/Machine/State.lean ====
section
/-! DEFINITION. The state of the part, block by block, with the queue of waiting commands; the reasons a step could stop;
the state right after reset. -/

namespace Sys2Proof.Machine

/-- The part: the queue of commands that wait, the lines, and the state of the eight blocks (00 0.3). `draws` is the model's
own counter of free values drawn (log entry 3), not the spec's. -/
structure State where
  pending : List Instr
  draws : Nat
  lines : Lines
  fmu : Fmu
  htu : Htu
  fsu : Fsu
  sou : Sou
  rcs : Rcs
  ehu : Ehu
  svu : Svu
  rqi : Rqi
  deriving DecidableEq, Repr

/-- The faults a step can end in. The spec gives every command an effect in every state, so there is none: no command of
this model faults. -/
inductive Fault
  deriving DecidableEq, Repr

/-- The refusals a step can end in. -/
inductive Refusal
  /-- Raised by an arm of `exec` whose command has no meaning yet. Safe: the run stops. No arm raises it now. -/
  | notModelled (mnemonic : String)
  deriving DecidableEq, Repr

/-- The part right after a first power-up with the validity marker absent, which is a cold start (R166, R167), with no line
asserted (log entry 2): every record at its cold or start value, the CONTINUITY hold in slot 0, the START notice set. -/
def State.reset : State :=
  { pending := [], draws := 0, lines := .quiet, fmu := .cold, htu := .cold, fsu := .cold, sou := Sou.start .default,
    rcs := ⟨Vector.replicate 16 (Sequence.start none)⟩, ehu := .cold, svu := .cold, rqi := .cold }

end Sys2Proof.Machine
end

