-- ==== Sys2Proof/Machine/Flags.lean ====
section
/-! DEFINITION. The flag computations: notice sets and their waiting flag, the ATTN and HALT outputs, the controller port's
status byte, the requester classes of an operation and the close kind they give. -/

namespace Sys2Proof.Machine

/-! ## Notices (R176, R177, R178) -/

/-- Whether a flag is set. -/
def NoticeSet.has (n : NoticeSet) : Notice → Bool
  | .trip => n.trip | .lockout => n.lockout | .operation => n.operation | .profile => n.profile | .hold => n.hold
  | .level => n.level | .hunt => n.hunt | .integrity => n.integrity | .time => n.time | .start => n.start

/-- The set with one flag at `b`. -/
def NoticeSet.put (n : NoticeSet) (b : Bool) : Notice → NoticeSet
  | .trip => { n with trip := b } | .lockout => { n with lockout := b } | .operation => { n with operation := b }
  | .profile => { n with profile := b } | .hold => { n with hold := b } | .level => { n with level := b }
  | .hunt => { n with hunt := b } | .integrity => { n with integrity := b } | .time => { n with time := b }
  | .start => { n with start := b }

def NoticeSet.clearAll (n : NoticeSet) (names : List Notice) : NoticeSet := names.foldl (·.put false ·) n
def NoticeSet.ofList (names : List Notice) : NoticeSet := names.foldl (·.put true ·) {}

def allNotices : List Notice :=
  [.trip, .lockout, .operation, .profile, .hold, .level, .hunt, .integrity, .time, .start]

/-- Whether the set holds a flag the mask does not cover (R173, R177). -/
def NoticeSet.waiting (set mask : NoticeSet) : Bool := allNotices.any fun n => set.has n && !mask.has n

/-- The part is held in reset while RESET is asserted or the supply is low (R166). -/
def State.inReset (s : State) : Bool := s.lines.reset || s.lines.supplyLow

/-- The blocks work: neither held in reset nor HALTED (R162, R166). -/
def State.live (s : State) : Bool := !s.inReset && !s.svu.halted

/-- The ATTN output (R178). -/
def State.attn (s : State) : Bool := !s.inReset && s.rqi.controller.notices.waiting s.rqi.controller.mask

/-- The HALT output (00 0.3, R161, R166). -/
def State.haltLine (s : State) : Bool := !s.inReset && s.svu.halted

/-- The controller port's status byte: bits 1 to 0 the port state, bit 2 the discard mark (12.1). -/
def PortRecord.statusByte (p : PortRecord) : Byte :=
  (match p.request, p.response with
    | _, some _ => 2
    | some _, none => 1
    | none, none => 0)
  ||| (if p.discardMark then 4 else 0)

/-! ## Requester classes (R81, R90) -/

/-- The classes of a merged request. -/
def Classes.union (a b : Classes) : Classes :=
  { reclose := a.reclose || b.reclose, controller := a.controller || b.controller
    maintenance := a.maintenance || b.maintenance, hunt := a.hunt || b.hunt }

/-- The class of an operation a port requests. -/
def Classes.ofPort : Port → Classes
  | .controller => { controller := true }
  | .maintenance => { maintenance := true }

/-- The kind of a close: automatic when the RCS or the EHU requests it (00 0.5, R81). -/
def Classes.closeKind (c : Classes) : CloseKind := if c.reclose || c.hunt then .automatic else .deliberate

end Sys2Proof.Machine
end

