-- ==== Sys2Proof/Machine/Operands.lean ====
section
/-! DEFINITION. The operands of the requests as the blocks range-check them: numbers of zones, switches, districts and slots,
handles, scopes, amounts in stored units, and fields with named values. -/

namespace Sys2Proof.Machine

def zoneNo? (n : Nat) : Option ZoneNo := if h : n < 32 then some ⟨n, h⟩ else none
def switchNo? (n : Nat) : Option SwitchNo := if h : n < 16 then some ⟨n, h⟩ else none
def districtNo? (n : Nat) : Option DistrictNo := if h : n < 8 then some ⟨n, h⟩ else none
def slotNo? (n : Nat) : Option SlotNo := if h : n < 64 then some ⟨n, h⟩ else none

/-- A handle in range: slot 0 to 63, use count 0 to 1023 (R21). -/
def handle? (h : HandleField) : Option Handle :=
  match slotNo? h.slot with
  | some i => if h.useCount < 1024 then some ⟨i, BitVec.ofNat 10 h.useCount⟩ else none
  | none => none

/-- The zone set of a single zone. -/
def zoneAlone (z : ZoneNo) : ZoneSet := 1#32 <<< z.val

/-- The set of the zones a predicate picks. -/
def zonesWhere (p : ZoneNo → Bool) : ZoneSet :=
  (List.finRange 32).foldr (fun z acc => if p z then acc ||| zoneAlone z else acc) 0

/-- A scope in range: not empty, and every zone at most 31 (R24 check 1, R32 check 1). -/
def scope? (zones : List Nat) : Option ZoneSet :=
  if zones.isEmpty || zones.any (32 ≤ ·) then none else some (zonesWhere fun z => zones.contains z.val)

/-- The value of a field with named values. -/
def named? {α : Type} : Choice α → Option α
  | .named a => some a
  | .unnamed => none

/-- An optional field with named values: in range when absent or named. -/
def optNamed? {α : Type} : Option (Choice α) → Option (Option α)
  | none => some none
  | some c => (named? c).map some

/-- An optional number against a range. -/
def optWithin (o : Option Nat) (lo hi : Nat) : Bool := o.all fun n => lo ≤ n && n ≤ hi

/-- A quantity in whole stored units within a range. -/
def amountWithin (a : Amount) (lo hi : Nat) : Bool := !a.finer && lo ≤ a.units && a.units ≤ hi

/-- An optional quantity: in range when absent, or in whole stored units within the range. -/
def optAmount (o : Option Amount) (lo hi : Nat) : Bool := o.all fun a => amountWithin a lo hi

/-- A list of names, all of the ten (R177). -/
def names? (l : List (Choice Notice)) : Option (List Notice) := l.mapM named?

end Sys2Proof.Machine
end

