-- ==== Sys2Proof/Machine/Ops.lean ====
section
/-! DEFINITION. The named operations over the records that every block uses: reading and writing one switch's, slot's,
district's, group's or port's record, the timers, setting a notice, losing reservations, and writing a retained record with
its check code. -/

namespace Sys2Proof.Machine

/-! ## Timers (00 0.5) -/

def Timer.start (set : Nat) : Timer := .running set set
def Timer.isRunning : Timer → Bool | .running _ _ => true | .stopped => false
/-- 0.1 s passes; a timer at its end waits for its expiry event (log entry 6). -/
def Timer.tick : Timer → Timer
  | .running set left => .running set (left - 1)
  | .stopped => .stopped
/-- Time left in whole seconds, to the nearest, a half counting up (log entry 8). -/
def Timer.leftSeconds : Timer → Option Nat
  | .running _ left => some ((left + 5) / 10)
  | .stopped => none

/-! ## Records of the blocks -/

def State.runtime (s : State) (k : SwitchNo) : Runtime := s.sou.runtime[k]
def State.setRuntime (s : State) (k : SwitchNo) (r : Runtime) : State := { s with sou.runtime := s.sou.runtime.set k r }
def State.seq (s : State) (k : SwitchNo) : Sequence := s.rcs.seqs[k]
def State.putSeq (s : State) (k : SwitchNo) (q : Sequence) : State := { s with rcs.seqs := s.rcs.seqs.set k q }
def State.slot (s : State) (i : SlotNo) : Slot := s.htu.slots[i]
def State.setSlot (s : State) (i : SlotNo) (v : Slot) : State := { s with htu.slots := s.htu.slots.set i v }
def State.config (s : State) (k : SwitchNo) : Option SwitchConfig := s.fmu.switches[k]
def State.zone (s : State) (z : ZoneNo) : ZoneEntry := s.fmu.zones[z]
def State.district (s : State) (d : DistrictNo) : District := s.fsu.districts[d]
def State.setDistrict (s : State) (d : DistrictNo) (v : District) : State :=
  { s with fsu.districts := s.fsu.districts.set d v }

def Groups.get (g : Groups) : Level → Group
  | .normal => g.normal | .elevated => g.elevated | .severe => g.severe | .ban => g.ban
def Groups.put (g : Groups) (v : Group) : Level → Groups
  | .normal => { g with normal := v } | .elevated => { g with elevated := v } | .severe => { g with severe := v }
  | .ban => { g with ban := v }
def State.group (s : State) (l : Level) : Group := s.fsu.groups.get l

/-- The order of the danger levels (00 0.5). -/
def levelRank : Level → Nat | .normal => 0 | .elevated => 1 | .severe => 2 | .ban => 3
def higherLevel (a b : Level) : Bool := levelRank b < levelRank a

def allSwitches : List SwitchNo := List.finRange 16
def allZones : List ZoneNo := List.finRange 32
def allDistricts : List DistrictNo := List.finRange 8
def allSlots : List SlotNo := List.finRange 64
def allLevels : List Level := [.normal, .elevated, .severe, .ban]

/-- A switch is configured (00 0.5). -/
def State.configured (s : State) (k : SwitchNo) : Bool := (s.config k).isSome
/-- A switch is in service: configured, and the mode SERVICE (00 0.5). -/
def State.inService (s : State) (k : SwitchNo) : Bool := s.configured k && s.fmu.mode == .service
/-- The configured switches, ascending. -/
def State.configuredSwitches (s : State) : List SwitchNo := allSwitches.filter s.configured

/-- The present fields of a zone. -/
def State.zoneInfo (s : State) (z : ZoneNo) : Option ZoneInfo := (s.zone z).info
/-- The present zones of a district (R75). -/
def State.districtZones (s : State) (d : DistrictNo) : ZoneSet :=
  zonesWhere fun z => (s.zoneInfo z).any (·.district == d)

/-! ## Ports (R45, R169, R176) -/

def Rqi.port (r : Rqi) : Port → PortRecord | .controller => r.controller | .maintenance => r.maintenance
def Rqi.setPort (r : Rqi) (v : PortRecord) : Port → Rqi
  | .controller => { r with controller := v }
  | .maintenance => { r with maintenance := v }
def State.port (s : State) (p : Port) : PortRecord := s.rqi.port p
def State.setPort (s : State) (p : Port) (v : PortRecord) : State := { s with rqi := s.rqi.setPort v p }

/-- One change to both ports' records. -/
def State.onPorts (s : State) (f : PortRecord → PortRecord) : State :=
  { s with rqi.controller := f s.rqi.controller, rqi.maintenance := f s.rqi.maintenance }

/-- Sets a notice, in both ports' sets (00 0.5, R176). -/
def State.notify (s : State) (n : Notice) : State := s.onPorts fun p => { p with notices := p.notices.put true n }

/-- Empties a port's reservation register (R49). -/
def State.dropReservation (s : State) (p : Port) : State := s.setPort p { s.port p with reservation := none }

/-- Whether a reservation names a hold. -/
def Reservation.namesHold (r : Reservation) (h : Handle) : Bool := match r with | .hold h' _ => h' == h | .district _ _ => false
/-- Whether a reservation names a district. -/
def Reservation.namesDistrict (r : Reservation) (d : DistrictNo) : Bool :=
  match r with | .district d' _ => d' == d | .hold _ _ => false

/-- Empties every register, on either port, that a test picks. -/
def State.loseReservations (s : State) (test : Reservation → Bool) : State :=
  s.onPorts fun p => if p.reservation.any test then { p with reservation := none } else p

/-- A change of a hold loses the reservations naming it (R50). -/
def State.loseHold (s : State) (h : Handle) : State := s.loseReservations (·.namesHold h)
/-- A change of a district record loses the reservations naming it (R51). -/
def State.loseDistrict (s : State) (d : DistrictNo) : State := s.loseReservations (·.namesDistrict d)

/-! ## The retained store (R156) -/

/-- A record written whole carries a fresh check code (log entry 4). -/
def State.recode (s : State) (r : RecordId) : State := { s with svu.badCodes := s.svu.badCodes.filter (· != r) }

/-- A record whose contents have come to disagree with its check code (log entry 4). -/
def State.corrupt (s : State) (rs : List RecordId) : State :=
  { s with svu.badCodes := s.svu.badCodes ++ rs.filter fun r => !s.svu.badCodes.contains r }

/-- Records of a kind, as tests. -/
def isSlot : RecordId → Bool | .slot _ => true | _ => false
def isZone : RecordId → Bool | .zone _ => true | _ => false
def isSwitch : RecordId → Bool | .switch _ => true | _ => false
def isGroup : RecordId → Bool | .group _ => true | _ => false
/-- The feeder model: zone entries with the mode, and switch entries. -/
def isFeeder (r : RecordId) : Bool := isZone r || isSwitch r
/-- The danger settings: groups, season and districts. -/
def isDanger (r : RecordId) : Bool := isGroup r || r == .seasonDistrict
/-- The hunt's records. -/
def isHunt (r : RecordId) : Bool := r == .huntParameters || r == .huntCase
/-- The feeder mode, which shares the check code of zone entry 0 (R156). -/
def isMode (r : RecordId) : Bool := r == .zone 0

/-! ## Completions -/

def Completion.done (d : ResponseData := .empty) : Completion := ⟨.done, d⟩
def Completion.accepted (d : ResponseData) : Completion := ⟨.accepted, d⟩
def Completion.already (d : ResponseData := .empty) : Completion := ⟨.already, d⟩
/-- A refusal that carries no data (R173). -/
def Completion.refuse (c : Code) : Completion := ⟨c, .empty⟩

end Sys2Proof.Machine
end

