-- ==== Sys2Proof/Machine/Feeder.lean ====
section
/-! DEFINITION. The shape of the feeder (chapter 1): subtree, segment, energisation reach, tree preorder, and the topology
checks of ENTER SERVICE. -/

namespace Sys2Proof.Machine

/-- The fields of a present zone. -/
def Fmu.info (f : Fmu) (z : ZoneNo) : Option ZoneInfo := f.zones[z].info

/-- Whether a walk from `start` visits `z`: climbing from `z` through present zones that may be passed into reaches
`start`. -/
def Fmu.walkVisits (f : Fmu) (pass : ZoneInfo → Bool) (start : ZoneNo) : Nat → ZoneNo → Bool
  | 0, z => z == start
  | n + 1, z =>
    z == start ||
      match f.info z with
      | none => false
      | some i => pass i && match i.parent with
        | none => false
        | some p => f.walkVisits pass start n p

/-- The zones a walk from `start` visits. A walk has at most 32 zones. -/
def Fmu.walk (f : Fmu) (pass : ZoneInfo → Bool) (start : ZoneNo) : ZoneSet := zonesWhere (f.walkVisits pass start 32)

/-- The subtree from a downstream zone: no boundary stops the walk (R6). -/
def Fmu.subtree (f : Fmu) (start : ZoneNo) : ZoneSet := f.walk (fun _ => true) start
/-- The segment from a downstream zone: a SWITCHED boundary stops the walk (R6). -/
def Fmu.segment (f : Fmu) (start : ZoneNo) : ZoneSet := f.walk (fun i => i.boundary == .fixed) start

/-- The reach table as both builds make it (R6). -/
def Fmu.buildReach (f : Fmu) : Vector (Option SwitchReach) 16 :=
  Vector.ofFn fun k => f.switches[k].map fun c => ⟨f.subtree c.downstream, f.segment c.downstream⟩

/-- A switch counts as closed unless its position is OPEN with nothing in flight (R7). -/
def Runtime.countsClosed (r : Runtime) : Bool := r.position != .opened || r.inFlight.isSome

/-- R7's walk from a downstream zone, with the positions of this moment. -/
def State.walkReach (s : State) (start : ZoneNo) : ZoneSet :=
  s.fmu.walk (fun i => match i.boundary with | .fixed => true | .switched k => (s.runtime k).countsClosed) start

/-- The energisation reach of a switch (R7); the whole feeder while the reach table is invalid (R8). An unconfigured switch
with the table valid has no downstream zone to walk from: the free value of log entry 3. -/
def State.reach (s : State) (k : SwitchNo) : ZoneSet :=
  match s.fmu.reachTable with
  | none => wholeFeeder
  | some _ => match s.config k with
    | some c => s.walkReach c.downstream
    | none => Config.reachOfUnconfigured s.draws

/-- Subtree and segment of a switch; absent while the table is invalid or the switch not configured (R8, R18). -/
def State.tableEntry (s : State) (k : SwitchNo) : Option SwitchReach := s.fmu.reachTable.bind fun t => t[k]
def State.segment (s : State) (k : SwitchNo) : ZoneSet := ((s.tableEntry k).map (·.segment)).getD 0
def State.subtree (s : State) (k : SwitchNo) : ZoneSet := ((s.tableEntry k).map (·.subtree)).getD 0

/-- The children of a zone, ascending. -/
def Fmu.children (f : Fmu) (z : ZoneNo) : List ZoneNo := allZones.filter fun c => (f.info c).any (·.parent == some z)

/-- Tree preorder from a zone (00 0.5). -/
def Fmu.preorderFrom (f : Fmu) : Nat → ZoneNo → List ZoneNo
  | 0, z => [z]
  | n + 1, z => z :: (f.children z).flatMap (f.preorderFrom n)

/-- The configured switches by tree preorder of their downstream zones. -/
def State.switchesInPreorder (s : State) : List SwitchNo :=
  (s.fmu.preorderFrom 32 0).flatMap fun z => allSwitches.filter fun k => (s.config k).any (·.downstream == z)

/-- The configured switch a unit address belongs to: the lowest-numbered that carries it (R4). -/
def State.ownerOf (s : State) (address : Byte) : Option SwitchNo :=
  allSwitches.find? fun k => (s.config k).any (·.address == address)

/-! ## The topology checks (R14) -/

/-- Following parents from `z` reaches zone 0 within 31 steps. -/
def Fmu.reachesHead (f : Fmu) (z : ZoneNo) : Bool := f.walkVisits (fun _ => true) 0 31 z

/-- The present zones whose SWITCHED boundary names a switch. -/
def Fmu.zonesNaming (f : Fmu) (k : SwitchNo) : List ZoneNo := allZones.filter fun z => (f.info z).any (·.boundary == .switched k)

/-- Check 1 of zone 0. -/
def Fmu.check1 (f : Fmu) : Bool := (f.info 0).any (·.parent.isNone)
/-- Check 2 of a zone: its parent is present. -/
def Fmu.check2 (f : Fmu) (z : ZoneNo) : Bool :=
  z == 0 || (f.info z).all fun i => i.parent.any fun p => (f.info p).isSome
/-- Check 3 of a zone: its parents lead to zone 0. -/
def Fmu.check3 (f : Fmu) (z : ZoneNo) : Bool := (f.info z).isNone || f.reachesHead z
/-- Check 4 of a zone: its SWITCHED boundary names a configured switch whose downstream zone it is. -/
def Fmu.check4 (f : Fmu) (z : ZoneNo) : Bool :=
  (f.info z).all fun i => match i.boundary with
    | .fixed => true
    | .switched k => f.switches[k].any (·.downstream == z)
/-- Check 5 of a switch: exactly one present zone names it. -/
def Fmu.check5 (f : Fmu) (k : SwitchNo) : Bool := f.switches[k].isNone || (f.zonesNaming k).length == 1
/-- Check 6: switch 0 is configured and zone 0's boundary names it. -/
def Fmu.check6 (f : Fmu) : Bool := f.switches[(0 : SwitchNo)].isSome && (f.info 0).any (·.boundary == .switched 0)
/-- Check 7 of a switch: no lower-numbered configured switch carries its address. -/
def Fmu.check7 (f : Fmu) (k : SwitchNo) : Bool :=
  f.switches[k].all fun c => allSwitches.all fun j => !(j.val < k.val) || f.switches[j].all (·.address != c.address)

/-- The first failed check of R14, with the zone or switch at which it failed. -/
def Fmu.failedCheck (f : Fmu) : Option (Nat × TopologyObject) :=
  let zoneAt (n : Nat) (ok : ZoneNo → Bool) := (allZones.find? fun z => !ok z).map fun z => (n, TopologyObject.zone z)
  let switchAt (n : Nat) (ok : SwitchNo → Bool) := (allSwitches.find? fun k => !ok k).map fun k => (n, TopologyObject.switch k)
  (if f.check1 then none else some (1, .zone 0))
    <|> zoneAt 2 f.check2 <|> zoneAt 3 f.check3 <|> zoneAt 4 f.check4 <|> switchAt 5 f.check5
    <|> (if f.check6 then none else some (6, .switch 0))
    <|> switchAt 7 f.check7

end Sys2Proof.Machine
end

