-- ==== Sys2Proof/Machine/Holds.lean ====
section
/-! DEFINITION. The hold table (chapter 2): placement, departure, widening, amendment, listing, and close permission. What a
departure of a HUNT hold starts in the EHU is added in Machine/Watch.lean. -/

namespace Sys2Proof.Machine

/-! ## Slots and counts (R19, R23) -/

def LiveCounts.get (c : LiveCounts) : Origin → Nat
  | .controller => c.controller | .maintenance => c.maintenance | .fire => c.fire | .hunt => c.hunt | .system => c.system
def LiveCounts.modify (c : LiveCounts) (f : Nat → Nat) : Origin → LiveCounts
  | .controller => { c with controller := f c.controller } | .maintenance => { c with maintenance := f c.maintenance }
  | .fire => { c with fire := f c.fire } | .hunt => { c with hunt := f c.hunt } | .system => { c with system := f c.system }

/-- The live hold in a slot. -/
def State.holdAt (s : State) (i : SlotNo) : Option Hold := (s.slot i).hold
/-- The handle of a slot as it stands (R19). -/
def State.handleAt (s : State) (i : SlotNo) : Handle := ⟨i, (s.slot i).useCount⟩
/-- The live hold a handle names; none when the handle is stale (R21). -/
def State.liveHold (s : State) (h : Handle) : Option Hold :=
  if (s.slot h.slot).useCount = h.useCount then s.holdAt h.slot else none
/-- The slots whose live hold passes a test, ascending. -/
def State.slotsWhere (s : State) (test : Hold → Bool) : List SlotNo := allSlots.filter fun i => (s.holdAt i).any test
/-- The counts of live holds, counted afresh from the slots (R42). -/
def State.recount (s : State) : LiveCounts :=
  let n (o : Origin) := (s.slotsWhere (·.origin == o)).length
  ⟨n .controller, n .maintenance, n .fire, n .hunt, n .system⟩

/-! ## Placement (R25, R27) -/

/-- The lowest-numbered empty slot. -/
def State.lowestEmpty (s : State) : Option SlotNo := allSlots.find? fun i => (s.holdAt i).isNone

/-- Places a hold in the lowest-numbered empty slot: the slot's use count is not changed, the origin's count rises, the HOLD
notice is set, the handle returned. With no slot empty, which R23 excludes, nothing is placed. -/
def State.placeHold (s : State) (h : Hold) : State × Option Handle :=
  match s.lowestEmpty with
  | none => (s, none)
  | some i =>
    ((({ s with htu.counts := s.htu.counts.modify (· + 1) h.origin }).setSlot i { s.slot i with hold := some h }).notify .hold,
     some (s.handleAt i))

/-- A hold of device origin as R27's table gives it. -/
def State.deviceHold (s : State) (kind : HoldKind) (strength : Strength) (origin : Origin) (scope : ZoneSet) (cause : Cause) :
    Hold :=
  { kind := kind, strength := strength, origin := origin, scope := scope, tag := none, expiry := none, reason := 0,
    cause := some cause, placed := s.svu.minute, version := 0 }

/-! ## Departure (R35) -/

/-- The FSU drops the handle it keeps for a district when its hold departs (R35, R67). -/
def District.dropHandle (d : District) (h : Handle) : District := if d.fire = some h then { d with fire := none } else d

/-- The owner of a departed hold drops the handle it keeps (R21, R35): the FSU a district's, the EHU the case's. -/
def State.dropHandle (s : State) (origin : Origin) (h : Handle) : State :=
  match origin with
  | .fire => { s with fsu.districts := Vector.ofFn fun d => s.fsu.districts[d].dropHandle h }
  | .hunt =>
    if s.ehu.huntCase.holdHandle = some h then { s with ehu.huntCase.holdHandle := none } else s
  | _ => s

/-- The departure of the hold in a slot, in one taking: the slot empties, its use count advances, the origin's count falls,
the HOLD notice is set, a reservation naming the hold is lost, the owner drops its handle. An empty slot, which only the
clearing of R36 meets, has its use count advanced and the HOLD notice set. -/
def State.vacate (s : State) (i : SlotNo) : State :=
  let v := s.slot i
  let emptied := ((s.setSlot i ⟨none, v.useCount + 1⟩).loseHold ⟨i, v.useCount⟩).notify .hold
  match v.hold with
  | none => emptied
  | some h =>
    ({ emptied with htu.counts := emptied.htu.counts.modify (· - 1) h.origin }).dropHandle h.origin ⟨i, v.useCount⟩

/-! ## Close permission (R39) -/

/-- Whether a hold blocks a close of a kind over a reach. -/
def Hold.blocks (h : Hold) (kind : CloseKind) (reach : ZoneSet) : Bool :=
  h.scope.meets reach && (h.kind == .noClose || kind == .automatic)

/-- The slots of the blocking holds, ascending. The close is permitted when there is none. -/
def State.blockers (s : State) (k : SwitchNo) (kind : CloseKind) : List SlotNo :=
  s.slotsWhere (·.blocks kind (s.reach k))

def State.closePermitted (s : State) (k : SwitchNo) (kind : CloseKind) : Bool := (s.blockers k kind).isEmpty

/-- The too-late list: the switches whose CLOSE is in flight and which the hold would block now (R26). -/
def State.tooLate (s : State) (h : Hold) : List SwitchNo :=
  allSwitches.filter fun k =>
    (s.runtime k).inFlight.any fun f =>
      f.request.action == .toClose && h.blocks f.request.classes.closeKind (s.reach k)

/-! ## Widening (R11) -/

/-- Whether LOAD ZONES widens a hold. -/
def Hold.widens (h : Hold) : Bool :=
  (h.origin == .controller || h.origin == .maintenance || h.origin == .hunt) && h.scope != wholeFeeder

/-- Widens the hold in a slot to the whole feeder, advancing its version; the reservations naming it are lost. -/
def State.widen (s : State) (i : SlotNo) : State :=
  match s.holdAt i with
  | none => s
  | some h =>
    (s.setSlot i { s.slot i with hold := some { h with scope := wholeFeeder, version := h.version + 1 } }).loseHold
      (s.handleAt i)

/-- Widens every hold R11 names; the number widened. -/
def State.widenAll (s : State) : State × Nat :=
  let slots := s.slotsWhere (·.widens)
  let t := slots.foldl State.widen s
  (if slots.isEmpty then t else t.notify .hold, slots.length)

/-! ## Authority and amendment (R22, R30 to R33) -/

/-- Whether a request has release authority over a hold; the code that refuses it otherwise (R22). -/
def Hold.authority (h : Hold) (tag : Option OwnerTag) (lkey : Bool) : Except Code Unit :=
  match h.strength with
  | .plain => .ok ()
  | .owned => if lkey || (tag.isSome && tag == h.tag) then .ok () else .error .refusedNotOwner
  | .pinned => if lkey then .ok () else .error .refusedKey

def strengthRank : Strength → Nat | .plain => 0 | .owned => 1 | .pinned => 2

/-- The changes an AMEND HOLD carries, in range. -/
structure AmendChanges where
  expiry : ExpiryChange
  strength : Option Strength
  scope : Option ZoneSet
  kind : Option HoldKind
  deriving DecidableEq, Repr

/-- The changes with every one dropped that gives a field the value it already has (R30). DEDUCED (log entry 25): an amendment that raises
to PINNED and carries the expiry minute the hold already has thereby carries no expiry minute when R31 is applied; the hold becomes
PINNED with no expiry minute. -/
def AmendChanges.against (c : AmendChanges) (h : Hold) : AmendChanges :=
  { expiry := match c.expiry with
      | .give m => if h.expiry = some m then .keep else .give m
      | .remove => if h.expiry.isNone then .keep else .remove
      | .keep => .keep
    strength := if c.strength = some h.strength then none else c.strength
    scope := if c.scope = some h.scope then none else c.scope
    kind := if c.kind = some h.kind then none else c.kind }

/-- No change is left. -/
def AmendChanges.isEmpty (c : AmendChanges) : Bool := c == ⟨.keep, none, none, none⟩

/-- Some change is relaxing (R30); the changes are those that differ from the hold's values. -/
def AmendChanges.relaxes (c : AmendChanges) (h : Hold) : Bool :=
  c.strength.any (fun g => strengthRank g < strengthRank h.strength)
    || c.scope.any (fun z => !h.scope.within z)
    || c.kind == some .noReclose

/-- The owner tag after an amendment; none when it cannot be settled (R31). -/
def settleTag (strength : Strength) (existing carried : Option OwnerTag) : Option (Option OwnerTag) :=
  match strength with
  | .plain => some existing
  | .pinned => some (existing <|> carried)
  | .owned => match existing <|> carried with
    | some t => some (some t)
    | none => none

/-- The hold as amended, or none where R32's check 6 refuses: the tag cannot be settled, an expiry minute meets PINNED, or a
new expiry minute is not later than the minute count. -/
def AmendChanges.apply (c : AmendChanges) (h : Hold) (carried : Option OwnerTag) (now : Minute) : Option Hold :=
  let strength := c.strength.getD h.strength
  match settleTag strength h.tag carried, c.expiry with
  | none, _ => none
  | some tag, .give m =>
    if strength == .pinned || m.toNat ≤ now.toNat then none
    else some { h with
      strength := strength, tag := tag, expiry := some m, scope := c.scope.getD h.scope, kind := c.kind.getD h.kind
      version := h.version + 1 }
  | some tag, e =>
    some { h with
      strength := strength, tag := tag, scope := c.scope.getD h.scope, kind := c.kind.getD h.kind
      expiry := if strength == .pinned || e == .remove then none else h.expiry
      version := h.version + 1 }

/-- Whether an amendment builds a too-late list: it enlarged the scope, or changed the kind to NO_CLOSE (R33). -/
def AmendChanges.tightens (c : AmendChanges) (h : Hold) : Bool :=
  c.scope.any (fun z => !ZoneSet.within z h.scope) || c.kind == some .noClose

/-! ## Expiry (R37, R38) -/

/-- The slots whose hold's expiry minute is at or before the minute count. -/
def State.expiredSlots (s : State) : List SlotNo :=
  s.slotsWhere fun h => h.expiry.any fun m => m.toNat ≤ s.svu.minute.toNat

end Sys2Proof.Machine
end

