-- ==== Sys2Proof/Machine/Watch.lean ====
section
/-! DEFINITION. The earth-fault watch and the parts of the hunt case that move no switch (chapter 7; 8.5): classification, the
watch, case start, LOCATING, suspension and resumption, the conclusions without a hold, and what the EHU does at the
departure of a HUNT hold. -/

namespace Sys2Proof.Machine

/-! ## Polls (R100) -/

def PollClass.rank : PollClass → Nat | .routine => 0 | .head => 1 | .hunt => 2

/-- A poll wanted set on a record: the later class of the two stays (R100). -/
def Runtime.wantPoll (r : Runtime) (c : PollClass) : Runtime :=
  match r.pollWanted with
  | some old => if old.rank < c.rank then { r with pollWanted := some c } else r
  | none => { r with pollWanted := some c }

def State.wantPoll (s : State) (k : SwitchNo) (c : PollClass) : State := s.setRuntime k ((s.runtime k).wantPoll c)

/-! ## Classification (R121) -/

/-- The class of a report of value `v`, in 0.1 A. -/
def Thresholds.classify (t : Thresholds) (v : Nat) : ReportClass :=
  if t.pickup ≤ v then .above else if v * 100 ≤ t.pickup * t.dropoff then .below else .band

/-! ## The case record -/

/-- A step is under way (R139). -/
def State.stepUnderWay (s : State) : Bool := s.ehu.huntCase.step.isSome
/-- A switch is under hunt test (R139). -/
def State.underTest (s : State) (k : SwitchNo) : Bool := s.ehu.huntCase.step.any (·.switch == k)
/-- A case is open (R128): started and not concluded. -/
def CaseState.isOpen : CaseState → Bool
  | .locating | .stepping | .suspended => true
  | .idle | .concluded => false

/-- The downstream zone of a candidate lies in a switch's subtree. -/
def State.candidateBelow (s : State) (t c : SwitchNo) : Bool :=
  (s.config c).any fun cfg => (s.subtree t).has cfg.downstream

/-- Removes from the candidates those a test picks, appending them to the cleared list in order. A removal that would empty
the list is not applied, and INCONSISTENT is noted (R129, R133, R143). -/
def HuntCase.eliminate (c : HuntCase) (out : SwitchNo → Bool) : HuntCase :=
  let left := c.candidates.filter fun k => !out k
  if left.isEmpty then { c with inconsistent := true }
  else { c with candidates := left, cleared := c.cleared ++ c.candidates.filter out }

/-- Names a switch in the left-open list; a switch that stands there keeps its entry (R139). -/
def HuntCase.nameLeftOpen (c : HuntCase) (k : SwitchNo) (r : LeftOpenReason) : HuntCase :=
  if c.leftOpen.any (·.switch == k) then c else { c with leftOpen := c.leftOpen ++ [⟨k, r⟩] }

/-! ## Starting a case (R126, R130, R131, R132) -/

/-- Check 4 of R130: switch 0 is configured with residual sensing, CLOSED and SOUND. -/
def State.headFit (s : State) : Bool :=
  (s.config 0).any (·.sensing) && (s.runtime 0).position == .closed && (s.runtime 0).condition == .sound

/-- Checks 2 to 5 of R130; the code of the first that fails. -/
def State.startChecks (s : State) : Option Code :=
  if s.fmu.mode == .commissioning then some .refusedState
  else if s.ehu.huntCase.state == .suspended then some .refusedBusy
  else if s.ehu.huntCase.state != .idle then some .refusedState
  else if !s.headFit then some .refusedState
  else if Config.huntHolds ≤ s.htu.counts.hunt then some .refusedFull
  else none

/-- Whether R132 polls a switch: residual sensing, CLOSED, and a candidate's downstream zone in its subtree. -/
def State.locatingPolls (s : State) (k : SwitchNo) : Bool :=
  (s.config k).any (·.sensing) && (s.runtime k).position == .closed
    && s.ehu.huntCase.candidates.any (s.candidateBelow k)

/-- Enters LOCATING: the polls, the mark cleared, a fresh listen window (R132). -/
def State.enterLocating (s : State) : State :=
  let t := (allSwitches.filter s.locatingPolls).foldl (fun u k => u.wantPoll k .hunt) s
  { t with
    ehu.huntCase.state := .locating
    ehu.huntCase.clearedInWindow := false
    ehu.huntCase.listen := .start (10 * s.ehu.params.listen) }

/-- The next case number: 65535 is followed by 1 (R131). -/
def nextCase (n : CaseNo) : CaseNo := if n = BitVec.allOnes 16 then 1 else n + 1

/-- The candidates of a case that starts now (R131 item 4). -/
def State.startCandidates (s : State) : List SwitchNo :=
  s.switchesInPreorder.filter fun k => (s.config k).any fun c => (s.reach 0).has c.downstream

/-- The case record as a start writes it, before LOCATING is entered (R131 items 1 to 4). -/
def State.freshCase (s : State) (origin : StartOrigin) (essential : Bool) : HuntCase :=
  { HuntCase.cold with
    number := nextCase s.ehu.huntCase.number
    startMinute := some s.svu.minute
    startOrigin := some origin
    essential := essential
    candidates := s.startCandidates
    startDeferred := origin == .auto && s.ehu.watch.lastRefusal == some .full && s.ehu.huntCase.startDeferred }

/-- A case start, taken whole (R131). -/
def State.startCase (s : State) (origin : StartOrigin) (essential : Bool) : State :=
  let w := s.ehu.watch
  State.enterLocating
    (State.notify
      { s with
        ehu.huntCase := s.freshCase origin essential
        ehu.watch := { w with state := .hunting, confirmTimer := .stopped, confirmed := false, lastRefusal := none } }
      .hunt)

/-- Records a failed automatic attempt: the refusal, the START DEFERRED note, and the HUNT notice when the refusal differs
from the last recorded (R126). -/
def State.attemptFailed (s : State) (r : StartRefusal) : State :=
  let t := { s with ehu.watch.lastRefusal := some r, ehu.huntCase.startDeferred := r == .full }
  if s.ehu.watch.lastRefusal = some r then t else t.notify .hunt

/-- An automatic start attempt (R126). -/
def State.attemptStart (s : State) : State :=
  match s.startChecks with
  | none => s.startCase .auto s.ehu.params.essential
  | some .refusedFull => s.attemptFailed .full
  | some _ => s.attemptFailed .state

/-- A new attempt where R126 has one made: WATCHING, confirmed, auto-start yes. -/
def State.retryStart (s : State) : State :=
  let w := s.ehu.watch
  if w.state == .watching && w.confirmed && s.ehu.params.autoStart then s.attemptStart else s

/-- The HTU reports the departure of a hold to the EHU when its origin is HUNT (R35, R126). -/
def State.reportDeparture (s : State) (origin : Origin) : State := if origin == .hunt then s.retryStart else s

/-- The departure of the hold in a slot, with its report (R35). -/
def State.departHold (s : State) (i : SlotNo) : State :=
  match s.holdAt i with
  | none => s
  | some h => (s.vacate i).reportDeparture h.origin

/-- The owed expiries depart, each in its own slot (R37, R38). -/
def State.expireHolds (s : State) : State := s.expiredSlots.foldl State.departHold s

/-! ## Conclusion without a switch moved (R152) -/

/-- The part of a conclusion common to every result: windows and step timers stop, CONCLUDED, the result recorded. -/
def HuntCase.conclude (c : HuntCase) (r : ResultKind) : HuntCase :=
  { c with state := .concluded, listen := .stopped, result := some r }

def State.concludeCase (s : State) (r : ResultKind) : State :=
  { s with
    ehu.huntCase := s.ehu.huntCase.conclude r
    ehu.settleTimer := .stopped
    ehu.observeTimer := .stopped }

/-- SELF-CLEARED: no hold (R152). -/
def State.concludeSelfCleared (s : State) : State := (s.concludeCase .selfCleared).notify .hunt

/-- ABANDONED with its reason: no hold (R152). -/
def State.concludeAbandoned (s : State) (r : AbandonReason) : State :=
  let t := s.concludeCase .abandoned
  State.notify { t with ehu.huntCase.abandon := some r } .hunt

/-- An abandonment during a step becomes pending, unless one is (R146). -/
def State.pendAbandon (s : State) (r : AbandonReason) : State :=
  if s.ehu.pendingAbandon.isSome then s else { s with ehu.pendingAbandon := some r }

/-- A cause that abandons an open case: at once in LOCATING and SUSPENDED, pending in STEPPING (R17, R146, R150). -/
def State.abandonCase (s : State) (r : AbandonReason) : State :=
  match s.ehu.huntCase.state with
  | .locating | .suspended => s.concludeAbandoned r
  | .stepping => s.pendAbandon r
  | .idle | .concluded => s

/-! ## Suspension and resumption (R147, R149) -/

/-- The stopping condition of a cause holds (R149). -/
def State.stillStopped (s : State) (p : Suspension) : Bool :=
  match p.kind with
  | .trip => s.ehu.runningCount != 0
  | .switchFailed => (s.runtime p.switch).condition == .failed
  | .headSilent => (s.runtime 0).condition != .sound

/-- Resumption: the cause cleared, LOCATING entered again (R149). -/
def State.resumeCase (s : State) : State := State.enterLocating { s with ehu.huntCase.suspension := none }

/-- The check of R149 for a case suspended for TRIP. -/
def State.checkResume (s : State) : State :=
  match s.ehu.huntCase.state, s.ehu.huntCase.suspension with
  | .suspended, some ⟨.trip, k⟩ => if s.stillStopped ⟨.trip, k⟩ then s else s.resumeCase
  | _, _ => s

/-- Suspends the case, and resumes it at once for a TRIP with no sequence running (R147). -/
def State.suspendCase (s : State) (p : Suspension) : State :=
  State.checkResume
    (State.notify
      { s with ehu.huntCase.state := .suspended, ehu.huntCase.listen := .stopped, ehu.huntCase.suspension := some p }
      .hunt)

/-- The RCS's report of the running sequences (R106, R148). -/
def State.countReport (s : State) (n : Nat) : State := State.checkResume { s with ehu.runningCount := n }

/-! ## What disturbs a step (R141, R146) -/

/-- Sets the disturbance mark while the outcome of a step under way is undecided (R141). -/
def State.disturb (s : State) : State :=
  match s.ehu.huntCase.step with
  | some ⟨_, _, none⟩ => { s with ehu.disturbed := true }
  | _ => s

/-- A suspension cause that arises during a step: the first is kept (R146). -/
def State.pendCause (s : State) (p : Suspension) : State :=
  if s.ehu.pendingCause.isSome then s else { s with ehu.pendingCause := some p }

/-- A cause that suspends the case: at once in LOCATING, pending with the mark set in STEPPING, else nothing (R135, R141,
R146, R148). -/
def State.causeArises (s : State) (p : Suspension) : State :=
  match s.ehu.huntCase.state with
  | .locating => s.suspendCase p
  | .stepping => s.disturb.pendCause p
  | _ => s

/-- A trip handed to the EHU (R87). -/
def State.huntTrip (s : State) (k : SwitchNo) : State := s.causeArises ⟨.trip, k⟩

/-- A change of a switch's condition reported to the EHU (R82, R135, R148). -/
def State.conditionReport (s : State) (k : SwitchNo) : State :=
  if s.ehu.huntCase.state == .suspended then s.checkResume
  else if k == 0 && (s.runtime 0).condition != .sound then s.causeArises ⟨.headSilent, 0⟩
  else s

/-- Sets a switch's condition, reporting a change of it to the EHU (R82). -/
def State.setCondition (s : State) (k : SwitchNo) (c : Condition) : State :=
  if (s.runtime k).condition = c then s
  else (s.setRuntime k { s.runtime k with condition := c }).conditionReport k

/-- Whether a step holds its switch open for the test: opened, and not yet being closed back. -/
def Step.holdsOpen (st : Step) : Bool := st.phase == .settling || st.phase == .observing

/-- A position report handed to the EHU: the switch, the position, and whether it changed (R88, R141, R148). -/
def State.huntPosition (s : State) (k : SwitchNo) (p : Pole) (changed : Bool) : State :=
  match s.ehu.huntCase.step with
  | some st =>
    if (st.switch != k && changed) || (st.switch == k && st.holdsOpen && p == .closed) then s.disturb else s
  | none => s.checkResume

/-- The taking of a port's OPERATE SWITCH reported to the EHU (R91, R141). -/
def State.huntOperateTaken (s : State) (k : SwitchNo) : State := if s.underTest k then s else s.disturb

/-! ## Residual reports (R122, R124, R126, R133) -/

/-- The watch's move at a head report whose flag goes from `before` to `after` (R124, R126). -/
def State.watchMove (s : State) (before after : Bool) : State :=
  let w := s.ehu.watch
  match w.state, before, after with
  | .idle, false, true =>
    { s with ehu.watch := { w with
        state := .watching, confirmed := false, confirmTimer := .start (10 * s.ehu.params.confirm) } }
  | .watching, true, false =>
    if w.confirmed then
      State.notify
        { s with
          ehu.watch := { w with state := .idle, confirmed := false, lastRefusal := none }
          ehu.huntCase.startDeferred := false }
        .hunt
    else { s with ehu.watch := { w with state := .idle, confirmTimer := .stopped } }
  | .watching, true, true => s.retryStart
  | _, _, _ => s

/-- The case's move when the episode flag clears (R132, R148). -/
def State.caseFlagCleared (s : State) : State :=
  match s.ehu.huntCase.state with
  | .locating => { s with ehu.huntCase.clearedInWindow := true }
  | .suspended => s.concludeSelfCleared
  | _ => s

/-- The episode flag after a head report of a class (R122). -/
def episodeAfter (flag : Bool) : ReportClass → Bool
  | .above => true | .below => false | .band => flag

/-- The class of a head report is the deciding report of a step in OBSERVING (R141). -/
def State.observeHead (s : State) (c : ReportClass) : State :=
  match s.ehu.huntCase.step with
  | some ⟨_, .observing, _⟩ => { s with ehu.deciding := some c }
  | _ => s

/-- A head report taken by the watch, the mode being SERVICE (R122). -/
def State.watchHead (s : State) (v : Nat) (q : Quality) (c : ReportClass) : State :=
  let before := s.ehu.watch.episode
  let after := episodeAfter before c
  let t := { s with ehu.watch.episode := after, ehu.watch.lastHead := some ⟨v, q, c, s.svu.minute⟩ }
  let u := t.watchMove before after
  if before && !after then u.caseFlagCleared else u

/-- A head report (R122, R141). -/
def State.headReport (s : State) (v : Nat) (q : Quality) : State :=
  let c := s.ehu.thresholds.classify v
  let t := s.observeHead c
  if s.fmu.mode == .service then t.watchHead v q c else t

/-- A report of another switch, applied in LOCATING (R133). -/
def State.locateReport (s : State) (t : SwitchNo) (v : Nat) (p : Pole) : State :=
  if s.ehu.huntCase.state == .locating && s.ehu.huntCase.listen.isRunning && p == .closed then
    match s.ehu.thresholds.classify v with
    | .above => { s with ehu.huntCase := s.ehu.huntCase.eliminate fun c => !s.candidateBelow t c }
    | .below => { s with ehu.huntCase := s.ehu.huntCase.eliminate fun c => s.candidateBelow t c }
    | .band => s
  else s

/-- A residual report handed to the EHU (R102). -/
def State.residualReport (s : State) (k : SwitchNo) (v : Nat) (q : Quality) (p : Pole) : State :=
  if k == 0 then s.headReport v q else s.locateReport k v p

/-! ## The watch after a case (R154, R160) -/

/-- The watch leaves HUNTING. DEDUCED (log entry 37): a watch that is not HUNTING stands as it is, its confirm timer included. -/
def State.rearmWatch (s : State) : State :=
  let w := s.ehu.watch
  if w.state == .hunting then
    if w.episode then
      { s with ehu.watch := { w with
          state := .watching, confirmed := false, confirmTimer := .start (10 * s.ehu.params.confirm) } }
    else { s with ehu.watch := { w with state := .idle } }
  else s

end Sys2Proof.Machine
end

