-- ==== Sys2Proof/Machine/Profile.lean ====
section
/-! DEFINITION. What the FSU answers to the other blocks: the effective group and the required profile of a switch, the level a
district takes, the feeder thresholds; and the SOU's comparison of required and confirmed profile (R60, R68, R76, R77, R97). -/

namespace Sys2Proof.Machine

/-- The district of a switch: that of its downstream zone, when present (00 0.5, R60). -/
def State.districtOf (s : State) (k : SwitchNo) : Option DistrictNo :=
  (s.config k).bind fun c => (s.zoneInfo c.downstream).map (·.district)

/-- The group in force in a district. -/
def State.groupOfDistrict (s : State) (d : DistrictNo) : Group := s.group (s.district d).effective

/-- The effective group of a switch (R60). -/
def State.effectiveGroup (s : State) (k : SwitchNo) : Option Group := (s.districtOf k).map s.groupOfDistrict

/-- The required profile of a switch (R77). -/
def State.requiredProfile (s : State) (k : SwitchNo) : Option Nat := (s.effectiveGroup k).map (·.profile)

/-- The profile gate's test: CONFIRMED, and the confirmed profile is the required one (R96, R108 check 5). -/
def State.profileConfirmed (s : State) (k : SwitchNo) : Bool :=
  (s.runtime k).profileState == .confirmed && (s.runtime k).confirmed.isSome
    && (s.runtime k).confirmed == s.requiredProfile k

/-- The effective level of a district by its inputs (R68). -/
def effectiveOf (season : Season) (tfb : Bool) (declared : Level) : Level :=
  if tfb then .ban else if season == .inSeason then declared else .normal

def Group.dead (g : Group) (n : Nat) : Nat := if n ≤ 1 then g.dead1 else if n = 2 then g.dead2 else g.dead3

/-- A district has a present zone. -/
def State.districtPresent (s : State) (d : DistrictNo) : Bool := s.districtZones d != 0

/-- The level whose group supplies the feeder thresholds (R76). -/
def State.thresholdLevel (s : State) : Level :=
  (allDistricts.filter s.districtPresent).foldl
    (fun l d => if higherLevel (s.district d).effective l then (s.district d).effective else l) .normal

/-- The feeder thresholds, computed afresh (R76). -/
def State.feederThresholds (s : State) : Thresholds :=
  let g := s.group s.thresholdLevel
  ⟨g.pickup, g.dropoff⟩

/-- The FSU hands the EHU the thresholds where they changed (R76). -/
def State.handThresholds (s : State) : State := { s with ehu.thresholds := s.feederThresholds }

/-- The SOU compares a configured switch's required profile with the confirmed one (R97). -/
def State.reviewProfile (s : State) (k : SwitchNo) : State :=
  if s.configured k then
    let r := s.runtime k
    match s.requiredProfile k with
    | none => s.setRuntime k { r with pushWanted := false }
    | some code =>
      if r.confirmed = some code then s.setRuntime k { r with profileState := .confirmed, pushWanted := false }
      else s.setRuntime k { r with profileState := .pending, pushWanted := true }
  else s

def State.reviewProfiles (s : State) (ks : List SwitchNo) : State := ks.foldl State.reviewProfile s

end Sys2Proof.Machine
end

