-- ==== Sys2Proof/Machine/Reclose.lean ====
section
/-! DEFINITION. The reclose sequences (chapter 6), less the dispatch of a reclose, which asks the SOU and stands in
Machine/Link.lean. -/

namespace Sys2Proof.Machine

/-- The states that the RCS counts for the EHU (R106). -/
def SeqState.running : SeqState → Bool
  | .deadTime _ | .reclosing _ | .reclaim _ => true
  | _ => false

/-- DEAD_TIME or RECLOSING: a reclose is owed or being made (R119). -/
def SeqState.owes : SeqState → Bool
  | .deadTime _ | .reclosing _ => true
  | _ => false

/-- The record in a new state: a timer, mark, note or class that belongs to a state being left goes with it (R105, R106,
R119). -/
def Sequence.moveTo (q : Sequence) (st : SeqState) : Sequence :=
  { q with
    state := st
    deadTimer := match st with | .deadTime _ => q.deadTimer | _ => .stopped
    reclaimTimer := match st with | .reclaim _ => q.reclaimTimer | _ => .stopped
    tripClass := match st with | .deadTime _ => q.tripClass | _ => none
    cancel := st.owes && q.cancel
    note := match st with | .reclosing _ => q.note | _ => none
    marker := if st.owes then q.marker else none }

/-- The number of sequences in DEAD_TIME, RECLOSING or RECLAIM (R106). -/
def State.runningSequences (s : State) : Nat := (allSwitches.filter fun k => (s.seq k).state.running).length

/-- Writes a sequence record, reporting to the EHU a change of state into or out of the running states (R106). -/
def State.setSeq (s : State) (k : SwitchNo) (q : Sequence) : State :=
  let old := (s.seq k).state
  let t := s.putSeq k q
  if old != q.state && (old.running || q.state.running) then t.countReport t.runningSequences else t

/-- A sequence that stands in OPEN, CLOSED or UNCERTAIN with shots used 0. -/
def State.settleSeq (s : State) (k : SwitchNo) (st : SeqState) : State :=
  s.setSeq k { (s.seq k).moveTo st with shotsUsed := 0 }

/-- LOCKOUT with its reason: recorded with the minute, the LOCKOUT notice set (R108). -/
def State.lockOut (s : State) (k : SwitchNo) (r : LockoutReason) : State :=
  (s.setSeq k { (s.seq k).moveTo .lockout with lastLockout := some ⟨r, s.svu.minute⟩ }).notify .lockout

/-- RECLAIM(n) with a fresh reclaim timer, from the effective group at this taking (R107, R111, R112). -/
def State.enterReclaim (s : State) (k : SwitchNo) (n : Nat) : State :=
  let time := ((s.effectiveGroup k).map (·.reclaim)).getD 0
  s.setSeq k { (s.seq k).moveTo (.reclaim n) with shotsUsed := n, reclaimTimer := .start (10 * time) }

/-- R108's checks, with `used` shots made and the fault class of the trip: the reason of the first that fails. -/
def State.recloseCheck (s : State) (k : SwitchNo) (used : Nat) (c : FaultClass) : Option LockoutReason :=
  match s.config k, s.effectiveGroup k with
  | some cfg, some g =>
    if !(cfg.cls == .headBreaker || cfg.cls == .recloser) then some .cls
    else if g.shots ≤ used then some .shots
    else if !(c == .phase || g.recloseEarth) then some .earth
    else if !s.closePermitted k .automatic then some .held
    else if !s.profileConfirmed k then some .profile
    else if (s.runtime k).condition != .sound then some .condition
    else none
  | _, _ => some .cls

/-- DEAD_TIME(n): the class recorded, the marker set, the dead time of shot n started (R108). -/
def State.enterDeadTime (s : State) (k : SwitchNo) (n : Nat) (c : FaultClass) : State :=
  let time := ((s.effectiveGroup k).map (·.dead n)).getD 0
  s.setSeq k
    { (s.seq k).moveTo (.deadTime n) with
      shotsUsed := n - 1, tripClass := some c, marker := some n, deadTimer := .start time }

/-- A trip judged with `used` shots made (R108). -/
def State.judgeTrip (s : State) (k : SwitchNo) (used : Nat) (c : FaultClass) : State :=
  let t := s.notify .trip
  match s.recloseCheck k used c with
  | none => t.enterDeadTime k (used + 1) c
  | some r => t.lockOut k r

/-- A reclose of the switch is in flight awaiting its ANSWER (R109). -/
def State.recloseAwaitsAnswer (s : State) (k : SwitchNo) : Bool :=
  (s.runtime k).inFlight.any fun f => f.phase == .awaitAnswer && f.request.action == .toClose && f.request.classes.reclose

/-- A trip handed to the RCS (R108, R109). -/
def State.rcsTrip (s : State) (k : SwitchNo) (c : FaultClass) : State :=
  let q := s.seq k
  match q.state with
  | .closed => s.judgeTrip k 0 c
  | .reclaim n => s.judgeTrip k n c
  | .uncertain => (s.settleSeq k .opened).notify .trip
  | .reclosing _ =>
    if !q.cancel && s.recloseAwaitsAnswer k then (s.setSeq k { q with note := some c }).notify .trip else s
  | .deadTime _ | .opened | .lockout | .outOfService => s

/-- A STATE report handed to the RCS (R107). DEDUCED (log entry 20): a report of CLOSED in DEAD_TIME(n) acts by R107 with the cancel mark
set as with it clear, and the mark goes with the state. -/
def State.rcsPosition (s : State) (k : SwitchNo) (p : Pole) : State :=
  match (s.seq k).state, p with
  | .uncertain, .closed | .opened, .closed | .lockout, .closed => s.settleSeq k .closed
  | .uncertain, .opened | .closed, .opened | .reclaim _, .opened => s.settleSeq k .opened
  | .deadTime n, .closed => s.enterReclaim k n
  | _, _ => s

/-- The end of an OPEN that cancelled a sequence: it settles by the position the SOU then holds (R115). -/
def State.settleByPosition (s : State) (k : SwitchNo) : State :=
  s.settleSeq k (match (s.runtime k).position with | .opened => .opened | .closed => .closed | .unknown => .uncertain)

/-- A cancelled sequence: the dead time stopped, the cancel mark set, the marker cleared; the state keeps its name (R115). -/
def State.cancelSeq (s : State) (k : SwitchNo) : State :=
  s.setSeq k { s.seq k with cancel := true, marker := none, deadTimer := .stopped, tripClass := none }

/-- The lockout reason of a reclose held at the gate (R112). -/
def GateReason.lockout : GateReason → LockoutReason
  | .hold => .held | .condition => .condition | .profile => .profile | .mode => .mode

/-- The result of reclose n, the cancel mark clear (R112). -/
def State.recloseEnded (s : State) (k : SwitchNo) (n : Nat) (res : OpResult) : State :=
  match res with
  | .done | .already => s.enterReclaim k n
  | .heldAtDispatch g => s.lockOut k g.lockout
  | .refusedByUnit _ | .noAnswer => s.lockOut k .closeFailed
  | .noMove =>
    match (s.seq k).note, (s.runtime k).position with
    | some c, .opened => s.judgeTrip k n c
    | _, _ => s.lockOut k .closeFailed
  | .cancelled => s.lockOut k (if s.fmu.mode == .service then .condition else .mode)
  | .preEmpted => (s.setSeq k { s.seq k with note := none }).cancelSeq k

/-- The result of a CLOSE handed to the RCS (R112, R115, R116). -/
def State.rcsCloseResult (s : State) (k : SwitchNo) (classes : Classes) (res : OpResult) : State :=
  let q := s.seq k
  if classes.reclose then
    match q.state with
    | .reclosing n => if q.cancel then s else s.recloseEnded k n res
    | _ => s
  else
    match q.state, res with
    | .opened, .done | .lockout, .done | .uncertain, .done => s.settleSeq k .closed
    | _, _ => s

/-- The result of an OPEN handed to the RCS (R115). DEDUCED (log entry 42): in RECLOSING(n) with the cancel mark clear, where an OPEN that
was in flight at the trip ends after its dead time has put the reclose in the slot, the sequence stands and the reclose goes on; R115
speaks of the mark set alone. -/
def State.rcsOpenResult (s : State) (k : SwitchNo) (res : OpResult) : State :=
  let q := s.seq k
  let met := res == .done || res == .already
  match q.state with
  | .deadTime _ => s.settleByPosition k
  | .reclosing _ => if q.cancel then s.settleByPosition k else s
  | .closed | .reclaim _ | .uncertain => if met then s.settleSeq k .opened else s
  | .opened | .lockout | .outOfService => s

/-- The result of an operation handed to the RCS (R89). -/
def State.rcsResult (s : State) (k : SwitchNo) (action : SwitchAction) (classes : Classes) (res : OpResult) : State :=
  match action with
  | .toClose => s.rcsCloseResult k classes res
  | .toOpen => s.rcsOpenResult k res

/-- The taking of an accepted port operation reported to the RCS (R91, R115, R116). -/
def State.rcsAccepted (s : State) (k : SwitchNo) (action : SwitchAction) : State :=
  match action, (s.seq k).state with
  | .toOpen, .deadTime _ | .toOpen, .reclosing _ => s.cancelSeq k
  | .toClose, .deadTime _ => s.settleSeq k .opened
  | _, _ => s

/-- Re-evaluation of one sequence on a change of danger (R114). -/
def State.reevaluate (s : State) (k : SwitchNo) : State :=
  match (s.seq k).state, s.effectiveGroup k with
  | .deadTime n, some g => if g.shots < n then s.lockOut k .level else s
  | _, _ => s

def State.reevaluateAll (s : State) (ks : List SwitchNo) : State := ks.foldl State.reevaluate s

/-- ENTER SERVICE at the RCS (R117). -/
def State.rcsEnterService (s : State) : State :=
  s.configuredSwitches.foldl (fun t k => t.settleSeq k .uncertain) s

/-- One switch leaving service: a sequence that owes a reclose is recorded as a MODE lockout; OUT-OF-SERVICE, shots used kept
(R118). -/
def State.rcsLeave (s : State) (k : SwitchNo) : State :=
  let q := s.seq k
  if q.state.owes then
    (s.setSeq k { q.moveTo .outOfService with lastLockout := some ⟨.mode, s.svu.minute⟩ }).notify .lockout
  else s.setSeq k (q.moveTo .outOfService)

/-- ENTER COMMISSIONING at the RCS (R118). -/
def State.rcsLeaveService (s : State) : State := allSwitches.foldl State.rcsLeave s

end Sys2Proof.Machine
end

