-- ==== Sys2Proof/Machine/Slot.lean ====
section
/-! DEFINITION. The operation slot (R90, R91, R92): taking a request to open or close into a switch's slot, or ending or
refusing it, and recording a result. -/

namespace Sys2Proof.Machine

/-- Records the end of an operation request: the last operation result, the OPERATION notice (R89). -/
def State.recordResult (s : State) (k : SwitchNo) (q : OpRequest) (res : OpResult) : State :=
  (s.setRuntime k { s.runtime k with lastResult := some ⟨q.action, q.classes, res⟩ }).notify .operation

/-- The end of a request that no step of the hunt waits for: recorded, and handed to the RCS (R89). The EHU, handed it next,
finds no step of its own and no change of position. -/
def State.endInSlot (s : State) (k : SwitchNo) (q : OpRequest) (res : OpResult) : State :=
  (s.recordResult k q res).rcsResult k q.action q.classes res

/-- What the SOU answers to a request (R90, R92). -/
inductive SlotAnswer | taken | already | busy | failed | unconfigured
  deriving DecidableEq, Repr

/-- The position an action asks for (5.3). -/
def targetOf : SwitchAction → Position | .toOpen => .opened | .toClose => .closed

/-- The switch stands at the action's target with nothing in flight (R90). -/
def Runtime.met (r : Runtime) (a : SwitchAction) : Bool :=
  r.inFlight.isNone && r.position == targetOf a

/-- An OPEN that finds the slot empty: it ends ALREADY, or enters the slot (R90). -/
def State.enterSlot (s : State) (k : SwitchNo) (q : OpRequest) : State × SlotAnswer :=
  if (s.runtime k).met q.action then (s.endInSlot k q .already, .already)
  else (s.setRuntime k { s.runtime k with slot := some q }, .taken)

/-- R90's table. -/
def State.requestSlot (s : State) (k : SwitchNo) (q : OpRequest) : State × SlotAnswer :=
  match q.action, (s.runtime k).slot with
  | .toOpen, some ⟨.toOpen, cs⟩ =>
    (s.setRuntime k { s.runtime k with slot := some ⟨.toOpen, cs.union q.classes⟩ }, .taken)
  | .toOpen, some ⟨.toClose, cs⟩ =>
    -- R90: the CLOSE ends PRE-EMPTED first; the OPEN then takes the slot, or ends ALREADY
    State.enterSlot ((s.setRuntime k { s.runtime k with slot := none }).endInSlot k ⟨.toClose, cs⟩ .preEmpted) k q
  | .toClose, some _ => (s, .busy)
  | _, none => s.enterSlot k q

/-- The request of a block, RECLOSE or HUNT (R92). -/
def State.requestByBlock (s : State) (k : SwitchNo) (q : OpRequest) : State × SlotAnswer :=
  if !s.configured k then (s, .unconfigured)
  else if q.action == .toClose && (s.runtime k).condition == .failed then (s, .failed)
  else s.requestSlot k q

end Sys2Proof.Machine
end

