-- ==== Sys2Proof/Machine/Hunt.lean ====
section
/-! DEFINITION. The sectionalising tests (chapter 8): choosing a test switch, the step and its phases, close-back, the end of a
step, and the conclusions that place a hold or isolate a segment. -/

namespace Sys2Proof.Machine

/-! ## Conclusion (R152, R153) -/

/-- The zones of the segments of a list of switches. -/
def State.segmentsOf (s : State) (ks : List SwitchNo) : ZoneSet := ks.foldl (fun z k => z ||| s.segment k) 0

/-- A conclusion that places a HUNT hold, stores its handle and sets the HUNT notice (R152). -/
def State.concludeWithHold (s : State) (r : ResultKind) (kind : HoldKind) (scope : ZoneSet) : State :=
  let t := s.concludeCase r
  let (u, h) := t.placeHold (t.deviceHold kind .plain .hunt scope (.huntCase t.ehu.huntCase.number))
  State.notify { u with ehu.huntCase.holdHandle := h } .hunt

/-- NARROWED or LIMIT: a NO_RECLOSE hold over every remaining candidate segment (R152). -/
def State.concludeNarrowed (s : State) (r : ResultKind) : State :=
  s.concludeWithHold r .noReclose (s.segmentsOf s.ehu.huntCase.candidates)

/-- Raises the suspicion count of each present zone of a set, stopping at 15 (R2, R153). -/
def State.raiseSuspicion (s : State) (z : ZoneSet) : State :=
  { s with fmu.zones := Vector.ofFn fun n =>
      let e := s.fmu.zones[n]
      if z.has n && e.info.isSome then { e with suspicion := min 15 (e.suspicion + 1) } else e }

/-- A set holds a zone marked essential. -/
def State.holdsEssential (s : State) (z : ZoneSet) : Bool :=
  allZones.any fun n => z.has n && (s.zoneInfo n).any (·.essential)

/-- Whether a FOUND conclusion isolates the segment (R153). -/
def State.isolates (s : State) (k : SwitchNo) : Bool :=
  (s.effectiveGroup k).any (·.isolate) && k != 0 && (!s.holdsEssential (s.subtree k) || s.ehu.huntCase.essential)

/-- The requests of class HUNT. -/
def OpRequest.hunt (a : SwitchAction) : OpRequest := ⟨a, { hunt := true }⟩

/-- Isolation of the segment found: an OPEN of its feeding switch, named in the left-open list when taken (R153). -/
def State.isolateFound (s : State) (k : SwitchNo) : State :=
  if s.isolates k then
    match s.requestByBlock k (.hunt .toOpen) with
    | (t, .taken) => { t with ehu.huntCase := t.ehu.huntCase.nameLeftOpen k .foundIsolate }
    | (t, _) => t
  else s

/-- FOUND naming segment k: the NO_CLOSE hold, the suspicion counts, isolation (R152, R153). -/
def State.concludeFound (s : State) (k : SwitchNo) : State :=
  let t := s.concludeWithHold .found .noClose (s.segment k)
  ({ t with ehu.huntCase.found := some k }.raiseSuspicion (s.segment k)).isolateFound k

/-- FOUND when one candidate remains, NARROWED otherwise (R143, R144). -/
def State.concludeByCandidates (s : State) : State :=
  match s.ehu.huntCase.candidates with
  | [k] => s.concludeFound k
  | _ => s.concludeNarrowed .narrowed

/-! ## Choosing (R137, R138) -/

/-- c_in: the candidates whose downstream zone lies in the subtree of t. -/
def State.candidatesIn (s : State) (t : SwitchNo) : Nat := (s.ehu.huntCase.candidates.filter (s.candidateBelow t)).length
/-- c_out: the remaining candidates. -/
def State.candidatesOut (s : State) (t : SwitchNo) : Nat := s.ehu.huntCase.candidates.length - s.candidatesIn t

/-- R137. -/
def State.testable (s : State) (t : SwitchNo) : Bool :=
  let r := s.runtime t
  s.configured t && t != 0
    && r.position == .closed && r.condition == .sound && r.slot.isNone && r.inFlight.isNone
    && !s.ehu.huntCase.noRetest.getLsbD t.val
    && (s.effectiveGroup t).any (·.activeTests)
    && (!s.holdsEssential (s.subtree t) || s.ehu.huntCase.essential)
    && 1 ≤ s.candidatesIn t && 1 ≤ s.candidatesOut t

/-- |c_in − c_out|. -/
def State.imbalance (s : State) (t : SwitchNo) : Nat :=
  (s.candidatesIn t - s.candidatesOut t) + (s.candidatesOut t - s.candidatesIn t)

/-- The sum of the suspicion counts of the zones of a switch's subtree. -/
def State.suspicionSum (s : State) (t : SwitchNo) : Nat :=
  (allZones.map fun z => if (s.subtree t).has z then (s.zone z).suspicion else 0).sum

/-- Whether `a` is picked before `b`, a lower-numbered switch (R138 item 4). -/
def State.betterTest (s : State) (a b : SwitchNo) : Bool :=
  s.imbalance a < s.imbalance b || (s.imbalance a == s.imbalance b && s.suspicionSum b < s.suspicionSum a)

/-- The test switch R138 picks, if any is testable. -/
def State.pickTest (s : State) : Option SwitchNo :=
  (allSwitches.filter s.testable).foldl
    (fun best t => match best with
      | none => some t
      | some b => if s.betterTest t b then some t else some b)
    none

/-- A step begins: OPENING, the working fields cleared, the OPEN asked for (R139, R140). -/
def State.beginStep (s : State) (t : SwitchNo) : State :=
  let u := { s with
    ehu.huntCase.state := .stepping
    ehu.huntCase.step := some ⟨t, .opening, none⟩
    ehu.disturbed := false
    ehu.deciding := none
    ehu.pendingCause := none
    ehu.pendingAbandon := none }
  (u.requestByBlock t (.hunt .toOpen)).1

/-- A choosing (R138). -/
def State.choose (s : State) : State :=
  match s.ehu.huntCase.candidates with
  | [k] => s.concludeFound k
  | _ =>
    if Config.huntSteps ≤ s.ehu.huntCase.stepsTaken then s.concludeNarrowed .limit
    else match s.pickTest with
      | none => s.concludeNarrowed .narrowed
      | some t => s.beginStep t

/-! ## The end of a step (R145) -/

/-- Items 1 to 3: steps taken, the inconclusive count and the no-retest set, the current step absent. -/
def HuntCase.closeStep (c : HuntCase) (t : SwitchNo) (o : StepOutcome) : HuntCase :=
  let count := c.inconclusive[t] + 1
  let tested := c.noRetest ||| (1#16 <<< t.val)
  let d := { c with step := none, stepsTaken := c.stepsTaken + 1 }
  match o with
  | .inconclusive =>
    { d with
      inconclusive := c.inconclusive.set t count
      noRetest := if 2 ≤ count then tested else c.noRetest }
  | .failed => { d with noRetest := tested }
  | .downstream | .notDownstream => d

/-- What the step's own course does to the case at its end (R143, R144). -/
inductive OwnCourse | continues | byCandidates | narrowed
  deriving DecidableEq, Repr

/-- Items 4 to 8. -/
def State.afterStep (s : State) (t : SwitchNo) (o : StepOutcome) (own : OwnCourse) : State :=
  match s.ehu.pendingAbandon, own with
  | some r, _ => s.concludeAbandoned r
  | none, .byCandidates => s.concludeByCandidates
  | none, .narrowed => s.concludeNarrowed .narrowed
  | none, .continues =>
    if o == .failed then s.suspendCase ⟨.switchFailed, t⟩
    else match s.ehu.pendingCause with
      | some p => s.suspendCase p
      | none => s.choose

/-- A step ends (R145). -/
def State.endStep (s : State) (t : SwitchNo) (o : StepOutcome) (own : OwnCourse) : State :=
  State.afterStep { s with
    ehu.huntCase := s.ehu.huntCase.closeStep t o, ehu.settleTimer := .stopped, ehu.observeTimer := .stopped } t o own

/-- Names a switch in the left-open list. -/
def State.nameLeftOpen (s : State) (k : SwitchNo) (r : LeftOpenReason) : State :=
  { s with ehu.huntCase := s.ehu.huntCase.nameLeftOpen k r }

/-! ## Close-back (R143, R144) -/

/-- What the case does when its test switch is left open, by the outcome before the close-back (R144; log entry 19). -/
def ownCourseHeld : StepOutcome → OwnCourse
  | .downstream => .byCandidates
  | .inconclusive => .narrowed
  | .notDownstream | .failed => .continues

/-- A close-back that ended without closing: t named HELD; `failed` when the outcome becomes FAILED (R143, R144). -/
def State.closeBackHeld (s : State) (t : SwitchNo) (o : StepOutcome) (failed : Bool) : State :=
  (s.nameLeftOpen t .held).endStep t (if failed then .failed else o) (ownCourseHeld o)

/-- Asks for the close-back, and acts on an answer that ends it at once (R143). -/
def State.askCloseBack (s : State) (t : SwitchNo) (o : StepOutcome) : State :=
  let u := { s with ehu.huntCase.step := some ⟨t, .closingBack, some o⟩ }
  match u.requestByBlock t (.hunt .toClose) with
  | (v, .taken) => v
  | (v, .already) => v.endStep t o .continues
  | (v, .failed) => v.closeBackHeld t o true
  | (v, .busy) | (v, .unconfigured) => v.closeBackHeld t o false

/-- The decision at the end of an observation (R143). With no subtree to use, the candidates are unchanged and the close-back
is asked for. -/
def State.applyOutcome (s : State) (t : SwitchNo) (o : StepOutcome) : State :=
  if s.fmu.reachTable.isNone then s.askCloseBack t o
  else match o with
    | .notDownstream =>
      State.askCloseBack { s with ehu.huntCase := s.ehu.huntCase.eliminate fun c => s.candidateBelow t c } t o
    | .downstream =>
      let u := { s with ehu.huntCase := s.ehu.huntCase.eliminate fun c => !s.candidateBelow t c }
      if (u.effectiveGroup t).any (·.closeBack) && 1 < u.ehu.huntCase.candidates.length then u.askCloseBack t o
      else (u.nameLeftOpen t .noCloseBack).endStep t o .byCandidates
    | .inconclusive | .failed => s.askCloseBack t o

/-- R142's table. -/
def outcomeOf (disturbed : Bool) (deciding : Option ReportClass) : StepOutcome :=
  if disturbed then .inconclusive
  else match deciding with
    | some .below => .downstream
    | some .above => .notDownstream
    | some .band | none => .inconclusive

/-! ## Results of the hunt's operations (R140, R144) -/

/-- The result of the OPEN of a step in OPENING (R140). -/
def State.openEnded (s : State) (t : SwitchNo) (res : OpResult) : State :=
  match res with
  | .done =>
    { s with ehu.huntCase.step := some ⟨t, .settling, none⟩, ehu.settleTimer := .start (10 * s.ehu.params.settle) }
  | .already | .cancelled => s.endStep t .inconclusive .continues
  | .refusedByUnit _ => s.endStep t .failed .continues
  | .noAnswer => (s.nameLeftOpen t .noCloseBack).endStep t .failed .continues
  | .noMove =>
    if (s.runtime t).position == .unknown then (s.nameLeftOpen t .noCloseBack).endStep t .failed .continues
    else s.endStep t .failed .continues
  | .heldAtDispatch _ | .preEmpted => s

/-- The result of the close-back of a step in CLOSING-BACK (R144). -/
def State.closeBackEnded (s : State) (t : SwitchNo) (o : StepOutcome) (res : OpResult) : State :=
  match res with
  | .done | .already => s.endStep t o .continues
  | .heldAtDispatch _ | .cancelled => s.closeBackHeld t o false
  | .refusedByUnit _ | .noAnswer | .noMove => s.closeBackHeld t o true
  | .preEmpted => s

/-- The result of an operation handed to the EHU, with whether the position changed (R89, R140, R141, R144). -/
def State.huntResult (s : State) (k : SwitchNo) (q : OpRequest) (res : OpResult) (changed : Bool) : State :=
  match s.ehu.huntCase.step with
  | none => s
  | some st =>
    if st.switch != k then if changed then s.disturb else s
    else if !q.classes.hunt then s
    else match st.phase, q.action, st.outcome with
      | .opening, .toOpen, _ => s.openEnded k res
      | .closingBack, .toClose, some o => s.closeBackEnded k o res
      | _, _, _ => s

/-! ## Starts (R155) -/

/-- The case at a start (R155). -/
def HuntCase.atStart (c : HuntCase) : HuntCase :=
  if c.state.isOpen then
    let d := match c.step with | some st => c.nameLeftOpen st.switch .noCloseBack | none => c
    { d.conclude .abandoned with step := none, abandon := some .restart }
  else { c with listen := .stopped }

end Sys2Proof.Machine
end

