-- ==== Sys2Proof/Machine/Link.lean ====
section
/-! DEFINITION. The field link (chapter 5): the end of an operation, the reports of a switch, the dispatch-time gate, the link
arbiter, transmission and the answer timer; and the dispatch of a reclose (R110, R111). -/

namespace Sys2Proof.Machine

/-! ## The end of an operation (R85, R86, R89) -/

/-- A request that ends without a change of position: recorded, handed to the RCS and then to the EHU (R89). -/
def State.endRequest (s : State) (k : SwitchNo) (q : OpRequest) (res : OpResult) : State :=
  (s.endInSlot k q res).huntResult k q res false

/-- A CLOSE in the slot ends CANCELLED when the switch has become FAILED (R89). -/
def State.cancelClose (s : State) (k : SwitchNo) : State :=
  match (s.runtime k).slot with
  | some ⟨.toClose, cs⟩ => (s.setRuntime k { s.runtime k with slot := none }).endRequest k ⟨.toClose, cs⟩ .cancelled
  | _ => s

/-- Whether a result makes the condition FAILED (R82). -/
def OpResult.fails : OpResult → Bool
  | .noAnswer | .noMove => true
  | _ => false

/-- The end of the operation in flight, with the position afterwards: the record first, its condition FAILED where the result makes
it so, so that the RCS judges by it (R112); then the RCS, the report of a changed condition and the EHU, then a CLOSE cancelled in
the slot (R85, R86, R89; log entry 18). -/
def State.endOperation (s : State) (k : SwitchNo) (q : OpRequest) (res : OpResult) (p : Position) : State :=
  let r := s.runtime k
  let c := if res.fails then .failed else r.condition
  let t := s.setRuntime k { r with inFlight := none, mechanism := .stopped, position := p, condition := c }
  let u := t.endInSlot k q res
  let v := if r.condition = c then u else u.conditionReport k
  let w := v.huntResult k q res (r.position != p)
  if res.fails then w.cancelClose k else w

/-! ## Position and residual reports (R88, R102) -/

def poleOf : Pole → Position | .opened => .opened | .closed => .closed

/-- A STATE report handed to the RCS and then to the EHU (R88). -/
def State.reportPosition (s : State) (k : SwitchNo) (p : Pole) (changed : Bool) : State :=
  (s.rcsPosition k p).huntPosition k p changed

/-- Normalisation of a raw count: times the multiplier, over ten to the shift, a half rounded up, in 0.1 A (R102). -/
def normalise (raw multiplier shift : Nat) : Nat × Quality :=
  let v := (2 * raw * multiplier + 10 ^ shift) / (2 * 10 ^ shift)
  if v ≤ 65535 then (v, .good) else (65535, .over)

/-- A residual count carried by a STATE (R102). -/
def State.takeResidual (s : State) (k : SwitchNo) (p : Pole) (raw : Option (BitVec 16)) : State :=
  match raw, s.config k with
  | some n, some c =>
    if c.sensing then
      let (v, q) := normalise n.toNat c.multiplier c.shift
      (s.setRuntime k { s.runtime k with lastResidual := some ⟨v, q, s.svu.minute⟩ }).residualReport k v q p
    else s
  | _, _ => s

/-! ## The awaited message (R84) -/

/-- The wait ends: the answer timer stops, the link is free. -/
def State.freeLink (s : State) : State := { s with sou.awaited := none, sou.answerTimer := .stopped }

/-- Transmission of a message: it is sent, awaited, and the answer timer started (R84). -/
def State.transmit (s : State) (k : SwitchNo) (kind : AwaitedKind) (m : OutMessage) : State :=
  { s with
    sou.awaited := some ⟨k, kind, false⟩
    sou.answerTimer := .start s.sou.link.answerTime
    sou.sent := (s.config k).map fun c => ⟨c.address, m⟩ }

/-- What the link awaits from a switch (R84). -/
def State.awaitedFrom (s : State) (k : SwitchNo) : Option AwaitedKind :=
  match s.sou.awaited with
  | some a => if a.switch = k && !a.withdrawn then some a.kind else none
  | none => none

/-! ## Inbound frames (R83 to R88, R98, R101) -/

/-- Every frame taken returns the switch from SILENT to SOUND first (R83). -/
def State.hear (s : State) (k : SwitchNo) : State :=
  if (s.runtime k).condition = .silent then s.setCondition k .sound else s

/-- The ANSWER awaited for an OPERATE (R85). -/
def State.operateAnswered (s : State) (k : SwitchNo) (accepted : Bool) (reason : Byte) : State :=
  let r := s.runtime k
  match r.inFlight with
  | none => s
  | some f =>
    if accepted then
      let time := ((s.config k).map (·.mechanism)).getD 0
      s.setRuntime k { r with inFlight := some { f with phase := .awaitMove }, mechanism := .start time }
    else s.endOperation k f.request (.refusedByUnit reason) r.position

/-- The ANSWER awaited for a SET PROFILE that carried a code (R98). DEDUCED (log entry 35): a push wanted that R97 has set while the push
awaited its answer stays set, whatever the answer. -/
def State.profileAnswered (s : State) (k : SwitchNo) (code : Nat) (accepted : Bool) : State :=
  let r := s.runtime k
  if accepted then
    match s.requiredProfile k with
    | some req =>
      if req = code then s.setRuntime k { r with confirmed := some code, profileState := .confirmed }
      else s.setRuntime k { r with confirmed := some code, profileState := .pending, pushWanted := true }
    | none => s.setRuntime k { r with confirmed := some code }
  else (s.setRuntime k { r with profileState := .refused }).notify .profile

/-- An ANSWER from a switch (R84). -/
def State.takeAnswer (s : State) (k : SwitchNo) (accepted : Bool) (reason : Byte) : State :=
  let t := s.hear k
  match t.awaitedFrom k with
  | some .operate => t.freeLink.operateAnswered k accepted reason
  | some (.setProfile code) => t.freeLink.profileAnswered k code accepted
  | _ => t

/-- A failed push is sent again after an answered poll (R101). -/
def State.retryPush (s : State) (k : SwitchNo) : State :=
  let r := s.runtime k
  if (r.profileState == .refused || r.profileState == .noAnswer) && (s.requiredProfile k).isSome then
    s.setRuntime k { r with profileState := .pending, pushWanted := true }
  else s

/-- The operation in AWAIT MOVE that a STATE ends, if there is one (R86). -/
def State.moveAwaited (s : State) (k : SwitchNo) : Option OpRequest :=
  match (s.runtime k).inFlight with
  | some ⟨q, .awaitMove⟩ => some q
  | _ => none

/-- The result a STATE gives a move (R86). -/
def moveResult (a : SwitchAction) (p : Pole) : OpResult := if poleOf p = targetOf a then .done else .noMove

/-- A STATE from a switch (R86, R88, R101, R102): an operation it ends, the report, an awaited poll it answers, and last the
residual count. A change of position that ends an operation is part of the completion (R88), so the report then says that
the position did not change. DEDUCED (log entry 46): the residual count is handed on last of all in an unsolicited STATE, and in one
that ends an operation, as R101 orders it for an answered poll. -/
def State.takeState (s : State) (k : SwitchNo) (p : Pole) (raw : Option (BitVec 16)) : State :=
  let t := s.hear k
  let answers := match t.awaitedFrom k with | some (.poll _) => true | _ => false
  let u := if answers then t.freeLink else t
  let v := match u.moveAwaited k with
    | some q => (u.endOperation k q (moveResult q.action p) (poleOf p)).reportPosition k p false
    | none =>
      (u.setRuntime k { u.runtime k with position := poleOf p }).reportPosition k p ((u.runtime k).position != poleOf p)
  let w := if answers then v.retryPush k else v
  w.takeResidual k p raw

/-- A TRIP from a switch (R87). -/
def State.takeTrip (s : State) (k : SwitchNo) (c : FaultClass) : State :=
  let t := s.hear k
  let changed := (t.runtime k).position != .opened
  let u := match t.moveAwaited k with
    | some q => t.endOperation k q .done .opened
    | none => t.setRuntime k { t.runtime k with position := .opened }
  let v := u.rcsTrip k c
  -- the change of position reaches the EHU as part of the trip (R88)
  (if changed then v.huntPosition k .opened true else v).huntTrip k

/-! ## Timer expiries of the SOU (R84, R86, R98, R101) -/

/-- A POLL or SET PROFILE unanswered: SOUND becomes SILENT (R82). -/
def State.fallSilent (s : State) (k : SwitchNo) : State :=
  if (s.runtime k).condition = .sound then s.setCondition k .silent else s

/-- No reply came to the awaited message (R84). A message whose switch's record has been withdrawn changes no record. -/
def State.noReply (s : State) (a : Awaited) : State :=
  let t := s.freeLink
  let r := t.runtime a.switch
  if a.withdrawn then t
  else match a.kind with
    | .operate => match r.inFlight with
      | some f => t.endOperation a.switch f.request .noAnswer .unknown
      | none => t
    | .setProfile _ =>
      ((t.setRuntime a.switch { r with profileState := .noAnswer }).fallSilent a.switch).notify .profile
    | .poll _ => t.fallSilent a.switch

/-- The mechanism timer of a switch expires (R86). -/
def State.noMove (s : State) (k : SwitchNo) : State :=
  match s.moveAwaited k with
  | some q => s.endOperation k q .noMove .unknown
  | none => s

/-! ## The dispatch-time gate (R96) -/

/-- The first failed test of the gate. -/
def State.gate (s : State) (k : SwitchNo) (kind : CloseKind) : Option GateReason :=
  if !s.closePermitted k kind then some .hold
  else if kind == .deliberate then none
  else if (s.runtime k).condition != .sound then some .condition
  else if !s.profileConfirmed k then some .profile
  else if s.fmu.mode != .service then some .mode
  else none

/-- OPERATE is transmitted: the request goes from the slot to in flight (R85). -/
def State.sendOperate (s : State) (k : SwitchNo) (q : OpRequest) : State :=
  (s.setRuntime k { s.runtime k with slot := none, inFlight := some ⟨q, .awaitAnswer⟩ }).transmit k .operate
    (.operate q.action)

/-- The picked request of a switch's slot (R95, R96). -/
def State.pickOperation (s : State) (k : SwitchNo) (q : OpRequest) : State :=
  let left := s.setRuntime k { s.runtime k with slot := none }
  if (s.runtime k).position = targetOf q.action then left.endRequest k q .already
  else match q.action with
    | .toOpen => s.sendOperate k q
    | .toClose => match s.gate k q.classes.closeKind with
      | none => s.sendOperate k q
      | some g => left.endRequest k q (.heldAtDispatch g)

/-- The picked push: the profile required at the transmission (R98). -/
def State.pickPush (s : State) (k : SwitchNo) : State :=
  match s.requiredProfile k with
  | some code =>
    (s.setRuntime k { s.runtime k with pushWanted := false }).transmit k (.setProfile code) (.setProfile code)
  | none => s.setRuntime k { s.runtime k with pushWanted := false }

/-- The picked poll (R101). -/
def State.pickPoll (s : State) (k : SwitchNo) (c : PollClass) : State :=
  (s.setRuntime k { s.runtime k with pollWanted := none }).transmit k (.poll c) .poll

/-! ## The arbiter (R94) -/

/-- A candidate for the transmitter. -/
inductive Claim
  | operation (k : SwitchNo) (q : OpRequest)
  | push (k : SwitchNo)
  | poll (k : SwitchNo) (c : PollClass)
  deriving DecidableEq, Repr

/-- The candidates of one switch. A switch with an operation in flight offers none. -/
def State.claimsOf (s : State) (k : SwitchNo) : List Claim :=
  let r := s.runtime k
  let linked := s.inService k && r.condition != .failed
  if r.inFlight.isSome then []
  else
    (match r.slot with | some q => if s.configured k then [Claim.operation k q] else [] | none => [])
      ++ (if r.pushWanted && linked then [Claim.push k] else [])
      ++ (match r.pollWanted with | some c => if linked then [Claim.poll k c] else [] | none => [])

def State.claims (s : State) : List Claim := allSwitches.flatMap s.claimsOf

def Claim.isOpen : Claim → Bool
  | .operation _ q => q.action == .toOpen
  | _ => false

/-- The level of a claim's requester class (R94 step 2); a poll of class HUNT stands at the HUNT class's level (R132). -/
def State.levelOf (s : State) : Claim → Nat
  | .operation _ q =>
    let l := s.sou.link
    let level (b : Bool) (n : Nat) := if b then n else 0
    max (max (level q.classes.reclose l.reclose) (level q.classes.controller l.controller))
      (max (level q.classes.maintenance l.maintenance) (level q.classes.hunt l.hunt))
  | .push _ => s.sou.link.profile
  | .poll _ .hunt => s.sou.link.hunt
  | .poll _ _ => s.sou.link.poll

/-- The fixed rank of a claim, first to last (R94 step 3). -/
def Claim.order : Claim → Nat
  | .operation _ q =>
    if q.classes.reclose then 0 else if q.classes.controller then 1 else if q.classes.maintenance then 2 else 3
  | .push _ => 4
  | .poll _ _ => 5

/-- Whether `a` is picked ahead of `b`, which stands before it in the list of claims, ascending by switch (R94). -/
def State.ahead (s : State) (a b : Claim) : Bool :=
  if a.isOpen || b.isOpen then a.isOpen && !b.isOpen
  else s.levelOf b < s.levelOf a || (s.levelOf a == s.levelOf b && a.order < b.order)

/-- The claim the arbiter picks. -/
def State.pickClaim (s : State) : Option Claim :=
  s.claims.foldl
    (fun best c => match best with
      | none => some c
      | some b => if s.ahead c b then some c else some b)
    none

def State.serveClaim (s : State) : Claim → State
  | .operation k q => s.pickOperation k q
  | .push k => s.pickPush k
  | .poll k c => s.pickPoll k c

/-- The arbiter picks while the link is free and a candidate waits. -/
def State.arbitrateFor : Nat → State → State
  | 0, s => s
  | n + 1, s =>
    if s.sou.awaited.isSome then s
    else match s.pickClaim with
      | none => s
      | some c => State.arbitrateFor n (s.serveClaim c)

/-- The arbiter at the end of a taking (R94), not while the part is HALTED or held in reset. Each pick that sends nothing
takes a request out of a slot or a push out of a record, so that 64 picks exhaust the claims (log entry 27). -/
def State.arbitrate (s : State) : State := if s.live then State.arbitrateFor 64 s else s

/-! ## The dispatch of a reclose (R110, R111) -/

/-- The RCS acts on the SOU's answer to its request for reclose n. -/
def State.recloseAnswered (s : State) (k : SwitchNo) (n : Nat) : SlotAnswer → State
  | .taken => s.setSeq k { (s.seq k).moveTo (.reclosing n) with shotsUsed := n }
  | .already => s.enterReclaim k n
  | .failed | .unconfigured => s.lockOut k .condition
  | .busy => s.lockOut k .closeFailed

/-- The dead time of a sequence expires. -/
def State.deadTimeExpired (s : State) (k : SwitchNo) : State :=
  let q := s.seq k
  match q.state with
  | .deadTime n =>
    match s.recloseCheck k (n - 1) (q.tripClass.getD .phase) with
    | some r => s.lockOut k r
    | none =>
      match s.requestByBlock k ⟨.toClose, { reclose := true }⟩ with
      | (t, a) => t.recloseAnswered k n a
  | _ => s

end Sys2Proof.Machine
end

