-- ==== Sys2Proof/Machine/Fire.lean ====
section
/-! DEFINITION. The FSU's changes (chapter 4): the effective-level change and its consequences, FIRE holds, commits, and the
restores of R79 and R80. -/

namespace Sys2Proof.Machine

/-! ## FIRE holds (R74, R75, R78, R80) -/

/-- Places a district's FIRE hold over its present zones and stores the handle (R74). -/
def State.placeFire (s : State) (d : DistrictNo) : State :=
  let (t, h) := s.placeHold (s.deviceHold .noReclose .plain .fire (s.districtZones d) (.district d))
  t.setDistrict d { t.district d with fire := h }

/-- Retires a district's FIRE hold; the handle is cleared whether the HTU finds it live or stale (R36, R74). -/
def State.retireFire (s : State) (d : DistrictNo) : State :=
  match (s.district d).fire with
  | none => s
  | some h =>
    let t := if (s.liveHold h).isSome then s.departHold h.slot else s
    t.setDistrict d { t.district d with fire := none }

/-- The step of R74 for one district whose effective level is set: placed at BAN with a present zone and no handle, retired
below BAN. -/
def State.adjustFire (s : State) (d : DistrictNo) : State :=
  let r := s.district d
  if r.effective == .ban then
    if s.districtPresent d && r.fire.isNone then s.placeFire d else s
  else s.retireFire d

/-- The step of R78 for one district at a start: as R74's, and a district with no present zone has its hold retired. -/
def State.reconcileFire (s : State) (d : DistrictNo) : State :=
  let r := s.district d
  if r.effective == .ban && s.districtPresent d then if r.fire.isNone then s.placeFire d else s
  else s.retireFire d

/-- The step of R75 for one district at ENTER SERVICE: the hold's scope is derived again. -/
def State.rederiveFire (s : State) (d : DistrictNo) : State :=
  let r := s.district d
  let scope := s.districtZones d
  if r.effective == .ban && scope != 0 then
    match r.fire with
    | none => s.placeFire d
    | some h => if (s.liveHold h).any (·.scope == scope) then s else (s.retireFire d).placeFire d
  else s.retireFire d

/-! ## The effective-level change (R68, R73) -/

/-- The level a district takes from the FSU's inputs. -/
def State.levelOfDistrict (s : State) (d : DistrictNo) : Level := effectiveOf s.fsu.season s.fsu.tfb (s.district d).declared

/-- The districts whose effective level disagrees with its inputs. -/
def State.changedDistricts (s : State) : List DistrictNo :=
  allDistricts.filter fun d => s.levelOfDistrict d != (s.district d).effective

/-- Item 1 of R73: every record takes its level, and the reservations on the changed districts are lost. -/
def State.setLevels (s : State) : State :=
  s.changedDistricts.foldl State.loseDistrict
    { s with fsu.districts := Vector.ofFn fun d => { s.fsu.districts[d] with effective := s.levelOfDistrict d } }

/-- The configured switches whose district a test picks. -/
def State.switchesOf (s : State) (test : DistrictNo → Bool) : List SwitchNo :=
  s.configuredSwitches.filter fun k => (s.districtOf k).any test

/-- Items 2 to 6 of R73 for the changed districts: the LEVEL notice, the FIRE holds, the profiles, the re-evaluation, the
thresholds. -/
def State.levelConsequences (s : State) (changed : List DistrictNo) : State :=
  if changed.isEmpty then s
  else
    let t := changed.foldl State.adjustFire (s.notify .level)
    let ks := t.switchesOf changed.contains
    ((t.reviewProfiles ks).reevaluateAll ks).handThresholds

/-- The effective-level change, taken whole (R68, R73). -/
def State.applyLevels (s : State) : State := s.setLevels.levelConsequences s.changedDistricts

/-! ## Groups (R63, R64, R79) -/

/-- The first adjacent pair, from NORMAL, in which a value rises. -/
def firstRise (value : Group → Nat) (g : Groups) : Option (Level × Level) :=
  if value g.normal < value g.elevated then some (.normal, .elevated)
  else if value g.elevated < value g.severe then some (.elevated, .severe)
  else if value g.severe < value g.ban then some (.severe, .ban)
  else none

/-- R63's checks: the number of the first that fails, and its pair, absent for check 3, which reports BAN. -/
def Groups.orderFault (g : Groups) : Option (Nat × Option (Level × Level)) :=
  match firstRise (·.shots) g, firstRise (·.pickup) g with
  | some p, _ => some (1, some p)
  | none, some p => some (2, some p)
  | none, none => if g.ban.shots = 0 then none else some (3, none)

/-- The number of fields in which two groups differ (R64). -/
def Group.changes (a b : Group) : Nat :=
  ([a.shots != b.shots, a.dead1 != b.dead1, a.dead2 != b.dead2, a.dead3 != b.dead3, a.reclaim != b.reclaim,
    a.recloseEarth != b.recloseEarth, a.profile != b.profile, a.pickup != b.pickup, a.dropoff != b.dropoff,
    a.activeTests != b.activeTests, a.closeBack != b.closeBack, a.isolate != b.isolate].filter id).length

/-- The group is the effective group of some district (R64). -/
def State.inForce (s : State) (l : Level) : Bool := allDistricts.any fun d => (s.district d).effective == l

/-- The switches whose district uses a group. -/
def State.switchesUsing (s : State) (l : Level) : List SwitchNo := s.switchesOf fun d => (s.district d).effective == l

/-- What follows when the groups change from `old`: for the groups that differ and are in force, the LEVEL notice, the
profiles whose code changed, the re-evaluation of every switch that uses them, the thresholds (R64, R79). -/
def State.groupConsequences (s : State) (old : Groups) : State :=
  let changed := allLevels.filter fun l => old.get l != s.group l && s.inForce l
  if changed.isEmpty then s
  else
    let t := (s.notify .level).reviewProfiles
      (s.switchesOf fun d =>
        let l := (s.district d).effective
        changed.contains l && (old.get l).profile != (s.group l).profile)
    (t.reevaluateAll (t.switchesOf fun d => changed.contains (t.district d).effective)).handThresholds

/-- The group restore (R79): cold values in all four groups, staging closed, the consequences of a commit, the thresholds. -/
def State.restoreGroups (s : State) : State :=
  (State.groupConsequences { s with fsu.groups := .cold, fsu.staging := none } s.fsu.groups).handThresholds

/-- The live FIRE hold of a district, as the table has it (R79). -/
def State.fireHoldOf (s : State) (d : DistrictNo) : Option Handle :=
  (s.slotsWhere fun h => h.origin == .fire && h.cause == some (.district d)).head?.map s.handleAt

/-- The season and district restore (R79). -/
def State.restoreDistricts (s : State) : State :=
  let t := (s.loseReservations fun r => match r with | .district _ _ => true | .hold _ _ => false).notify .level
  let u := { t with
    fsu.season := .inSeason
    fsu.districts := Vector.ofFn fun d => ⟨.ban, (t.district d).effective, 0, t.fireHoldOf d⟩ }
  allDistricts.foldl State.adjustFire u.applyLevels

/-- The clearing of a hold slot (R36), with the FSU's replacement of a FIRE hold so lost (R80). -/
def State.clearSlot (s : State) (i : SlotNo) : State :=
  match s.holdAt i with
  | some h =>
    let owner := allDistricts.find? fun d => (s.district d).fire == some (s.handleAt i)
    let t := s.departHold i
    match h.origin, owner with
    | .fire, some d => t.adjustFire d
    | _, _ => t
  | none => s.vacate i

end Sys2Proof.Machine
end

