-- ==== Sys2Proof/Machine/Supervision.lean ====
section
/-! DEFINITION. The SVU (chapter 9): verification of the retained records, integrity faults and their restores, HALTED, the time
base, and the course out of service that ENTER COMMISSIONING and an integrity action share (R17). -/

namespace Sys2Proof.Machine

/-! ## Leaving service (R17) -/

/-- A request standing in a switch's slot ends CANCELLED (R17). -/
def State.cancelSlot (s : State) (k : SwitchNo) : State :=
  match (s.runtime k).slot with
  | some q => (s.setRuntime k { s.runtime k with slot := none }).endRequest k q .cancelled
  | none => s

/-- Every poll wanted cleared, both poll timers stopped (R17, R100). -/
def State.stopPolls (s : State) : State :=
  { s with
    sou.runtime := Vector.ofFn fun k => { s.sou.runtime[k] with pollWanted := none }
    sou.routineTimer := .stopped
    sou.headTimer := .stopped }

/-- The course of R17: the mode, the hunt's abandonment, the slots, the polls, the sequences, the watch (log entry 17). DEDUCED (log
entry 45): the CANCELLED result of an OPEN waiting in its slot settles a sequence in DEAD_TIME(n), or in RECLOSING(n) with the cancel
mark set, by R115 before R118 looks for one to record MODE. -/
def State.leaveService (s : State) : State :=
  let t := State.abandonCase { s with fmu.mode := .commissioning } .mode
  let u := ((allSwitches.foldl State.cancelSlot t).stopPolls).rcsLeaveService
  { u with ehu.watch := .start }

/-! ## Returning a runtime record (R12, R160) -/

/-- The SOU returns a switch's record to its start values; a reply the link awaits from it then finds nothing awaited. -/
def State.withdrawRuntime (s : State) (k : SwitchNo) : State :=
  let t := s.setRuntime k .start
  { t with sou.awaited := t.sou.awaited.map fun a => if a.switch = k then { a with withdrawn := true } else a }

/-! ## Link settings (R103) -/

/-- Writes the link settings; a poll timer that runs is restarted by a new interval. -/
def State.writeLink (s : State) (l : LinkSettings) : State :=
  let restart (t : Timer) (old new : Nat) : Timer := if t.isRunning && old != new then .start (10 * new) else t
  { s with
    sou.link := l
    sou.routineTimer := restart s.sou.routineTimer s.sou.link.pollInterval l.pollInterval
    sou.headTimer := restart s.sou.headTimer s.sou.link.headInterval l.headInterval }

/-! ## The time state (R164) -/

/-- A change of the time state: the TIME notice; into GOOD, the owed expiries (R38, R164). None while HALTED. -/
def State.setTimeState (s : State) (t : TimeState) : State :=
  if s.svu.halted || s.svu.timeState = t then s
  else
    let u := State.notify { s with svu.timeState := t } .time
    if t = .good then u.expireHolds else u

/-! ## Restores (R159, R160) -/

def State.restoreZone (s : State) (z : ZoneNo) : State :=
  let t := { s with fmu.zones := s.fmu.zones.set z .cold, fmu.reachTable := none }
  if s.fmu.mode = .service then t.leaveService else t

def State.restoreSwitch (s : State) (k : SwitchNo) : State :=
  let t := State.putSeq
    { s with fmu.switches := s.fmu.switches.set k none, fmu.reachTable := none } k { s.seq k with marker := none }
  let u := if s.fmu.mode = .service then t.leaveService else t
  u.withdrawRuntime k

def State.restoreCase (s : State) : State :=
  State.notify
    (State.rearmWatch { s with ehu.huntCase := .cold, ehu.settleTimer := .stopped, ehu.observeTimer := .stopped }) .hunt

def State.restoreMinute (s : State) : State :=
  let t := { s with svu.minute := 0, svu.timeSet := s.svu.timeSet && s.svu.timeState == TimeState.unset }
  t.setTimeState .unset

/-- The restore of a failed record by its owner (R159). -/
def State.restore (s : State) : RecordId → State
  | .slot i => s.clearSlot i
  | .group _ => s.restoreGroups
  | .seasonDistrict => s.restoreDistricts
  | .zone z => s.restoreZone z
  | .switch k => s.restoreSwitch k
  | .huntParameters => { s with ehu.params := .default }
  | .linkSettings => s.writeLink .default
  | .huntCase => s.restoreCase
  | .minuteCount => s.restoreMinute
  | .startCause => { s with svu.startCause := ⟨none, none, false⟩ }

/-- The records a restore writes, each with a fresh check code: a group's writes all four (R79). DEDUCED (log entry 47): a second
group that fails its check is mended by that writing, and is no fault of its own. -/
def restored : RecordId → List RecordId
  | .group _ => allLevels.map .group
  | r => [r]

/-- The records a restore reads beside the failed one, with the consequences the owner's rules give it (R158): a departed hold's
owner, R80 and R126; a commit's course (R64); the FIRE handles and an effective-level change (R79, R73); the course of R17; the
rearming of the watch (R154). -/
def State.readByRestore (s : State) : RecordId → RecordId → Bool
  | .slot i, r => match (s.holdAt i).map Hold.origin with
    | some .fire => isZone r || r == .seasonDistrict
    | some .hunt => isFeeder r || isHunt r
    | _ => false
  | .group _, r => isFeeder r || isHunt r || r == .seasonDistrict
  | .seasonDistrict, r => isSlot r || isFeeder r || isGroup r || isHunt r
  | .zone _, r | .switch _, r => isMode r || (s.fmu.mode == .service && (isSwitch r || r == .huntCase))
  | .huntCase, r => r == .huntParameters
  | .huntParameters, _ | .linkSettings, _ | .minuteCount, _ | .startCause, _ => false

/-- The records the taking of a fault reads beside the failed one: those of its restore, and those of steps 2 to 4, the slots and the
minute count for the INTEGRITY hold and the hunt case for the abandonment (R158; log entry 14). -/
def State.readByFault (s : State) (failed r : RecordId) : Bool :=
  s.readByRestore failed r || isSlot r || r == .minuteCount || r == .huntCase

/-! ## Faults (R158, R161) -/

/-- An INTEGRITY hold exists (R158). -/
def State.integrityExists (s : State) : Bool :=
  !(s.slotsWhere fun h => h.origin == .system && h.cause == some .integrity).isEmpty

/-- Places the INTEGRITY hold (R27). -/
def State.placeIntegrity (s : State) : State :=
  (s.placeHold (s.deviceHold .noClose .pinned .system wholeFeeder .integrity)).1

/-- What READ STATUS gives at this moment (R179). -/
def State.status (s : State) : Status :=
  { mode := s.fmu.mode, timeState := s.svu.timeState, halted := s.svu.halted, lkey := s.lines.lkey, tfb := s.fsu.tfb,
    watch := s.ehu.watch.state, caseState := s.ehu.huntCase.state, counts := s.htu.counts }

/-- Every second-scale timer of the blocks stops, and the scan (R104, R120, R155, R162). -/
def State.stopTimers (s : State) : State :=
  { s with
    sou.runtime := Vector.ofFn fun k => { s.sou.runtime[k] with mechanism := .stopped }
    sou.answerTimer := .stopped
    sou.routineTimer := .stopped
    sou.headTimer := .stopped
    rcs.seqs := Vector.ofFn fun k => { s.rcs.seqs[k] with deadTimer := .stopped, reclaimTimer := .stopped }
    ehu.watch.confirmTimer := .stopped
    ehu.huntCase.listen := .stopped
    ehu.settleTimer := .stopped
    ehu.observeTimer := .stopped
    svu.scanTimer := .stopped }

/-- The part enters HALTED; the status is kept as it stood (R161, R162). -/
def State.halt (s : State) : State :=
  let t := s.stopTimers
  { t with svu.halted := true, svu.haltStatus := some { t.status with halted := true } }

/-- Steps 2 to 4 of a first fault (R158). -/
def State.firstFault (s : State) : State := (s.placeIntegrity.notify .integrity).abandonCase .integrity

/-- A failing start-cause record restored by R159 alone, its halt mark left standing (R168). -/
def State.mendCause (s : State) : State :=
  if s.svu.badCodes.contains .startCause then
    State.recode { s with svu.startCause := ⟨none, none, s.svu.startCause.haltMark⟩ } .startCause
  else s

/-- Steps 2 to 4 of a second fault (R161). The start-cause record is read to be written with its halt mark, so that it carries a
fresh check code afterwards (R156). -/
def State.secondFault (s : State) : State :=
  let t := s.mendCause
  State.halt (State.notify { t with svu.startCause.haltMark := true } .integrity)

/-- A check failure taken: the restore, then by whether an INTEGRITY hold existed before it (R158, R161). -/
def State.takeFault (s : State) (r : RecordId) : State :=
  let t := (restored r).foldl State.recode (s.restore r)
  if s.integrityExists then t.secondFault else t.firstFault

/-- Verifies a record as it is read: a fault is taken unless the part has halted (R156). -/
def State.verifyOne (s : State) (r : RecordId) : State :=
  if s.svu.badCodes.contains r && !s.svu.halted then s.takeFault r else s

/-- The retained records in the order of the scan (R157). -/
def scanOrder : List RecordId :=
  allSlots.map .slot ++ allZones.map .zone ++ allSwitches.map .switch ++ allLevels.map .group
    ++ [.seasonDistrict, .huntParameters, .huntCase, .linkSettings, .minuteCount, .startCause]

/-- A check failure taken, and after step 4 the failures among the records its taking read (R158). -/
def State.takeFaultWhole (s : State) (r : RecordId) : State :=
  (scanOrder.filter (s.readByFault r)).foldl State.verifyOne (s.takeFault r)

/-- Verifies the records a test picks, in scan order (R156). -/
def State.verify (s : State) (reads : RecordId → Bool) : State :=
  if s.svu.badCodes.isEmpty then s
  else (scanOrder.filter reads).foldl
    (fun t r => if t.svu.badCodes.contains r && !t.svu.halted then t.takeFaultWhole r else t)
    s

/-! ## The time base (R163) -/

/-- The minute count advances, is written, and is an expiry event of the HTU while the time state is GOOD (R37, R163); while
HALTED it expires nothing (R162). -/
def State.advanceMinute (s : State) : State :=
  let t := State.recode { s with svu.minute := s.svu.minute + 1 } .minuteCount
  if s.svu.timeState = .good && !s.svu.halted then t.expireHolds else t

/-- A second counted (R163). -/
def State.countSecond (s : State) : State :=
  if s.svu.second = 59 then State.advanceMinute { s with svu.second := 0 }
  else { s with svu.second := s.svu.second + 1 }

/-- The pulse run after a counted pulse (R163). -/
def runAfter (source : CountSource) (run : Nat) (gap : Option Nat) : Nat :=
  match source, gap with
  | .tref, some g => if 900 ≤ g && g ≤ 1100 then min 3 (run + 1) else 0
  | _, _ => 0

/-- A counted pulse (R163, R164). -/
def State.countPulse (s : State) (gap : Option Nat) : State :=
  let run := runAfter s.svu.source s.svu.pulseRun gap
  let t := State.countSecond { s with svu.source := .tref, svu.pulseRun := run }
  if run = 3 && s.svu.pulseRun != 3 && s.svu.timeSet then t.setTimeState .good else t

/-- 1.5 s with no counted pulse (R163, R164). -/
def State.losePulses (s : State) : State :=
  let t := { s with svu.source := .oscillator }
  (if s.svu.timeState = .good then t.setTimeState .degraded else t).countSecond

end Sys2Proof.Machine
end

