-- ==== Sys2Proof/Machine/Start.lean ====
section
/-! DEFINITION. Starts (9.5): holding the part in reset, and the course of a cold or warm start. -/

namespace Sys2Proof.Machine

/-! ## Holding in reset (R166) -/

/-- Every volatile record at its start values, the notices apart; the retained records as they are. The reclose markers belong
to the retained switch entries (R119). -/
def State.volatileStart (s : State) : State :=
  { s with
    fmu.reachTable := none
    fsu.staging := none
    sou := Sou.start s.sou.link
    rcs.seqs := Vector.ofFn fun k => Sequence.start s.rcs.seqs[k].marker
    ehu := { Ehu.cold with params := s.ehu.params, huntCase := { s.ehu.huntCase with listen := .stopped } }
    svu := { s.svu with
      second := 0, timeSet := false, pulseRun := 0, source := .oscillator, timeState := .unset, halted := false
      haltStatus := none, scanTimer := .stopped }
    rqi := {
      controller := { PortRecord.start with notices := s.rqi.controller.notices }
      maintenance := { PortRecord.start with notices := s.rqi.maintenance.notices }
      lastRead := none } }

/-! ## Cold values (R167 item 2) -/

/-- The start cause of a start: COLD, else SUPPLY when SUPMON fell during the hold, else RESET-LINE (R166). -/
def State.causeOfStart (s : State) : StartCause :=
  if !s.svu.validity then .cold else if s.lines.fell then .supply else .resetLine

/-- Every retained record at its cold value; the validity marker written. -/
def State.coldStore (s : State) : State :=
  { s with
    fmu := .cold
    htu := .cold
    fsu := { Fsu.cold with tfb := s.fsu.tfb }
    sou := Sou.start .default
    rcs.seqs := Vector.replicate 16 (Sequence.start none)
    ehu := .cold
    svu := { s.svu with minute := 0, startCause := ⟨some .cold, some .cold, false⟩, validity := true, badCodes := [] } }

/-! ## The blocks' start courses (R167 item 3) -/

/-- The FSU (R78): TFB sampled, levels, FIRE holds, thresholds, profiles. A cold start compares with the cold records, so that with TFB
asserted it sets the LEVEL notice (log entry 33). -/
def State.fsuStart (s : State) : State :=
  let t := { s with fsu.tfb := s.lines.tfb, fsu.staging := none }
  let u := { t with
    fsu.districts := Vector.ofFn fun d => { t.fsu.districts[d] with effective := t.levelOfDistrict d } }
  let v := if t.changedDistricts.isEmpty then u else u.notify .level
  let w := (allDistricts.foldl State.reconcileFire v).handThresholds
  w.reviewProfiles w.configuredSwitches

/-- Starts both poll timers, as R100 lays down for ENTER SERVICE and for a start that finds the mode SERVICE. -/
def State.startPollTimers (s : State) : State :=
  { s with
    sou.routineTimer := .start (10 * s.sou.link.pollInterval)
    sou.headTimer := if (s.config 0).any (·.sensing) then .start (10 * s.sou.link.headInterval) else .stopped }

/-- A ROUTINE poll of every configured switch (R15, R104). -/
def State.pollAll (s : State) : State := s.configuredSwitches.foldl (fun t k => t.wantPoll k .routine) s

/-- The SOU, its records at their start values (R104). -/
def State.souStart (s : State) : State := if s.fmu.mode = .service then s.pollAll.startPollTimers else s

/-- One sequence at a start: its state, and RESTART for a marker found, which is cleared (R119). -/
def State.seqStart (s : State) (k : SwitchNo) : State :=
  let q := Sequence.start none
  let st : SeqState := if s.inService k then .uncertain else .outOfService
  match (s.seq k).marker with
  | some _ => (s.putSeq k { q with state := st, lastLockout := some ⟨.restart, s.svu.minute⟩ }).notify .lockout
  | none => s.putSeq k { q with state := st }

/-- The EHU (R155). -/
def State.ehuStart (s : State) : State :=
  let c := s.ehu.huntCase
  let t := { s with
    ehu := { Ehu.cold with params := s.ehu.params, thresholds := s.ehu.thresholds, huntCase := c.atStart } }
  if c.state.isOpen then t.notify .hunt else t

/-- The blocks in the order of R167 item 3. -/
def State.blocksStart (s : State) : State :=
  let t := { s with
    htu.counts := s.recount, fmu.reachTable := if s.fmu.mode = FeederMode.service then some s.fmu.buildReach else none }
  (allSwitches.foldl State.seqStart t.fsuStart.souStart).ehuStart

/-! ## The course of a start (R167) -/

/-- The verification of a warm start, in scan order; the counts are recomputed from the slots as they are read (R42; log entry 16). -/
def State.verifyStore (s : State) : State := State.verify { s with htu.counts := s.recount } (fun _ => true)

/-- Item 4: the halt mark at a warm start. -/
def State.takeHaltMark (s : State) : State :=
  if s.svu.startCause.haltMark then
    State.notify
      { (if s.integrityExists then s else s.placeIntegrity) with
        svu.startCause := { s.svu.startCause with haltMark := false } }
      .integrity
  else s

/-- Items 5 and 6. -/
def State.finishStart (s : State) : State := State.notify { s with svu.scanTimer := .start Svu.scanPeriod } .start

/-- Item 1: both notice sets emptied, the start-cause record written (R168). The SVU reads the record to find whether its first cause
is absent, and that read is verified (R156; log entry 15); a store without the validity marker is not. -/
def State.beginStart (s : State) (cause : StartCause) : State :=
  let t := s.volatileStart.onPorts fun p => { p with notices := {} }
  let u := if s.svu.validity then t.verify (· == .startCause) else t
  let r := u.svu.startCause
  { u with
    lines.fell := false
    svu.startCause := { r with last := some cause, first := r.first <|> some cause } }

/-- A start is taken (R167). It is cold when the validity marker is absent (R166). A second fault met by a warm start's
verification halts the part, and the course stops there (log entry 15). -/
def State.takeStart (s : State) : State :=
  let t := s.beginStart s.causeOfStart
  if s.svu.validity then
    let u := t.verifyStore
    if u.svu.halted then u else u.blocksStart.takeHaltMark.finishStart
  else t.coldStore.blocksStart.finishStart

/-- The part enters the hold in reset: work in flight ends, HALTED included (R166). -/
def State.enterReset (s : State) : State := if s.inReset then s else s.volatileStart

/-- The start is taken when nothing holds the part in reset. -/
def State.startIfReleased (s : State) : State := if s.inReset then s else s.takeStart

end Sys2Proof.Machine
end

