-- ==== Sys2Proof/Machine/FeederRequests.lean ====
section
/-! DEFINITION. The requests of the feeder model (1.5 to 1.9), as the FMU carries them out. -/

namespace Sys2Proof.Machine

/-- READ ZONE (R18). -/
def State.readZone (s : State) (zone : Nat) : State × Completion :=
  match zoneNo? zone with
  | none => (s, .refuse .refusedRange)
  | some z => (s, .done (.zone (s.zone z).info (s.zone z).suspicion))

/-- Time left on a timer in 0.1 s (R105). -/
def Timer.leftTenths : Timer → Option Nat
  | .running _ left => some left
  | .stopped => none

/-- What READ SWITCH returns (R18): of a switch that is not configured the runtime record at start values and OUT-OF-SERVICE. -/
def State.switchReport (s : State) (k : SwitchNo) : SwitchReport :=
  let q := s.seq k
  let configured := s.configured k
  { config := s.config k, table := s.tableEntry k, reach := s.reach k
    runtime := if configured then s.runtime k else .start
    required := s.requiredProfile k
    seqState := if configured then q.state else .outOfService
    shotsUsed := q.shotsUsed, deadLeft := q.deadTimer.leftTenths, reclaimLeft := q.reclaimTimer.leftTenths
    tripClass := q.tripClass, lastLockout := q.lastLockout }

/-- READ SWITCH (R18). The reach of an unconfigured switch with the table valid is a free value, drawn afresh (log entry 3). -/
def State.readSwitch (s : State) (switch : Nat) : State × Completion :=
  match switchNo? switch with
  | none => (s, .refuse .refusedRange)
  | some k =>
    let t := if s.fmu.reachTable.isSome && !s.configured k then { s with draws := s.draws + 1 } else s
    (t, .done (.switch (s.switchReport k)))

/-- A loaded entry in range, as a zone and its fields (R9). DEDUCED (log entry 32): a boundary kind that is neither SWITCHED nor FIXED and
an essential mark that is neither yes nor no are out of range. -/
def zoneLoad? (e : ZoneLoad) : Option (ZoneNo × ZoneInfo) := do
  let z ← zoneNo? e.zone
  let parent ← match e.parent with
    | none => if z = 0 then some none else none
    | some p => (zoneNo? p).map some
  let boundary ← match e.boundary with
    | .fixed => some Boundary.fixed
    | .switched k => (switchNo? k).map Boundary.switched
    | .unnamed => none
  let d ← districtNo? e.district
  let essential ← named? e.essential
  return (z, ⟨parent, boundary, d, essential⟩)

/-- The zone table a list of entries leaves (R10). -/
def loadedZones (l : List (ZoneNo × ZoneInfo)) : Vector ZoneEntry 32 :=
  l.foldl (fun v e => v.set e.1 ⟨some e.2, 0⟩) (Vector.replicate 32 .cold)

/-- LOAD ZONES (R9, R10, R11). -/
def State.loadZones (s : State) (entries : List ZoneLoad) : State × Completion :=
  if s.fmu.mode = .service then (s, .refuse .refusedMode)
  else if s.stepUnderWay then (s, .refuse .refusedBusy)
  else if entries.isEmpty || 32 < entries.length then (s, .refuse .refusedRange)
  else match entries.mapM zoneLoad? with
    | none => (s, .refuse .refusedRange)
    | some l =>
      let t := { s with fmu.zones := loadedZones l, fmu.reachTable := none }
      let (u, widened) := ((allZones.map RecordId.zone).foldl State.recode t).widenAll
      (u.handThresholds, .done (.loaded (allZones.filter fun z => (t.zoneInfo z).isSome).length widened))

/-- A configuration entry in range for a switch (R12); a mechanism time not given is 3.0 s. DEDUCED (log entry 32): a class that is none
of the four, a sensing mark that is neither yes nor no, and a mechanism time finer than 0.1 s are out of range. -/
def switchLoad? (k : SwitchNo) (e : SwitchLoad) : Option SwitchConfig :=
  match zoneNo? e.downstream, named? e.cls, named? e.sensing with
  | some z, some cls, some sensing =>
    if 1 ≤ e.address && e.address ≤ 254 && 1 ≤ e.multiplier && e.multiplier ≤ 4000 && e.shift ≤ 3
        && optAmount e.mechanism 5 100 && (k == 0) == (cls == .headBreaker) then
      some
        { cls := cls, address := BitVec.ofNat 8 e.address, downstream := z, sensing := sensing
          multiplier := e.multiplier, shift := e.shift, mechanism := (e.mechanism.map (·.units)).getD 30 }
    else none
  | _, _, _ => none

/-- A switch is occupied, or a hunt step is under way (R12, R13). -/
def State.configureBusy (s : State) (k : SwitchNo) : Bool :=
  (s.runtime k).slot.isSome || (s.runtime k).inFlight.isSome || s.stepUnderWay

/-- Writes a switch configuration entry, which invalidates the reach table and withdraws the runtime record (R12, R13). -/
def State.writeConfig (s : State) (k : SwitchNo) (c : Option SwitchConfig) : State :=
  State.withdrawRuntime
    (State.recode { s with fmu.switches := s.fmu.switches.set k c, fmu.reachTable := none } (.switch k)) k

/-- CONFIGURE SWITCH carrying an entry (R12). -/
def State.configureSwitch (s : State) (switch : Nat) (e : SwitchLoad) : State × Completion :=
  if s.fmu.mode = .service then (s, .refuse .refusedMode)
  else match switchNo? switch with
    | none => (s, .refuse .refusedRange)
    | some k => match switchLoad? k e with
      | none => (s, .refuse .refusedRange)
      | some c =>
        if s.configureBusy k then (s, .refuse .refusedBusy) else (s.writeConfig k (some c), .done)

/-- CONFIGURE SWITCH asking removal (R13). -/
def State.removeSwitch (s : State) (switch : Nat) : State × Completion :=
  if s.fmu.mode = .service then (s, .refuse .refusedMode)
  else match switchNo? switch with
    | none => (s, .refuse .refusedRange)
    | some k =>
      if s.configureBusy k then (s, .refuse .refusedBusy)
      else if !s.configured k then (s, .already)
      else (s.writeConfig k none, .done)

/-- The completion of ENTER SERVICE (R15): the reach table, the mode, the FSU, the SOU, the RCS. -/
def State.intoService (s : State) : State :=
  let t := { s with fmu.reachTable := some s.fmu.buildReach, fmu.mode := .service }
  let u := (allDistricts.foldl State.rederiveFire t).handThresholds
  let v := (u.pollAll.reviewProfiles u.configuredSwitches).startPollTimers
  v.rcsEnterService

/-- ENTER SERVICE (R14, R15). -/
def State.enterService (s : State) : State × Completion :=
  if s.fmu.mode = .service then (s, .already)
  else match s.fmu.failedCheck with
    | some (n, o) => (s, ⟨.refusedTopology, .topology n o⟩)
    | none => (s.intoService, .done)

/-- ENTER COMMISSIONING (R16, R17). -/
def State.enterCommissioning (s : State) : State × Completion :=
  if s.fmu.mode = .commissioning then (s, .already)
  else if !s.lines.lkey then (s, .refuse .refusedKey)
  else (s.leaveService, .done)

end Sys2Proof.Machine
end

