-- ==== Sys2Proof/Machine/HoldRequests.lean ====
section
/-! DEFINITION. The requests of the hold table and the reservations (chapters 2 and 3), as the HTU, the FSU and the RQI carry
them out. A request that may be conditional is given the port's reservation as it stood (R49). -/

namespace Sys2Proof.Machine

/-- The origin of a hold a port places (R25). -/
def originOf : Port → Origin | .controller => .controller | .maintenance => .maintenance

/-- The checks of R24, 1 to 5: the record as it would be placed, and none where REFUSED-RANGE answers. A tag of 0 is out of
range (R53). -/
def State.placement? (s : State) (p : Port) (b : PlaceBody) : Option Hold :=
  match scope? b.scope, named? b.kind, named? b.strength with
  | some z, some kind, some strength =>
    if (strength == .owned && b.tag.isNone) || (strength == .pinned && b.expiry.isSome)
        || b.expiry.any (fun m => m.toNat ≤ s.svu.minute.toNat) || b.tag == some 0 then none
    else some
      { kind := kind, strength := strength, origin := originOf p, scope := z, tag := b.tag, expiry := b.expiry
        reason := b.reason, cause := none, placed := s.svu.minute, version := 0 }
  | _, _, _ => none

/-- PLACE HOLD (R24, R25, R26). -/
def State.placeRequest (s : State) (p : Port) (b : PlaceBody) : State × Completion :=
  match s.placement? p b with
  | none => (s, .refuse .refusedRange)
  | some h =>
    if Config.portHolds ≤ s.htu.counts.controller + s.htu.counts.maintenance then (s, .refuse .refusedFull)
    else match s.placeHold h with
      | (t, some handle) => (t, .done (.placed handle 0 (t.tooLate h)))
      | (_, none) => (s, .refuse .refusedFull)

/-- The range and stale checks on a handle (R21). -/
def State.findHold (s : State) (f : HandleField) : Except Code (Handle × Hold) :=
  match handle? f with
  | none => .error .refusedRange
  | some h => match s.liveHold h with
    | none => .error .refusedStale
    | some r => .ok (h, r)

/-- READ HOLD (R28). -/
def State.readHold (s : State) (f : HandleField) : State × Completion :=
  match s.findHold f with
  | .error c => (s, .refuse c)
  | .ok (h, r) => (s, .done (.hold h r))

/-- Whether a hold passes the filters of LIST HOLDS (R29). -/
def Hold.listed (h : Hold) (zone : Option ZoneNo) (origin : Option Origin) : Bool :=
  zone.all h.scope.has && origin.all (· == h.origin)

/-- An optional filter zone in range. -/
def optZone? : Option Nat → Option (Option ZoneNo)
  | none => some none
  | some n => (zoneNo? n).map some

/-- LIST HOLDS (R29). -/
def State.listHolds (s : State) (start : Nat) (zone : Option Nat) (origin : Option (Choice Origin)) : State × Completion :=
  match slotNo? start, optZone? zone, optNamed? origin with
  | some i, some z, some o =>
    let picked := (s.slotsWhere (·.listed z o)).filter (i.val ≤ ·.val)
    let first := picked.take Config.listedHandles
    let more := picked.drop Config.listedHandles
    let next := if more.isEmpty then none else first.getLast?.bind fun j => slotNo? (j.val + 1)
    (s, .done (.holds (first.map s.handleAt) next))
  | _, _, _ => (s, .refuse .refusedRange)

/-- The port's reservation names a hold at a version (R48). -/
def holdReserved (r : Option Reservation) (h : Handle) (v : Version) : Bool := r == some (.hold h v)

/-- The changes of an AMEND HOLD in range (R32 check 1). -/
def amendChanges? (b : AmendBody) : Option AmendChanges :=
  match optNamed? b.strength, optNamed? b.kind with
  | some g, some k =>
    if b.tag == some 0 then none
    else match b.scope with
      | none => some ⟨b.expiry, g, none, k⟩
      | some l => (scope? l).map fun z => ⟨b.expiry, g, some z, k⟩
  | _, _ => none

/-- An AMEND HOLD that changes a field, applied whole (R33). -/
def State.amendApplied (s : State) (h : Handle) (r new : Hold) (c : AmendChanges) : State × Completion :=
  let t := (((s.setSlot h.slot { s.slot h.slot with hold := some new }).loseHold h).notify .hold)
  (t, .done (.amended new.version (if c.tightens r then t.tooLate new else [])))

/-- AMEND HOLD (R30 to R33). -/
def State.amendHold (s : State) (reservation : Option Reservation) (b : AmendBody) : State × Completion :=
  match handle? b.handle, amendChanges? b with
  | some h, some carried =>
    match s.liveHold h with
    | none => (s, .refuse .refusedStale)
    | some r =>
      let c := carried.against r
      if b.conditional && !holdReserved reservation h r.version then (s, .refuse .refusedLost)
      else if r.origin == .fire || r.origin == .system then (s, .refuse .refusedOrigin)
      else match (if c.relaxes r then r.authority b.tag s.lines.lkey else .ok ()) with
        | .error code => (s, .refuse code)
        | .ok () =>
          if c.isEmpty then (s, .already (.amended r.version []))
          else match c.apply r b.tag s.svu.minute with
            | none => (s, .refuse .refusedRange)
            | some new => s.amendApplied h r new c
  | _, _ => (s, .refuse .refusedRange)

/-- Origin and authority of a release (R34). -/
def Hold.releasable (r : Hold) (tag : Option OwnerTag) (lkey : Bool) : Except Code Unit :=
  match r.origin with
  | .fire => .error .refusedOrigin
  | .system => if lkey then .ok () else .error .refusedOrigin
  | .controller | .maintenance | .hunt => r.authority tag lkey

/-- RELEASE HOLD (R34, R35). -/
def State.releaseHold (s : State) (reservation : Option Reservation) (b : ReleaseBody) : State × Completion :=
  if b.tag == some 0 then (s, .refuse .refusedRange)
  else match s.findHold b.handle with
    | .error c => (s, .refuse c)
    | .ok (h, r) =>
      if b.conditional && !holdReserved reservation h r.version then (s, .refuse .refusedLost)
      else match r.releasable b.tag s.lines.lkey with
        | .error c => (s, .refuse c)
        | .ok () =>
          let t := s.departHold h.slot
          (t, .done (.released (h.useCount + 1)))

/-- CHECK CLOSE (R41). -/
def State.checkClose (s : State) (switch : Nat) (kind : Choice CloseKind) : State × Completion :=
  match switchNo? switch, named? kind with
  | some k, some c =>
    if !s.configured k then (s, .refuse .refusedState)
    else
      let b := s.blockers k c
      (s, .done (.permission b.isEmpty b.length ((b.take Config.blockingHandles).map s.handleAt) (s.reach k)))
  | _, _ => (s, .refuse .refusedRange)

/-- Fills a port's register (R46, R47). -/
def State.fillRegister (s : State) (p : Port) (r : Reservation) : State :=
  s.setPort p { s.port p with reservation := some r }

/-- RESERVE HOLD (R46). -/
def State.reserveHold (s : State) (p : Port) (f : HandleField) : State × Completion :=
  match s.findHold f with
  | .error c => (s.dropReservation p, .refuse c)
  | .ok (h, r) => (s.fillRegister p (.hold h r.version), .done (.hold h r))

/-- RESERVE LEVEL (R47). -/
def State.reserveLevel (s : State) (p : Port) (district : Nat) : State × Completion :=
  match districtNo? district with
  | none => (s.dropReservation p, .refuse .refusedRange)
  | some d =>
    let r := s.district d
    (s.fillRegister p (.district d r.version),
      .done (.reservedLevel r.declared r.effective r.version s.fsu.season s.fsu.tfb))

end Sys2Proof.Machine
end

