-- ==== Sys2Proof/Machine/FireRequests.lean ====
section
/-! DEFINITION. The requests of the fire settings (4.2, 4.3) and of the staging record (3.6), as the FSU carries them out. -/

namespace Sys2Proof.Machine

/-- A group with one field given a value; none when the value is outside the field's range, finer than its stored unit, or not
of the field's kind (R58, R62). -/
def Group.edit (g : Group) (f : GroupField) (v : GroupValue) : Option Group :=
  match f, v with
  | .shotsAllowed, .quantity a => if amountWithin a 0 3 then some { g with shots := a.units } else none
  | .deadTime1, .quantity a => if amountWithin a 5 1800 then some { g with dead1 := a.units } else none
  | .deadTime2, .quantity a => if amountWithin a 5 1800 then some { g with dead2 := a.units } else none
  | .deadTime3, .quantity a => if amountWithin a 5 1800 then some { g with dead3 := a.units } else none
  | .reclaimTime, .quantity a => if amountWithin a 5 600 then some { g with reclaim := a.units } else none
  | .profileCode, .quantity a => if amountWithin a 0 15 then some { g with profile := a.units } else none
  | .residualPickup, .quantity a => if amountWithin a 5 500 then some { g with pickup := a.units } else none
  | .dropoffPercent, .quantity a => if amountWithin a 50 95 then some { g with dropoff := a.units } else none
  | .recloseAfterEarth, .yesNo b => some { g with recloseEarth := b }
  | .activeTests, .yesNo b => some { g with activeTests := b }
  | .closeBackOntoSuspect, .yesNo b => some { g with closeBack := b }
  | .isolateFound, .yesNo b => some { g with isolate := b }
  | _, _ => none

/-- OPEN GROUP EDIT (R56, R61). DEDUCED (log entry 41): a name that is none of the four is refused for its range while staging is open
too; R61 names that refusal first, and neither rule gives an order. -/
def State.openGroupEdit (s : State) (p : Port) (group : Choice Level) : State × Completion :=
  match named? group with
  | none => (s, .refuse .refusedRange)
  | some l =>
    if s.fsu.staging.isSome then (s, .refuse .refusedBusy)
    else ({ s with fsu.staging := some ⟨l, p, s.group l⟩ }, .done (.staging l (s.group l)))

/-- The open staging record, when a port owns it (R56). -/
def State.ownStaging (s : State) (p : Port) : Option Staging :=
  s.fsu.staging.bind fun g => if g.owner = p then some g else none

/-- EDIT GROUP (R62). -/
def State.editGroup (s : State) (p : Port) (field : Choice GroupField) (v : GroupValue) : State × Completion :=
  match s.ownStaging p with
  | none => (s, .refuse .refusedSequence)
  | some g => match named? field with
    | none => (s, .refuse .refusedRange)
    | some f => match g.group.edit f v with
      | none => (s, .refuse .refusedRange)
      | some e => ({ s with fsu.staging := some { g with group := e } }, .done (.edited f v))

/-- COMMIT GROUP (R63, R64). -/
def State.commitGroup (s : State) (p : Port) : State × Completion :=
  match s.ownStaging p with
  | none => (s, .refuse .refusedSequence)
  | some g =>
    let groups := s.fsu.groups.put g.group g.level
    match groups.orderFault with
    | some (n, pair) => (s, ⟨.refusedOrder, .order n pair⟩)
    | none =>
      let t := { s with fsu.groups := groups, fsu.staging := none }
      (t.groupConsequences s.fsu.groups, .done (.committed g.level ((s.group g.level).changes g.group)))

/-- DISCARD GROUP EDIT (R57). DEDUCED (log entry 13): with staging closed there is no group and no owner to name, and ALREADY carries no
data. -/
def State.discardGroupEdit (s : State) (p : Port) : State × Completion :=
  match s.fsu.staging with
  | none => (s, .already)
  | some g =>
    if g.owner = p || s.lines.lkey then ({ s with fsu.staging := none }, .done (.discarded g.level g.owner))
    else (s, .refuse .refusedSequence)

/-- READ GROUP (R66). -/
def State.readGroup (s : State) (group : Choice Level) (withStaging : Bool) : State × Completion :=
  match named? group with
  | none => (s, .refuse .refusedRange)
  | some l => (s, .done (if withStaging then .groupAndStaging (s.group l) s.fsu.staging else .group (s.group l)))

/-- The declared level set, with every consequence (R69). -/
def State.setDeclared (s : State) (d : DistrictNo) (l : Level) : State :=
  let r := s.district d
  (((s.setDistrict d { r with declared := l, version := r.version + 1 }).notify .level).loseDistrict d).applyLevels

/-- DECLARE LEVEL (R48, R69): ALREADY carries the fields of the record, the FIRE handle among them (R67), and DONE the three that R69
names. -/
def State.declareLevel (s : State) (reservation : Option Reservation) (district : Nat) (level : Choice Level)
    (conditional : Bool) : State × Completion :=
  match districtNo? district, named? level with
  | some d, some l =>
    if conditional && reservation != some (.district d (s.district d).version) then (s, .refuse .refusedLost)
    else if (s.district d).declared = l then (s, .already (.district (s.district d)))
    else
      let t := s.setDeclared d l
      let r := t.district d
      (t, .done (.declared r.declared r.effective r.version))
  | _, _ => (s, .refuse .refusedRange)

/-- SET SEASON (R70). -/
def State.setSeason (s : State) (season : Choice Season) : State × Completion :=
  match named? season with
  | none => (s, .refuse .refusedRange)
  | some f =>
    if s.fsu.season = f then (s, .already (.season f 0))
    else
      let t := State.notify { s with fsu.season := f } .level
      (t.applyLevels, .done (.season f t.changedDistricts.length))

/-- READ LEVELS (R72). DEDUCED (log entry 34): the thresholds are those of R76 at this moment, whether or not they were handed over. -/
def State.readLevels (s : State) : State × Completion :=
  (s, .done (.levels s.fsu.season s.fsu.tfb (Vector.ofFn fun d => ⟨s.district d, s.districtPresent d⟩)
    s.feederThresholds s.thresholdLevel))

end Sys2Proof.Machine
end

