-- ==== Sys2Proof/Machine/SwitchRequests.lean ====
section
/-! DEFINITION. The requests of the switches and the link settings (5.4, 5.6, 5.9), as the SOU carries them out. -/

namespace Sys2Proof.Machine

/-- What follows check 3 of R91: the checks of a CLOSE, and the table of R90. -/
def State.operateChecked (s : State) (p : Port) (k : SwitchNo) (a : SwitchAction) : State × Completion :=
  if a == .toClose && (s.runtime k).condition == .failed then (s, .refuse .refusedFailed)
  else if a == .toClose && !s.closePermitted k .deliberate then (s, .refuse .refusedHeld)
  else match s.requestSlot k ⟨a, .ofPort p⟩ with
    | (t, .taken) => (t.rcsAccepted k a, .accepted (.operation k a))
    | (t, .already) => (t, .already)
    | (t, _) => (t, .refuse .refusedBusy)

/-- OPERATE SWITCH (R91). A taking that passes check 3 is reported to the EHU. -/
def State.operateSwitch (s : State) (p : Port) (switch : Nat) (action : Choice SwitchAction) : State × Completion :=
  match switchNo? switch, named? action with
  | some k, some a =>
    if !s.configured k then (s, .refuse .refusedState)
    else if s.underTest k then
      match a with
      | .toClose => (s, .refuse .refusedBusy)
      | .toOpen => (s, .already)
    else (s.huntOperateTaken k).operateChecked p k a
  | _, _ => (s, .refuse .refusedRange)

/-- CLEAR SWITCH FAILURE (R93). -/
def State.clearFailure (s : State) (switch : Nat) : State × Completion :=
  match switchNo? switch with
  | none => (s, .refuse .refusedRange)
  | some k =>
    if !s.configured k then (s, .refuse .refusedState)
    else if (s.runtime k).condition = .failed then
      let t := s.setCondition k .sound
      (if s.fmu.mode = .service then t.wantPoll k .routine else t, .done)
    else (s.setCondition k .sound, .already)

/-- A push of the switch awaits its answer (R99). -/
def State.pushAwaited (s : State) (k : SwitchNo) : Bool :=
  match s.awaitedFrom k with
  | some (.setProfile _) => true
  | _ => false

/-- RETRY PROFILE (R99). -/
def State.retryProfile (s : State) (switch : Nat) : State × Completion :=
  match switchNo? switch with
  | none => (s, .refuse .refusedRange)
  | some k =>
    let r := s.runtime k
    if !s.configured k then (s, .refuse .refusedState)
    else if r.condition = .failed then (s, .refuse .refusedFailed)
    else match s.requiredProfile k with
      | none => (s, .refuse .refusedState)
      | some code =>
        if r.profileState = .confirmed && r.confirmed = some code then (s, .already (.switchNumber k))
        else if r.pushWanted || s.pushAwaited k then (s, .accepted (.switchNumber k))
        else
          (s.setRuntime k { r with pushWanted := true, profileState := .pending }, .accepted (.switchNumber k))

/-- Every carried link setting is in its range (R103). -/
def linkInRange (f : LinkFields) : Bool :=
  optAmount f.answerTime 2 50 && optAmount f.pollInterval 10 3600 && optAmount f.headInterval 2 60
    && [f.reclose, f.controller, f.maintenance, f.hunt, f.profile, f.poll].all (optWithin · 0 3)

/-- The link settings with the carried fields written (R103). -/
def LinkSettings.write (l : LinkSettings) (f : LinkFields) : LinkSettings :=
  { answerTime := (f.answerTime.map (·.units)).getD l.answerTime
    pollInterval := (f.pollInterval.map (·.units)).getD l.pollInterval
    headInterval := (f.headInterval.map (·.units)).getD l.headInterval
    reclose := f.reclose.getD l.reclose
    controller := f.controller.getD l.controller
    maintenance := f.maintenance.getD l.maintenance
    hunt := f.hunt.getD l.hunt
    profile := f.profile.getD l.profile
    poll := f.poll.getD l.poll }

/-- SET LINK SETTINGS (R103). -/
def State.setLinkSettings (s : State) (f : LinkFields) : State × Completion :=
  if !linkInRange f then (s, .refuse .refusedRange)
  else
    let l := s.sou.link.write f
    if l = s.sou.link then (s, .already (.link l)) else (s.writeLink l, .done (.link l))

end Sys2Proof.Machine
end

