-- ==== Sys2Proof/Machine/HuntRequests.lean ====
section
/-! DEFINITION. The requests of the watch and the hunt case (7.3 to 7.7, 8.5 to 8.8), as the EHU carries them out. -/

namespace Sys2Proof.Machine

/-- The hunt parameters with the carried fields written; none when a value is out of range (R127). DEDUCED (log entry 40): a time finer
than the whole second is refused as out of range, as R62 and R103 have it for their fields; R127 gives no code for it. -/
def HuntParams.write (p : HuntParams) (f : HuntFields) : Option HuntParams :=
  match optNamed? f.autoStart, optNamed? f.essential with
  | some a, some e =>
    if optAmount f.confirm 10 600 && optAmount f.listen 5 120 && optAmount f.settle 2 30 && optAmount f.observe 5 60 then
      let time (o : Option Amount) (old : Nat) : Nat := (o.map (·.units)).getD old
      some
        { autoStart := a.getD p.autoStart, confirm := time f.confirm p.confirm, listen := time f.listen p.listen
          settle := time f.settle p.settle, observe := time f.observe p.observe, essential := e.getD p.essential }
    else none
  | _, _ => none

/-- SET HUNT PARAMETERS (R126, R127). -/
def State.setHuntParameters (s : State) (f : HuntFields) : State × Completion :=
  match s.ehu.params.write f with
  | none => (s, .refuse .refusedRange)
  | some p =>
    if p = s.ehu.params then (s, .already (.params p))
    else
      let t := { s with ehu.params := p }
      (if p.autoStart && !s.ehu.params.autoStart then t.retryStart else t, .done (.params p))

/-- The origin of a case a port starts (R131). -/
def startOriginOf : Port → StartOrigin | .controller => .controller | .maintenance => .maintenance

/-- START HUNT (R130, R131). -/
def State.startHunt (s : State) (p : Port) (essential : Option (Choice Bool)) : State × Completion :=
  match optNamed? essential with
  | none => (s, .refuse .refusedRange)
  | some choice => match s.startChecks with
    | some c => (s, .refuse c)
    | none =>
      let t := s.startCase (startOriginOf p) (choice.getD s.ehu.params.essential)
      (t, .accepted (.caseNumber t.ehu.huntCase.number))

/-- READ HUNT (R136). The zones of a segment are empty while the reach table is invalid, and (DEDUCED, log entry 36) for a listed switch
that the valid table has no entry for, being no longer configured. -/
def State.readHunt (s : State) : State × Completion :=
  let c := s.ehu.huntCase
  (s, .done (.hunt
    { watch := s.ehu.watch, confirmLeft := s.ehu.watch.confirmTimer.leftSeconds, thresholds := s.ehu.thresholds
      params := s.ehu.params, huntCase := c, listenLeft := c.listen.leftSeconds
      zones := (c.candidates ++ c.cleared).map fun k => (k, s.segment k) }))

/-- RESUME HUNT (R149). -/
def State.resumeHunt (s : State) : State × Completion :=
  let c := s.ehu.huntCase
  match c.state, c.suspension with
  | .suspended, some p =>
    if s.stillStopped p then (s, .refuse .refusedState) else (s.resumeCase, .accepted (.caseNumber c.number))
  | _, _ => (s, .refuse .refusedState)

/-- The state and test switch that ABANDON HUNT returns in STEPPING (R150). -/
def State.steppingData (s : State) : ResponseData :=
  match s.ehu.huntCase.step with
  | some st => .steppingOn st.switch
  | none => .empty

/-- ABANDON HUNT (R150). -/
def State.abandonHunt (s : State) : State × Completion :=
  match s.ehu.huntCase.state with
  | .idle => (s, .refuse .refusedState)
  | .locating | .suspended => (s.concludeAbandoned .port, .done)
  | .stepping =>
    if s.ehu.pendingAbandon.isSome then (s, .already s.steppingData) else (s.pendAbandon .port, .done s.steppingData)
  | .concluded => (s, .already)

/-- The record of a case a port has closed (R154). -/
def HuntCase.closed (c : HuntCase) : HuntCase :=
  { c with
    state := .idle, candidates := [], cleared := [], leftOpen := [], noRetest := 0
    inconclusive := Vector.replicate 16 0 }

/-- CLOSE HUNT CASE (R154). -/
def State.closeHuntCase (s : State) : State × Completion :=
  match s.ehu.huntCase.state with
  | .idle => (s, .already)
  | .locating | .stepping | .suspended => (s, .refuse .refusedState)
  | .concluded => (State.rearmWatch { s with ehu.huntCase := s.ehu.huntCase.closed }, .done)

end Sys2Proof.Machine
end

