-- ==== Sys2Proof/Machine/SystemRequests.lean ====
section
/-! DEFINITION. The requests of the time base, the start cause, status, notices and identity (9.4, 9.5, 10.5, 10.6). -/

namespace Sys2Proof.Machine

/-- The time state after a SET TIME (R164), and the expiries of the change of count (R38, R165). -/
def State.timeSetTo (s : State) (m : Minute) : State :=
  let t := State.recode { s with svu.minute := m, svu.second := 0, svu.timeSet := true } .minuteCount
  let u := if s.svu.pulseRun = 3 then t.setTimeState .good else t
  if s.svu.timeState = .good && s.svu.minute.toNat < m.toNat then u.expireHolds else u

/-- SET TIME (R165). -/
def State.setTime (s : State) (minute : Nat) : State × Completion :=
  if 4294967295 < minute then (s, .refuse .refusedRange)
  else
    let t := s.timeSetTo (BitVec.ofNat 32 minute)
    (t, .done (.timeAfter t.svu.minute t.svu.timeState))

/-- READ TIME (R165). -/
def State.readTime (s : State) : State × Completion :=
  (s, .done (.time s.svu.minute s.svu.second s.svu.timeState s.svu.timeSet s.svu.pulseRun s.svu.source))

/-- The start-cause record as READ START CAUSE reads it while HALTED: a failed record is restored, the halt mark kept set, and
nothing else follows (R168). -/
def State.readCauseHalted (s : State) : State := if s.svu.halted then s.mendCause else s

/-- READ START CAUSE (R168). -/
def State.readStartCause (s : State) (clear : Choice Bool) : State × Completion :=
  match named? clear with
  | none => (s, .refuse .refusedRange)
  | some c =>
    let t := s.readCauseHalted
    let u := if c then { t with svu.startCause.first := none } else t
    (u, .done (.startCause t.svu.startCause t.svu.halted))

/-- READ STATUS (R162, R179). -/
def State.readStatus (s : State) : State × Completion :=
  (s, .done (.status (if s.svu.halted then s.svu.haltStatus.getD s.status else s.status)))

/-- READ NOTICES (R177). -/
def State.readNotices (s : State) (p : Port) : State × Completion :=
  (s, .done (.notices (s.port p).notices (s.port p).mask))

/-- An optional new mask, every name of it one of the ten. -/
def mask? : Option (List (Choice Notice)) → Option (Option NoticeSet)
  | none => some none
  | some l => (names? l).map fun ns => some (.ofList ns)

/-- CLEAR NOTICES (R177). -/
def State.clearNotices (s : State) (p : Port) (names : List (Choice Notice)) (mask : Option (List (Choice Notice))) :
    State × Completion :=
  match names? names, mask? mask with
  | some ns, some m =>
    let r := s.port p
    let after := r.notices.clearAll ns
    let newMask := m.getD r.mask
    (s.setPort p { r with notices := after, mask := newMask }, .done (.cleared r.notices after newMask))
  | _, _ => (s, .refuse .refusedRange)

/-- IDENTIFY (R180). -/
def State.identify (s : State) : State × Completion := (s, .done (.identity identifyTable))

end Sys2Proof.Machine
end

