-- ==== Sys2Proof/Machine/Reads.lean ====
section
/-! DEFINITION. The retained records each command reads, which are verified as they are read (R156). The spec lists no record set
for a command: each set here is what the command's rules read, by kind of record (log entry 14). -/

namespace Sys2Proof.Machine

/-- The slot a handle names. -/
def isSlotOf (f : HandleField) (r : RecordId) : Bool := (slotNo? f.slot).any fun i => r == .slot i

/-- The records the field link, the sequences, the watch and the hunt read among them, the arbiter's picks included: all but the
start-cause record. -/
def linkReads (r : RecordId) : Bool := r != .startCause
/-- The records a start attempt of the watch, or another entry of LOCATING, reads (R126, R131, R132), with the polls it has picked. -/
def attemptReads (r : RecordId) : Bool := isHunt r || isFeeder r || r == .minuteCount || r == .linkSettings
/-- The records the expiries of the hold table read (R37, R38), with the attempt that the departure of a HUNT hold makes. -/
def expiryReads (r : RecordId) : Bool := isSlot r || attemptReads r
/-- Verifies what a command reads. Where a fault among it has left the arbiter something to pick, as a restore that wants pushes or polls
does, what the picks read is verified too, before the block goes on (R156; log entry 14). -/
def State.verifyReads (s : State) (reads : RecordId → Bool) : State :=
  let t := s.verify reads
  if s.svu.badCodes.any reads && t.sou.awaited.isNone && !t.claims.isEmpty then t.verify linkReads else t

/-- The records a poll timer's expiry reads. -/
def pollReads (r : RecordId) : Bool := isMode r || isSwitch r || r == .linkSettings

/-- The records a request's rules read, the picks that end its taking included. -/
def requestReads : Request → RecordId → Bool
  | .readZone z, r => (zoneNo? z).any fun n => r == .zone n
  | .readSwitch _, r => isFeeder r || isDanger r
  | .loadZones _, r => isMode r || isSlot r || isDanger r || r == .huntCase
  | .configureSwitch k _, r | .configureSwitchRemoval k, r =>
    isMode r || r == .huntCase || (switchNo? k).any fun n => r == .switch n
  | .enterService, r => isSlot r || isFeeder r || isDanger r || r == .linkSettings || r == .minuteCount
  | .enterCommissioning, r => isFeeder r || r == .huntCase || r == .minuteCount
  | .placeHold _, r => isSlot r || isFeeder r || r == .minuteCount
  | .readHold f, r | .reserveHold f, r => isSlotOf f r
  | .listHolds _ _ _, r => isSlot r
  | .amendHold b, r => isSlotOf b.handle r || isFeeder r || r == .minuteCount
  | .releaseHold b, r => isSlotOf b.handle r || attemptReads r
  | .checkClose _ _, r => isSlot r || isFeeder r
  | .reserveLevel _, r => r == .seasonDistrict
  | .openGroupEdit g, r => (named? g).any fun l => r == .group l
  | .readGroup g _, r => (named? g).any fun l => r == .group l
  | .commitGroup, r => isDanger r || attemptReads r
  | .declareLevel _ _ _, r | .setSeason _, r | .operateSwitch _ _, r => linkReads r
  | .readLevels, r => isZone r || isDanger r
  | .clearSwitchFailure _, r => isFeeder r || isDanger r || isHunt r || r == .linkSettings
  | .retryProfile _, r => isFeeder r || isDanger r || r == .linkSettings
  | .setLinkSettings _, r => r == .linkSettings
  | .setHuntParameters _, r | .startHunt _, r | .resumeHunt, r => attemptReads r
  | .readHunt, r => isHunt r
  | .abandonHunt, r => r == .huntCase
  | .closeHuntCase, r => isHunt r
  | .setTime _, r => expiryReads r
  | .readTime, r => r == .minuteCount
  | .readStartCause _, r => r == .startCause
  | .readStatus, r => isMode r || r == .huntCase
  | .editGroup _ _, _ | .discardGroupEdit, _ | .readNotices, _ | .clearNotices _ _, _ | .identify, _ => false

end Sys2Proof.Machine
end

