-- ==== Sys2Proof/Machine/Requests.lean ====
section
/-! DEFINITION. The request interface (chapters 3 and 10): passing a request to its owning block, the checks common to all
requests, the response, the two buffers of a port, and the arrival of a frame. -/

namespace Sys2Proof.Machine

/-- The owning block carries a request out (R173 step 3). -/
def State.carryOut (s : State) (p : Port) : Request → State × Completion
  | .readZone z => s.readZone z
  | .readSwitch k => s.readSwitch k
  | .loadZones l => s.loadZones l
  | .configureSwitch k e => s.configureSwitch k e
  | .configureSwitchRemoval k => s.removeSwitch k
  | .enterService => s.enterService
  | .enterCommissioning => s.enterCommissioning
  | .placeHold b => s.placeRequest p b
  | .readHold f => s.readHold f
  | .listHolds i z o => s.listHolds i z o
  | .amendHold b => s.amendHold (s.port p).reservation b
  | .releaseHold b => s.releaseHold (s.port p).reservation b
  | .checkClose k c => s.checkClose k c
  | .reserveHold f => s.reserveHold p f
  | .reserveLevel d => s.reserveLevel p d
  | .openGroupEdit g => s.openGroupEdit p g
  | .editGroup f v => s.editGroup p f v
  | .commitGroup => s.commitGroup p
  | .discardGroupEdit => s.discardGroupEdit p
  | .readGroup g o => s.readGroup g o
  | .declareLevel d l c => s.declareLevel (s.port p).reservation d l c
  | .setSeason f => s.setSeason f
  | .readLevels => s.readLevels
  | .operateSwitch k a => s.operateSwitch p k a
  | .clearSwitchFailure k => s.clearFailure k
  | .retryProfile k => s.retryProfile k
  | .setLinkSettings f => s.setLinkSettings f
  | .setHuntParameters f => s.setHuntParameters f
  | .startHunt e => s.startHunt p e
  | .readHunt => s.readHunt
  | .resumeHunt => s.resumeHunt
  | .abandonHunt => s.abandonHunt
  | .closeHuntCase => s.closeHuntCase
  | .setTime m => s.setTime m
  | .readTime => s.readTime
  | .readStartCause c => s.readStartCause c
  | .readStatus => s.readStatus
  | .readNotices => s.readNotices p
  | .clearNotices n m => s.clearNotices p n m
  | .identify => s.identify

/-- The request carries the conditional option (R48). -/
def isConditional : Request → Bool
  | .amendHold b => b.conditional
  | .releaseHold b => b.conditional
  | .declareLevel _ _ c => c
  | _ => false

/-- The request fills the port's register, or empties it when refused (R46, R47). -/
def isReserving : Request → Bool
  | .reserveHold _ | .reserveLevel _ => true
  | _ => false

/-- The requests taken on the controller port alone (R55). -/
def controllerOnly : Request → Bool
  | .setSeason _ | .declareLevel _ _ _ | .setTime _ | .setHuntParameters _ | .setLinkSettings _ => true
  | _ => false

/-- The requests answered while HALTED (R173 step 1). -/
def takenHalted : Request → Bool
  | .readStatus | .readStartCause _ => true
  | _ => false

/-- A request refused before its owning block sees it: a reserving request empties its port's register (R46, R47). -/
def State.refuseEarly (s : State) (p : Port) (r : Request) (c : Code) : State × Completion :=
  (if isReserving r then s.dropReservation p else s, .refuse c)

/-- The requests of class A, which move nothing that waits (R174). -/
def isReading : Request → Bool
  | .readZone _ | .readSwitch _ | .readHold _ | .reserveHold _ | .listHolds _ _ _ | .checkClose _ _ | .reserveLevel _
  | .readLevels | .readGroup _ _ | .readHunt | .readTime | .readStartCause _ | .readStatus | .readNotices
  | .clearNotices _ _ | .identify => true
  | _ => false

/-- The order of R173: HALTED, the port right, the owning block, whose reads are verified first (R156). A fault among them
that halts the part has the request answered REFUSED-HALTED, save READ START CAUSE (R161). -/
def State.judge (s : State) (p : Port) (r : Request) : State × Completion :=
  if s.svu.halted && !takenHalted r then s.refuseEarly p r .refusedHalted
  else if p == .maintenance && controllerOnly r then s.refuseEarly p r .refusedPort
  else
    let t := if s.svu.halted then s else s.verifyReads (requestReads r)
    if t.svu.halted && !s.svu.halted && (match r with | .readStartCause _ => false | _ => true) then
      t.refuseEarly p r .refusedHalted
    else t.carryOut p r

/-- A request taken: judged, and a conditional one empties its port's register in every outcome (R49). -/
def State.takeRequest (s : State) (p : Port) (r : Request) : State × Completion :=
  let (t, c) := s.judge p r
  (if isConditional r then t.dropReservation p else t, c)

/-- The response built from a completion (R173); the discard mark is then cleared, the request buffer empty. -/
def State.respond (s : State) (p : Port) (code : Byte) (c : Completion) : State :=
  let r := s.port p
  s.setPort p { r with
    request := none
    response := some
      { request := code, code := c.code, discardMark := r.discardMark, noticeWaiting := r.notices.waiting r.mask
        data := c.data }
    discardMark := false }

/-- The RQI takes a frame: a request, or a frame that fails framing (R170, R173). The arbiter may pick in the same taking,
unless the request is of class A and met no fault: it then made no candidate (R94, R174). -/
def State.takeFrame (s : State) (p : Port) : Frame → State
  | .malformed code => s.respond p code (.refuse .refusedFormat)
  | .request r =>
    let (t, c) := s.takeRequest p r
    let u := t.respond p (requestCode r) c
    if isReading r && !s.svu.badCodes.any (requestReads r) then u else u.arbitrate

/-- The discard mark set (R169). -/
def State.markDiscard (s : State) (p : Port) : State := s.setPort p { s.port p with discardMark := true }

/-- A complete frame arrives on a port (R169, R171, R172): held and taken at once where the port is EMPTY, and on the
controller port where it is READY, its unread response then lost; held on a READY maintenance port until the response is
sent; discarded where a frame is held. -/
def State.frameArrives (s : State) (p : Port) (f : Frame) : State :=
  if s.inReset then s
  else
    let r := s.port p
    if r.request.isSome then s.markDiscard p
    else if p == .maintenance && r.response.isSome then s.setPort p { r with request := some f }
    else (s.setPort p { r with response := none }).takeFrame p f

/-- A request frame arrives. -/
def State.requestArrives (s : State) (p : Port) (r : Request) : State := s.frameArrives p (.request r)

/-- The sending of the maintenance port's response ends; a held frame is then taken (R172). -/
def State.responseEnds (s : State) : State :=
  let r := s.port .maintenance
  if s.inReset || r.response.isNone then s
  else
    let t := s.setPort .maintenance { r with response := none, request := none }
    match r.request with
    | none => t
    | some f => t.takeFrame .maintenance f

/-- A read transaction on the controller port (R171). -/
def State.readOut (s : State) (whole : Bool) : State :=
  let r := s.port .controller
  if s.inReset then s
  else
    let t := { s with rqi.lastRead := some ⟨r.statusByte, r.response⟩ }
    if whole then t.setPort .controller { r with response := none } else t

end Sys2Proof.Machine
end

