-- ==== Sys2Proof/Machine/LinkCommands.lean ====
section
/-! DEFINITION. The meaning of each field-link event (chapters 5 and 12). -/

namespace Sys2Proof.Machine

/-- An event of the blocks: taken only while the part is neither held in reset nor HALTED (R162, R166), the records it reads
verified first (R156), and followed by the arbiter's picks (R94). -/
def State.event (s : State) (reads : RecordId → Bool) (f : State → State) : State :=
  if s.live then
    let t := s.verifyReads reads
    (if t.svu.halted then t else f t).arbitrate
  else s

/-- An inbound frame is taken as coming from the configured switch its address belongs to; discarded, with nothing changed, when
there is none (R4, R83). The switch entries are read first to find the owner, then what the frame's own rule reads (R156). -/
def State.fromUnit (s : State) (address : Byte) (f : State → SwitchNo → State) : State :=
  if s.live then
    let t := s.verifyReads isSwitch
    match (if t.svu.halted then none else t.ownerOf address) with
    | none => if s.svu.badCodes.any isSwitch then t.arbitrate else t
    | some k =>
      let u := t.verifyReads linkReads
      (if u.svu.halted || !u.configured k then u else f u k).arbitrate
  else s

/-- ANSWER_FRAME (R84, R85, R98). -/
def execAnswerFrame (address : Byte) (accepted : Bool) (reason : Byte) (s : State) : Host.Outcome State Fault Refusal :=
  .next (s.fromUnit address fun t k => t.takeAnswer k accepted reason)

/-- STATE_FRAME (R86, R88, R101, R102). -/
def execStateFrame (address : Byte) (position : Pole) (residual : Option (BitVec 16)) (s : State) :
    Host.Outcome State Fault Refusal :=
  .next (s.fromUnit address fun t k => t.takeState k position residual)

/-- TRIP_FRAME (R87). -/
def execTripFrame (address : Byte) (faultClass : FaultClass) (s : State) : Host.Outcome State Fault Refusal :=
  .next (s.fromUnit address fun t k => t.takeTrip k faultClass)

/-- An inbound message taken by the rule for its kind. -/
def State.takeInbound (s : State) (k : SwitchNo) : Inbound → State
  | .answer accepted reason => s.takeAnswer k accepted reason
  | .state position residual => s.takeState k position residual
  | .trip faultClass => s.takeTrip k faultClass

/-- The bytes of a complete inbound frame: discarded unless they pass every test of R83 and R181. -/
def State.receiveBytes (s : State) (bytes : List Byte) : State :=
  match parseInbound bytes with
  | none => s
  | some (address, m) => s.fromUnit address fun t k => t.takeInbound k m

/-- FIELD_BYTE_TIMEOUT (R181): the frame ends there and fails its check, so that it is discarded and changes no record. -/
def execFieldByteTimeout (_bytes : List Byte) (s : State) : Host.Outcome State Fault Refusal := .next s

/-- INBOUND_FRAME_DISCARDED (R83, R181): a frame that fails a test changes no record. -/
def execInboundFrameDiscarded (bytes : List Byte) (s : State) : Host.Outcome State Fault Refusal :=
  .next (s.receiveBytes bytes)

end Sys2Proof.Machine
end

