-- ==== Sys2Proof/Machine/PortCommands.lean ====
section
/-! DEFINITION. The meaning of each port event (chapter 10). -/

namespace Sys2Proof.Machine

/-- REFUSED_FORMAT_FRAME (R170): the frame arrives and is answered REFUSED-FORMAT without being decoded. -/
def execRefusedFormatFrame (port : Port) (bytes : List Byte) (_shapeWrong : Bool) (s : State) :
    Host.Outcome State Fault Refusal :=
  .next (s.frameArrives port (.malformed (heldCode bytes)))

/-- FRAME_DISCARDED (R169): a complete frame met the port HELD or READY-HELD. -/
def execFrameDiscarded (port : Port) (s : State) : Host.Outcome State Fault Refusal :=
  .next (if s.inReset then s else s.markDiscard port)

/-- READ_TRANSACTION (R171). -/
def execReadTransaction (whole : Bool) (s : State) : Host.Outcome State Fault Refusal := .next (s.readOut whole)

/-- RESPONSE_SENT (R172). -/
def execResponseSent (s : State) : Host.Outcome State Fault Refusal := .next s.responseEnds

/-- MAINTENANCE_BYTE_TIMEOUT (R172): the frame ends there, and fails framing for its length. DEDUCED (log entry 43): on a port that is
READY or READY-HELD the frame so ended is held or discarded as a complete one, of which alone R169 and R172 speak there. -/
def execMaintenanceByteTimeout (bytes : List Byte) (s : State) : Host.Outcome State Fault Refusal :=
  .next (s.frameArrives .maintenance (.malformed (heldCode bytes)))

end Sys2Proof.Machine
end

