-- ==== Sys2Proof/Machine/RequestCommands.lean ====
section
/-! DEFINITION. The meaning of each request row: the request arrives as a complete frame that passes framing on a port
(R169), and is taken at once, held or discarded by the port's state. What its owning block does is one definition of its own
in the request files, named in each docstring. -/

namespace Sys2Proof.Machine

/-- READ_ZONE (R18; `State.readZone`). -/
def execReadZone (port : Port) (zone : Nat) (s : State) : Host.Outcome State Fault Refusal :=
  .next (s.requestArrives port (.readZone zone))
/-- READ_SWITCH (R18; `State.readSwitch`). -/
def execReadSwitch (port : Port) (switch : Nat) (s : State) : Host.Outcome State Fault Refusal :=
  .next (s.requestArrives port (.readSwitch switch))
/-- LOAD_ZONES (R10; `State.loadZones`). -/
def execLoadZones (port : Port) (entries : List ZoneLoad) (s : State) : Host.Outcome State Fault Refusal :=
  .next (s.requestArrives port (.loadZones entries))
/-- CONFIGURE_SWITCH (R12; `State.configureSwitch`). -/
def execConfigureSwitch (port : Port) (switch : Nat) (entry : SwitchLoad) (s : State) : Host.Outcome State Fault Refusal :=
  .next (s.requestArrives port (.configureSwitch switch entry))
/-- CONFIGURE_SWITCH_REMOVAL (R13; `State.removeSwitch`). -/
def execConfigureSwitchRemoval (port : Port) (switch : Nat) (s : State) : Host.Outcome State Fault Refusal :=
  .next (s.requestArrives port (.configureSwitchRemoval switch))
/-- ENTER_SERVICE (R15; `State.enterService`). -/
def execEnterService (port : Port) (s : State) : Host.Outcome State Fault Refusal :=
  .next (s.requestArrives port .enterService)
/-- ENTER_COMMISSIONING (R17; `State.enterCommissioning`). -/
def execEnterCommissioning (port : Port) (s : State) : Host.Outcome State Fault Refusal :=
  .next (s.requestArrives port .enterCommissioning)
/-- PLACE_HOLD (R25; `State.placeRequest`). -/
def execPlaceHold (port : Port) (body : PlaceBody) (s : State) : Host.Outcome State Fault Refusal :=
  .next (s.requestArrives port (.placeHold body))
/-- READ_HOLD (R28; `State.readHold`). -/
def execReadHold (port : Port) (handle : HandleField) (s : State) : Host.Outcome State Fault Refusal :=
  .next (s.requestArrives port (.readHold handle))
/-- LIST_HOLDS (R29; `State.listHolds`). -/
def execListHolds (port : Port) (startSlot : Nat) (zone : Option Nat) (origin : Option (Choice Origin))
    (s : State) : Host.Outcome State Fault Refusal :=
  .next (s.requestArrives port (.listHolds startSlot zone origin))
/-- AMEND_HOLD (R33; `State.amendHold`). -/
def execAmendHold (port : Port) (body : AmendBody) (s : State) : Host.Outcome State Fault Refusal :=
  .next (s.requestArrives port (.amendHold body))
/-- RELEASE_HOLD (R34; `State.releaseHold`). -/
def execReleaseHold (port : Port) (body : ReleaseBody) (s : State) : Host.Outcome State Fault Refusal :=
  .next (s.requestArrives port (.releaseHold body))
/-- CHECK_CLOSE (R41; `State.checkClose`). -/
def execCheckClose (port : Port) (switch : Nat) (kind : Choice CloseKind) (s : State) : Host.Outcome State Fault Refusal :=
  .next (s.requestArrives port (.checkClose switch kind))
/-- RESERVE_HOLD (R46; `State.reserveHold`). -/
def execReserveHold (port : Port) (handle : HandleField) (s : State) : Host.Outcome State Fault Refusal :=
  .next (s.requestArrives port (.reserveHold handle))
/-- RESERVE_LEVEL (R47; `State.reserveLevel`). -/
def execReserveLevel (port : Port) (district : Nat) (s : State) : Host.Outcome State Fault Refusal :=
  .next (s.requestArrives port (.reserveLevel district))
/-- OPEN_GROUP_EDIT (R61; `State.openGroupEdit`). -/
def execOpenGroupEdit (port : Port) (group : Choice Level) (s : State) : Host.Outcome State Fault Refusal :=
  .next (s.requestArrives port (.openGroupEdit group))
/-- EDIT_GROUP (R62; `State.editGroup`). -/
def execEditGroup (port : Port) (field : Choice GroupField) (value : GroupValue)
    (s : State) : Host.Outcome State Fault Refusal :=
  .next (s.requestArrives port (.editGroup field value))
/-- COMMIT_GROUP (R64; `State.commitGroup`). -/
def execCommitGroup (port : Port) (s : State) : Host.Outcome State Fault Refusal :=
  .next (s.requestArrives port .commitGroup)
/-- DISCARD_GROUP_EDIT (R57; `State.discardGroupEdit`). -/
def execDiscardGroupEdit (port : Port) (s : State) : Host.Outcome State Fault Refusal :=
  .next (s.requestArrives port .discardGroupEdit)
/-- READ_GROUP (R66; `State.readGroup`). -/
def execReadGroup (port : Port) (group : Choice Level) (withStaging : Bool) (s : State) : Host.Outcome State Fault Refusal :=
  .next (s.requestArrives port (.readGroup group withStaging))
/-- DECLARE_LEVEL (R69; `State.declareLevel`). -/
def execDeclareLevel (port : Port) (district : Nat) (level : Choice Level) (conditional : Bool)
    (s : State) : Host.Outcome State Fault Refusal :=
  .next (s.requestArrives port (.declareLevel district level conditional))
/-- SET_SEASON (R70; `State.setSeason`). -/
def execSetSeason (port : Port) (season : Choice Season) (s : State) : Host.Outcome State Fault Refusal :=
  .next (s.requestArrives port (.setSeason season))
/-- READ_LEVELS (R72; `State.readLevels`). -/
def execReadLevels (port : Port) (s : State) : Host.Outcome State Fault Refusal :=
  .next (s.requestArrives port .readLevels)
/-- OPERATE_SWITCH (R91; `State.operateSwitch`). -/
def execOperateSwitch (port : Port) (switch : Nat) (action : Choice SwitchAction)
    (s : State) : Host.Outcome State Fault Refusal :=
  .next (s.requestArrives port (.operateSwitch switch action))
/-- CLEAR_SWITCH_FAILURE (R93; `State.clearFailure`). -/
def execClearSwitchFailure (port : Port) (switch : Nat) (s : State) : Host.Outcome State Fault Refusal :=
  .next (s.requestArrives port (.clearSwitchFailure switch))
/-- RETRY_PROFILE (R99; `State.retryProfile`). -/
def execRetryProfile (port : Port) (switch : Nat) (s : State) : Host.Outcome State Fault Refusal :=
  .next (s.requestArrives port (.retryProfile switch))
/-- SET_LINK_SETTINGS (R103; `State.setLinkSettings`). -/
def execSetLinkSettings (port : Port) (fields : LinkFields) (s : State) : Host.Outcome State Fault Refusal :=
  .next (s.requestArrives port (.setLinkSettings fields))
/-- SET_HUNT_PARAMETERS (R127; `State.setHuntParameters`). -/
def execSetHuntParameters (port : Port) (fields : HuntFields) (s : State) : Host.Outcome State Fault Refusal :=
  .next (s.requestArrives port (.setHuntParameters fields))
/-- START_HUNT (R130; `State.startHunt`). -/
def execStartHunt (port : Port) (essential : Option (Choice Bool)) (s : State) : Host.Outcome State Fault Refusal :=
  .next (s.requestArrives port (.startHunt essential))
/-- READ_HUNT (R136; `State.readHunt`). -/
def execReadHunt (port : Port) (s : State) : Host.Outcome State Fault Refusal :=
  .next (s.requestArrives port .readHunt)
/-- RESUME_HUNT (R149; `State.resumeHunt`). -/
def execResumeHunt (port : Port) (s : State) : Host.Outcome State Fault Refusal :=
  .next (s.requestArrives port .resumeHunt)
/-- ABANDON_HUNT (R150; `State.abandonHunt`). -/
def execAbandonHunt (port : Port) (s : State) : Host.Outcome State Fault Refusal :=
  .next (s.requestArrives port .abandonHunt)
/-- CLOSE_HUNT_CASE (R154; `State.closeHuntCase`). -/
def execCloseHuntCase (port : Port) (s : State) : Host.Outcome State Fault Refusal :=
  .next (s.requestArrives port .closeHuntCase)
/-- SET_TIME (R165; `State.setTime`). -/
def execSetTime (port : Port) (minute : Nat) (s : State) : Host.Outcome State Fault Refusal :=
  .next (s.requestArrives port (.setTime minute))
/-- READ_TIME (R165; `State.readTime`). -/
def execReadTime (port : Port) (s : State) : Host.Outcome State Fault Refusal :=
  .next (s.requestArrives port .readTime)
/-- READ_START_CAUSE (R168; `State.readStartCause`). -/
def execReadStartCause (port : Port) (clear : Choice Bool) (s : State) : Host.Outcome State Fault Refusal :=
  .next (s.requestArrives port (.readStartCause clear))
/-- READ_STATUS (R179; `State.readStatus`). -/
def execReadStatus (port : Port) (s : State) : Host.Outcome State Fault Refusal :=
  .next (s.requestArrives port .readStatus)
/-- READ_NOTICES (R177; `State.readNotices`). -/
def execReadNotices (port : Port) (s : State) : Host.Outcome State Fault Refusal :=
  .next (s.requestArrives port .readNotices)
/-- CLEAR_NOTICES (R177; `State.clearNotices`). -/
def execClearNotices (port : Port) (names : List (Choice Notice)) (mask : Option (List (Choice Notice)))
    (s : State) : Host.Outcome State Fault Refusal :=
  .next (s.requestArrives port (.clearNotices names mask))
/-- IDENTIFY (R180; `State.identify`). -/
def execIdentify (port : Port) (s : State) : Host.Outcome State Fault Refusal :=
  .next (s.requestArrives port .identify)

end Sys2Proof.Machine
end

