-- ==== Sys2Proof/Machine/SupervisionCommands.lean ====
section
/-! DEFINITION. The meaning of each event of the supervision unit and of the discrete lines (chapters 4 and 9). -/

namespace Sys2Proof.Machine

/-- SCAN_PASS (R157): one pass over every retained record; the next begins 60 s later. -/
def State.scan (s : State) (failed : List RecordId) : State :=
  if s.live then
    let t := State.verify { s.corrupt failed with svu.scanTimer := .start Svu.scanPeriod } (fun _ => true)
    t.arbitrate
  else s

def execScanPass (failed : List RecordId) (s : State) : Host.Outcome State Fault Refusal := .next (s.scan failed)

/-- A minute begins at the next second counted, the time state being GOOD: an expiry event that is taken (R37, R163). -/
def State.minuteExpires (s : State) : Bool := s.svu.second == 59 && s.svu.timeState == .good

/-- A pulse makes the time state GOOD, and the owed expiries are taken (R38, R164). -/
def State.pulseMakesGood (s : State) (gap : Option Nat) : Bool :=
  runAfter s.svu.source s.svu.pulseRun gap == 3 && s.svu.pulseRun != 3 && s.svu.timeSet && s.svu.timeState != .good

/-- The records an event of the time base reads: the minute count where it advances, and what the expiries read where the event has
holds expire. -/
def State.secondReads (s : State) (expires : Bool) (r : RecordId) : Bool :=
  (s.svu.second == 59 && r == .minuteCount) || (expires && expiryReads r)

/-- A second counted or a pulse taken: the time base works in HALTED too, where nothing is read (R162); what it reads is verified
first (R156). -/
def State.timeEvent (s : State) (expires : Bool) (f : State → State) : State :=
  if s.inReset then s
  else
    let t := if s.svu.halted then s else s.verifyReads (s.secondReads expires)
    (f t).arbitrate

/-- TREF_PULSE (R163, R164): a pulse less than 0.9 s after the last counted one is ignored. -/
def execTrefPulse (gap : Option Nat) (s : State) : Host.Outcome State Fault Refusal :=
  .next (if gap.any (· < 900) then s else s.timeEvent (s.minuteExpires || s.pulseMakesGood gap) (·.countPulse gap))

/-- TREF_LOSS (R163, R164); it arises while the pulses count. A GOOD time state is DEGRADED before its second is counted, so that the
minute it may begin expires nothing (log entry 21). -/
def execTrefLoss (s : State) : Host.Outcome State Fault Refusal :=
  .next (if s.svu.source = .tref then s.timeEvent false State.losePulses else s)

/-- OSCILLATOR_SECOND (R163); it arises while the oscillator counts. -/
def execOscillatorSecond (s : State) : Host.Outcome State Fault Refusal :=
  .next (if s.svu.source = .oscillator then s.timeEvent s.minuteExpires State.countSecond else s)

/-- TFB_EDGE (R71): the line changes; the FSU takes the edge while the blocks work. -/
def State.tfbChanges (s : State) (asserted : Bool) : State :=
  if s.lines.tfb = asserted then s
  else State.event { s with lines.tfb := asserted } linkReads fun t => State.applyLevels { t with fsu.tfb := asserted }

def execTfbEdge (asserted : Bool) (s : State) : Host.Outcome State Fault Refusal := .next (s.tfbChanges asserted)

/-- LKEY_CHANGE (R54): no record changes. -/
def execLkeyChange (asserted : Bool) (s : State) : Host.Outcome State Fault Refusal :=
  .next { s with lines.lkey := asserted }

/-- RESET_ASSERT (R166); a write it interrupts leaves a code that does not match (R156). -/
def execResetAssert (interrupted : List RecordId) (s : State) : Host.Outcome State Fault Refusal :=
  .next (if s.lines.reset then s else { s.enterReset.corrupt interrupted with lines.reset := true })

/-- RESET_RELEASE (R166, R167). -/
def execResetRelease (s : State) : Host.Outcome State Fault Refusal :=
  .next (if s.lines.reset then (State.startIfReleased { s with lines.reset := false }).arbitrate else s)

/-- SUPPLY_FALL (R166). -/
def execSupplyFall (interrupted : List RecordId) (s : State) : Host.Outcome State Fault Refusal :=
  .next (if s.lines.supplyLow then s
    else { s.enterReset.corrupt interrupted with lines.supplyLow := true, lines.fell := true })

/-- SUPPLY_RECOVERY (R166, R167): only after a fall. -/
def execSupplyRecovery (s : State) : Host.Outcome State Fault Refusal :=
  .next (if s.lines.supplyLow then (State.startIfReleased { s with lines.supplyLow := false }).arbitrate else s)

/-- POWER_UP (R166, R167): the volatile state is lost, and the start is of the supply, cold without the validity marker. While
RESET is asserted the part stays held. -/
def execPowerUp (markerAbsent : Bool) (failed : List RecordId) (s : State) : Host.Outcome State Fault Refusal :=
  .next
    (State.arbitrate (State.startIfReleased
      { s.volatileStart.corrupt failed with
        lines.supplyLow := false, lines.fell := true, svu.validity := !markerAbsent }))

end Sys2Proof.Machine
end

