-- ==== Sys2Proof/Machine/TimerCommands.lean ====
section
/-! DEFINITION. The meaning of each timer expiry. A timer that is stopped does not expire (00 0.5): the command then changes
nothing. The time left plays no part: the command is the expiry (log entry 7). -/

namespace Sys2Proof.Machine

/-- The expiry of a timer of the blocks, when it runs. A fault among the records it reads may stop the timer, or take away what it was
running for: the block goes on with the records as that action left them (R156), and finds nothing that expires. -/
def State.expiry (s : State) (timer : State → Timer) (reads : RecordId → Bool) (f : State → State) : State :=
  if (timer s).isRunning then s.event reads fun t => if (timer t).isRunning then f t else t else s

/-- ANSWER_TIMER_EXPIRY (R84, R85, R98, R101). -/
def State.answerExpired (s : State) : State :=
  match s.sou.awaited with
  | some a => s.noReply a
  | none => s.freeLink

def execAnswerTimerExpiry (s : State) : Host.Outcome State Fault Refusal :=
  .next (s.expiry (·.sou.answerTimer) linkReads State.answerExpired)

/-- MECHANISM_TIMER_EXPIRY (R86). -/
def execMechanismTimerExpiry (switch : SwitchNo) (s : State) : Host.Outcome State Fault Refusal :=
  .next (s.expiry (fun t => (t.runtime switch).mechanism) linkReads (·.noMove switch))

/-- The switches a routine expiry polls (R100). -/
def State.routinePolls (s : State) (k : SwitchNo) : Bool :=
  s.inService k && (s.runtime k).condition != .failed && (s.runtime k).pollWanted.isNone

/-- ROUTINE_TIMER_EXPIRY (R100). -/
def State.routineExpired (s : State) : State :=
  let t := (allSwitches.filter s.routinePolls).foldl (fun u k => u.wantPoll k .routine) s
  { t with sou.routineTimer := .start (10 * s.sou.link.pollInterval) }

def execRoutineTimerExpiry (s : State) : Host.Outcome State Fault Refusal :=
  .next (s.expiry (·.sou.routineTimer) pollReads State.routineExpired)

/-- HEAD_TIMER_EXPIRY (R100). -/
def State.headExpired (s : State) : State :=
  let t := if (s.runtime 0).condition = .failed then s else s.wantPoll 0 .head
  { t with sou.headTimer := .start (10 * s.sou.link.headInterval) }

def execHeadTimerExpiry (s : State) : Host.Outcome State Fault Refusal :=
  .next (s.expiry (·.sou.headTimer) pollReads State.headExpired)

/-- DEAD_TIME_EXPIRY (R110, R111). -/
def execDeadTimeExpiry (switch : SwitchNo) (s : State) : Host.Outcome State Fault Refusal :=
  .next (s.expiry (fun t => (t.seq switch).deadTimer) linkReads (·.deadTimeExpired switch))

/-- RECLAIM_EXPIRY (R113). -/
def State.reclaimExpired (s : State) (k : SwitchNo) : State :=
  match (s.seq k).state with
  | .reclaim _ => s.settleSeq k .closed
  | _ => s

def execReclaimExpiry (switch : SwitchNo) (s : State) : Host.Outcome State Fault Refusal :=
  .next (s.expiry (fun t => (t.seq switch).reclaimTimer) linkReads (·.reclaimExpired switch))

/-- CONFIRM_TIMER_EXPIRY (R125). -/
def State.confirmExpired (s : State) : State :=
  let t := { s with ehu.watch.confirmTimer := .stopped, ehu.watch.confirmed := true }
  if s.ehu.params.autoStart then t.attemptStart else t.notify .hunt

def execConfirmTimerExpiry (s : State) : Host.Outcome State Fault Refusal :=
  .next (s.expiry (·.ehu.watch.confirmTimer) linkReads State.confirmExpired)

/-- LISTEN_WINDOW_EXPIRY (R134). -/
def State.listenExpired (s : State) : State :=
  let t := { s with ehu.huntCase.listen := .stopped }
  if s.ehu.huntCase.clearedInWindow || !s.ehu.watch.episode then t.concludeSelfCleared else t.choose

def execListenWindowExpiry (s : State) : Host.Outcome State Fault Refusal :=
  .next (s.expiry (·.ehu.huntCase.listen) linkReads State.listenExpired)

/-- SETTLE_TIMER_EXPIRY (R141). DEDUCED (log entry 44): the HUNT poll of switch 0 is wanted also where an integrity restore has left
switch 0 unconfigured during the step; it is never sent, and READ SWITCH returns start values there (R18). -/
def State.settleExpired (s : State) : State :=
  let t := { s with ehu.settleTimer := .stopped }
  match s.ehu.huntCase.step with
  | some ⟨k, .settling, o⟩ =>
    State.wantPoll
      { t with
        ehu.huntCase.step := some ⟨k, .observing, o⟩
        ehu.observeTimer := .start (10 * s.ehu.params.observe) }
      0 .hunt
  | _ => t

def execSettleTimerExpiry (s : State) : Host.Outcome State Fault Refusal :=
  .next (s.expiry (·.ehu.settleTimer) linkReads State.settleExpired)

/-- OBSERVE_TIMER_EXPIRY (R142, R143). -/
def State.observeExpired (s : State) : State :=
  let t := { s with ehu.observeTimer := .stopped }
  match s.ehu.huntCase.step with
  | some ⟨k, .observing, _⟩ => t.applyOutcome k (outcomeOf s.ehu.disturbed s.ehu.deciding)
  | _ => t

def execObserveTimerExpiry (s : State) : Host.Outcome State Fault Refusal :=
  .next (s.expiry (·.ehu.observeTimer) linkReads State.observeExpired)

end Sys2Proof.Machine
end

