-- ==== Sys2Proof/Machine/Dispatch.lean ====
section
/-! DEFINITION. One arm per command, each one call of its meaning. -/

namespace Sys2Proof.Machine

def exec (i : Instr) (s : State) : Host.Outcome State Fault Refusal :=
  match i with
  | .readZone port zone => Sys2Proof.Machine.execReadZone port zone s
  | .readSwitch port switch => Sys2Proof.Machine.execReadSwitch port switch s
  | .loadZones port entries => Sys2Proof.Machine.execLoadZones port entries s
  | .configureSwitch port switch entry => Sys2Proof.Machine.execConfigureSwitch port switch entry s
  | .configureSwitchRemoval port switch => Sys2Proof.Machine.execConfigureSwitchRemoval port switch s
  | .enterService port => Sys2Proof.Machine.execEnterService port s
  | .enterCommissioning port => Sys2Proof.Machine.execEnterCommissioning port s
  | .placeHold port body => Sys2Proof.Machine.execPlaceHold port body s
  | .readHold port handle => Sys2Proof.Machine.execReadHold port handle s
  | .listHolds port startSlot zone origin => Sys2Proof.Machine.execListHolds port startSlot zone origin s
  | .amendHold port body => Sys2Proof.Machine.execAmendHold port body s
  | .releaseHold port body => Sys2Proof.Machine.execReleaseHold port body s
  | .checkClose port switch kind => Sys2Proof.Machine.execCheckClose port switch kind s
  | .reserveHold port handle => Sys2Proof.Machine.execReserveHold port handle s
  | .reserveLevel port district => Sys2Proof.Machine.execReserveLevel port district s
  | .openGroupEdit port group => Sys2Proof.Machine.execOpenGroupEdit port group s
  | .editGroup port field value => Sys2Proof.Machine.execEditGroup port field value s
  | .commitGroup port => Sys2Proof.Machine.execCommitGroup port s
  | .discardGroupEdit port => Sys2Proof.Machine.execDiscardGroupEdit port s
  | .readGroup port group withStaging => Sys2Proof.Machine.execReadGroup port group withStaging s
  | .declareLevel port district level conditional => Sys2Proof.Machine.execDeclareLevel port district level conditional s
  | .setSeason port season => Sys2Proof.Machine.execSetSeason port season s
  | .readLevels port => Sys2Proof.Machine.execReadLevels port s
  | .operateSwitch port switch action => Sys2Proof.Machine.execOperateSwitch port switch action s
  | .clearSwitchFailure port switch => Sys2Proof.Machine.execClearSwitchFailure port switch s
  | .retryProfile port switch => Sys2Proof.Machine.execRetryProfile port switch s
  | .setLinkSettings port fields => Sys2Proof.Machine.execSetLinkSettings port fields s
  | .setHuntParameters port fields => Sys2Proof.Machine.execSetHuntParameters port fields s
  | .startHunt port essential => Sys2Proof.Machine.execStartHunt port essential s
  | .readHunt port => Sys2Proof.Machine.execReadHunt port s
  | .resumeHunt port => Sys2Proof.Machine.execResumeHunt port s
  | .abandonHunt port => Sys2Proof.Machine.execAbandonHunt port s
  | .closeHuntCase port => Sys2Proof.Machine.execCloseHuntCase port s
  | .setTime port minute => Sys2Proof.Machine.execSetTime port minute s
  | .readTime port => Sys2Proof.Machine.execReadTime port s
  | .readStartCause port clear => Sys2Proof.Machine.execReadStartCause port clear s
  | .readStatus port => Sys2Proof.Machine.execReadStatus port s
  | .readNotices port => Sys2Proof.Machine.execReadNotices port s
  | .clearNotices port names mask => Sys2Proof.Machine.execClearNotices port names mask s
  | .identify port => Sys2Proof.Machine.execIdentify port s
  | .refusedFormatFrame port bytes shapeWrong => Sys2Proof.Machine.execRefusedFormatFrame port bytes shapeWrong s
  | .frameDiscarded port => Sys2Proof.Machine.execFrameDiscarded port s
  | .readTransaction whole => Sys2Proof.Machine.execReadTransaction whole s
  | .responseSent => Sys2Proof.Machine.execResponseSent s
  | .maintenanceByteTimeout bytes => Sys2Proof.Machine.execMaintenanceByteTimeout bytes s
  | .answerFrame address accepted reason => Sys2Proof.Machine.execAnswerFrame address accepted reason s
  | .stateFrame address position residual => Sys2Proof.Machine.execStateFrame address position residual s
  | .tripFrame address faultClass => Sys2Proof.Machine.execTripFrame address faultClass s
  | .fieldByteTimeout bytes => Sys2Proof.Machine.execFieldByteTimeout bytes s
  | .answerTimerExpiry => Sys2Proof.Machine.execAnswerTimerExpiry s
  | .mechanismTimerExpiry switch => Sys2Proof.Machine.execMechanismTimerExpiry switch s
  | .routineTimerExpiry => Sys2Proof.Machine.execRoutineTimerExpiry s
  | .headTimerExpiry => Sys2Proof.Machine.execHeadTimerExpiry s
  | .deadTimeExpiry switch => Sys2Proof.Machine.execDeadTimeExpiry switch s
  | .reclaimExpiry switch => Sys2Proof.Machine.execReclaimExpiry switch s
  | .confirmTimerExpiry => Sys2Proof.Machine.execConfirmTimerExpiry s
  | .listenWindowExpiry => Sys2Proof.Machine.execListenWindowExpiry s
  | .settleTimerExpiry => Sys2Proof.Machine.execSettleTimerExpiry s
  | .observeTimerExpiry => Sys2Proof.Machine.execObserveTimerExpiry s
  | .scanPass failed => Sys2Proof.Machine.execScanPass failed s
  | .trefPulse gap => Sys2Proof.Machine.execTrefPulse gap s
  | .trefLoss => Sys2Proof.Machine.execTrefLoss s
  | .oscillatorSecond => Sys2Proof.Machine.execOscillatorSecond s
  | .tfbEdge asserted => Sys2Proof.Machine.execTfbEdge asserted s
  | .lkeyChange asserted => Sys2Proof.Machine.execLkeyChange asserted s
  | .resetAssert interrupted => Sys2Proof.Machine.execResetAssert interrupted s
  | .resetRelease => Sys2Proof.Machine.execResetRelease s
  | .supplyFall interrupted => Sys2Proof.Machine.execSupplyFall interrupted s
  | .supplyRecovery => Sys2Proof.Machine.execSupplyRecovery s
  | .powerUp markerAbsent failed => Sys2Proof.Machine.execPowerUp markerAbsent failed s
  | .inboundFrameDiscarded bytes => Sys2Proof.Machine.execInboundFrameDiscarded bytes s

end Sys2Proof.Machine
end

