-- ==== Sys2Proof/Machine/Tick.lean ====
section
/-! DEFINITION. What passes when no command waits: 0.1 s for every timer that runs (log entry 6). A timer never expires by
itself: its expiry is a command (log entry 7). -/

namespace Sys2Proof.Machine

/-- 0.1 s passes for every second-scale timer. -/
def State.tickTimers (s : State) : State :=
  { s with
    sou.runtime := Vector.ofFn fun k => { s.sou.runtime[k] with mechanism := s.sou.runtime[k].mechanism.tick }
    sou.answerTimer := s.sou.answerTimer.tick
    sou.routineTimer := s.sou.routineTimer.tick
    sou.headTimer := s.sou.headTimer.tick
    rcs.seqs := Vector.ofFn fun k =>
      { s.rcs.seqs[k] with deadTimer := s.rcs.seqs[k].deadTimer.tick, reclaimTimer := s.rcs.seqs[k].reclaimTimer.tick }
    ehu.watch.confirmTimer := s.ehu.watch.confirmTimer.tick
    ehu.huntCase.listen := s.ehu.huntCase.listen.tick
    ehu.settleTimer := s.ehu.settleTimer.tick
    ehu.observeTimer := s.ehu.observeTimer.tick
    svu.scanTimer := s.svu.scanTimer.tick }

/-- The part idles: time passes while its blocks work. -/
def State.idle (s : State) : State := if s.live then s.tickTimers else s

end Sys2Proof.Machine
end

