-- ==== Sys2Proof/Safety.lean ====
section
/-! DEFINITION. The words the statements are made of: when a port takes a request at once, what a response leaves on its port,
when the blocks take an event, and the invariants the rules give the records. -/

namespace Sys2Proof.Machine

/-! ## Ports -/

/-- The port takes a request frame at once (R169, R171, R172): the part is not held in reset, no frame is held, and on the
maintenance port no response is being sent. -/
def State.portOpen (s : State) (p : Port) : Prop :=
  s.inReset = false ∧ (s.port p).request = none ∧ (p = .maintenance → (s.port p).response = none)

/-- The port takes a request at once, the part is not HALTED, and every retained record matches its check code, so that the
owning block judges the request (R173). -/
def State.ready (s : State) (p : Port) : Prop := s.portOpen p ∧ s.svu.halted = false ∧ s.svu.badCodes = []

/-- The state in which a request is taken: an unread response on its port is lost (R171). -/
def State.taking (s : State) (p : Port) : State := s.setPort p { s.port p with response := none }

/-- The response built on a port (R173): the request code echoed, the completion code, the discard mark as it stood, which is then
cleared, the notice-waiting flag, and the data. -/
def PortRecord.answered (r : PortRecord) (request : Byte) (code : Code) (data : ResponseData) : PortRecord :=
  { r with
    request := none
    response := some
      { request := request, code := code, discardMark := r.discardMark, noticeWaiting := r.notices.waiting r.mask
        data := data }
    discardMark := false }

/-- The state with a response built on a port, and nothing else changed. -/
def State.answer (s : State) (p : Port) (request : Byte) (code : Code) (data : ResponseData) : State :=
  s.setPort p ((s.port p).answered request code data)

/-- The request a command carries, and its port; none for the events. -/
def asRequest : Instr → Option (Port × Request)
  | .readZone p z => some (p, .readZone z)
  | .readSwitch p k => some (p, .readSwitch k)
  | .loadZones p l => some (p, .loadZones l)
  | .configureSwitch p k e => some (p, .configureSwitch k e)
  | .configureSwitchRemoval p k => some (p, .configureSwitchRemoval k)
  | .enterService p => some (p, .enterService)
  | .enterCommissioning p => some (p, .enterCommissioning)
  | .placeHold p b => some (p, .placeHold b)
  | .readHold p f => some (p, .readHold f)
  | .listHolds p i z o => some (p, .listHolds i z o)
  | .amendHold p b => some (p, .amendHold b)
  | .releaseHold p b => some (p, .releaseHold b)
  | .checkClose p k c => some (p, .checkClose k c)
  | .reserveHold p f => some (p, .reserveHold f)
  | .reserveLevel p d => some (p, .reserveLevel d)
  | .openGroupEdit p g => some (p, .openGroupEdit g)
  | .editGroup p f v => some (p, .editGroup f v)
  | .commitGroup p => some (p, .commitGroup)
  | .discardGroupEdit p => some (p, .discardGroupEdit)
  | .readGroup p g w => some (p, .readGroup g w)
  | .declareLevel p d l c => some (p, .declareLevel d l c)
  | .setSeason p f => some (p, .setSeason f)
  | .readLevels p => some (p, .readLevels)
  | .operateSwitch p k a => some (p, .operateSwitch k a)
  | .clearSwitchFailure p k => some (p, .clearSwitchFailure k)
  | .retryProfile p k => some (p, .retryProfile k)
  | .setLinkSettings p f => some (p, .setLinkSettings f)
  | .setHuntParameters p f => some (p, .setHuntParameters f)
  | .startHunt p e => some (p, .startHunt e)
  | .readHunt p => some (p, .readHunt)
  | .resumeHunt p => some (p, .resumeHunt)
  | .abandonHunt p => some (p, .abandonHunt)
  | .closeHuntCase p => some (p, .closeHuntCase)
  | .setTime p m => some (p, .setTime m)
  | .readTime p => some (p, .readTime)
  | .readStartCause p c => some (p, .readStartCause c)
  | .readStatus p => some (p, .readStatus)
  | .readNotices p => some (p, .readNotices)
  | .clearNotices p n m => some (p, .clearNotices n m)
  | .identify p => some (p, .identify)
  | _ => none

/-! ## Events -/

/-- The blocks take an event: neither held in reset nor HALTED, and every retained record matches its check code. -/
def State.working (s : State) : Prop := s.inReset = false ∧ s.svu.halted = false ∧ s.svu.badCodes = []

/-- The events of the discrete lines and of the supply: taken while the part is held in reset too (R166). -/
def isLineEvent : Instr → Bool
  | .tfbEdge _ | .lkeyChange _ | .resetAssert _ | .resetRelease | .supplyFall _ | .supplyRecovery | .powerUp _ _ => true
  | _ => false

/-- The events of the field link, the timers and the scan: not taken while the part is HALTED (R162). -/
def isBlockEvent : Instr → Bool
  | .answerFrame _ _ _ | .stateFrame _ _ _ | .tripFrame _ _ | .fieldByteTimeout _ | .inboundFrameDiscarded _
  | .answerTimerExpiry | .mechanismTimerExpiry _ | .routineTimerExpiry | .headTimerExpiry | .deadTimeExpiry _
  | .reclaimExpiry _ | .confirmTimerExpiry | .listenWindowExpiry | .settleTimerExpiry | .observeTimerExpiry
  | .scanPass _ => true
  | _ => false

/-- A notice stands in both ports' sets (R176). -/
def State.noticed (s : State) (n : Notice) : Prop :=
  s.rqi.controller.notices.has n = true ∧ s.rqi.maintenance.notices.has n = true

/-- The blocks whose records a port request of class A leaves alone stand as before (R174). -/
def State.sameBlocks (s t : State) : Prop :=
  t.fmu = s.fmu ∧ t.htu = s.htu ∧ t.fsu = s.fsu ∧ t.sou = s.sou ∧ t.rcs = s.rcs ∧ t.ehu = s.ehu

/-! ## Invariants -/

/-- R63: shots and residual pickup do not rise from NORMAL to BAN, and BAN allows no shot. -/
def Groups.monotone (g : Groups) : Prop :=
  g.elevated.shots ≤ g.normal.shots ∧ g.severe.shots ≤ g.elevated.shots ∧ g.ban.shots ≤ g.severe.shots
    ∧ g.elevated.pickup ≤ g.normal.pickup ∧ g.severe.pickup ≤ g.elevated.pickup ∧ g.ban.pickup ≤ g.severe.pickup
    ∧ g.ban.shots = 0

/-- R58, R63: the four groups stand monotone. -/
def State.groupsOrdered (s : State) : Prop := s.fsu.groups.monotone

/-- R68: BAN while TFB is asserted, otherwise the declared level in season and NORMAL out of it. -/
def levelGiven (season : Season) (tfb : Bool) (declared : Level) : Level :=
  match tfb, season with
  | true, _ => .ban
  | false, .inSeason => declared
  | false, .outOfSeason => .normal

/-- R68: no effective level disagrees with its inputs. -/
def State.levelsAgree (s : State) : Prop :=
  ∀ d : DistrictNo, (s.district d).effective = levelGiven s.fsu.season s.fsu.tfb (s.district d).declared

/-- The number of live holds of an origin. -/
def State.liveOf (s : State) (o : Origin) : Nat := (allSlots.filter fun i => (s.holdAt i).any (·.origin == o)).length

/-- R19, R42: the count kept for each origin is the number of live holds of it. -/
def State.countsTrue (s : State) : Prop := ∀ o : Origin, s.htu.counts.get o = s.liveOf o

/-- R23: the counts are true and at most 48 holds of port origin are live. -/
def State.portShareKept (s : State) : Prop :=
  s.countsTrue ∧ s.liveOf .controller + s.liveOf .maintenance ≤ Config.portHolds

/-- R132, R139, R74: a step is under way exactly in STEPPING, the listen window runs in LOCATING alone, and no district below BAN keeps
a FIRE handle. -/
def State.settled (s : State) : Prop :=
  (s.ehu.huntCase.step.isSome = true ↔ s.ehu.huntCase.state = .stepping)
    ∧ (s.ehu.huntCase.listen ≠ .stopped → s.ehu.huntCase.state = .locating)
    ∧ ∀ d : DistrictNo, (s.district d).effective ≠ .ban → (s.district d).fire = none

/-- R67, R74: each FIRE handle that a district keeps names a live FIRE hold whose cause is that district. -/
def State.fireHandlesLive (s : State) : Prop :=
  ∀ (d : DistrictNo) (h : Handle), (s.district d).fire = some h →
    ∃ r, s.liveHold h = some r ∧ r.origin = .fire ∧ r.cause = some (.district d)

/-- R106: the number of running sequences the EHU was last told is their number. -/
def State.runningCounted (s : State) : Prop := s.ehu.runningCount = s.runningSequences

/-! ## FIRE holds (R74, R75, R78) -/

/-- At least `n` slots are empty. R23 leaves as many as the device share has left. -/
def State.emptySlots (s : State) (n : Nat) : Prop := n ≤ (allSlots.filter fun i => (s.holdAt i).isNone).length

/-- The FIRE hold of a district over its present zones, as R27's table gives it. -/
def State.fireHoldFor (s : State) (d : DistrictNo) : Hold :=
  { kind := .noReclose, strength := .plain, origin := .fire, scope := s.districtZones d, tag := none, expiry := none, reason := 0
    cause := some (.district d), placed := s.svu.minute, version := 0 }

/-- The district has its FIRE hold over its present zones, placed in this taking. -/
def State.fireHoldPlaced (s t : State) (d : DistrictNo) : Prop :=
  ∃ h, (t.district d).fire = some h ∧ t.liveHold h = some (s.fireHoldFor d) ∧ t.noticed .hold

/-- The district keeps the FIRE hold it had, in its slot and as it was. -/
def State.fireHoldKept (s t : State) (d : DistrictNo) (h : Handle) : Prop :=
  (t.district d).fire = some h ∧ t.slot h.slot = s.slot h.slot

/-- The district keeps no handle, and the hold it named has departed. -/
def State.fireHoldRetired (s t : State) (d : DistrictNo) : Prop :=
  (t.district d).fire = none ∧ ∀ h, (s.district d).fire = some h → t.liveHold h = none ∧ t.noticed .hold

/-- Every hold that no district's handle names stands. -/
def State.otherHoldsStand (s t : State) : Prop :=
  ∀ i : SlotNo, (s.holdAt i).isSome = true → (∀ d : DistrictNo, (s.district d).fire ≠ some (s.handleAt i)) → t.slot i = s.slot i

/-- R74 between the state before a change of levels and the state after: a district that went to BAN with a present zone and no handle
has its FIRE hold, one whose level went elsewhere has lost its handle and its hold, and every hold that no district's handle names
stands. -/
def State.fireHoldsFollow (s t : State) : Prop :=
  (∀ d : DistrictNo, (t.district d).effective ≠ (s.district d).effective →
    ((t.district d).effective = .ban → s.districtZones d ≠ 0 → (s.district d).fire = none →
      s.fireHoldPlaced t d) ∧
    (∀ h, (t.district d).effective ≠ .ban → (s.district d).fire = some h → (s.liveHold h).isSome = true →
      (t.district d).fire = none ∧ t.liveHold h = none ∧ t.noticed .hold)) ∧
  s.otherHoldsStand t

/-! ## Sequences (chapter 6) -/

/-- A sequence record that has left its state for OPEN, CLOSED or UNCERTAIN, shots used 0 (R105, R107). -/
def Sequence.settled (q : Sequence) (st : SeqState) : Sequence :=
  { q with
    state := st, shotsUsed := 0, deadTimer := .stopped, reclaimTimer := .stopped, tripClass := none, cancel := false, note := none
    marker := none }

/-- A sequence record that has entered RECLAIM(n) with a fresh reclaim time, in seconds (R112). -/
def Sequence.reclaiming (q : Sequence) (n time : Nat) : Sequence :=
  { q with
    state := .reclaim n, shotsUsed := n, deadTimer := .stopped, reclaimTimer := .running (10 * time) (10 * time), tripClass := none
    cancel := false, note := none, marker := none }

/-- A sequence record that has entered LOCKOUT with its reason at a minute (R108). -/
def Sequence.lockedOut (q : Sequence) (r : LockoutReason) (m : Minute) : Sequence :=
  { q with
    state := .lockout, deadTimer := .stopped, reclaimTimer := .stopped, tripClass := none, cancel := false, note := none
    marker := none, lastLockout := some ⟨r, m⟩ }

/-- The state a sequence settles in by the position the SOU holds (R115). -/
def stateAt : Position → SeqState
  | .opened => .opened | .closed => .closed | .unknown => .uncertain

/-- What a STATE report makes of a sequence, by the table of R107. -/
def Sequence.reported (q : Sequence) (pole : Pole) (time : Nat) : Sequence :=
  match q.state, pole with
  | .uncertain, .closed | .opened, .closed | .lockout, .closed => q.settled .closed
  | .uncertain, .opened | .closed, .opened | .reclaim _, .opened => q.settled .opened
  | .deadTime n, .closed => q.reclaiming n time
  | _, _ => q

/-- What the end of an operation in flight makes of the sequence of its switch, the position then held being `now`: a reclose ends in
RECLAIM(n) or LOCKOUT (R112), an OPEN settles a cancelled sequence by the position and, DONE, every other one OPEN (R115), a
deliberate CLOSE that is DONE settles it CLOSED (R116). `judged` is the reason of R108's first failed check for the trip that was
noted. An OPEN that ends in RECLOSING(n) with the cancel mark clear leaves the sequence (log entry 42). -/
def Sequence.ended (q : Sequence) (e : OpRequest) (res : OpResult) (now : Position) (time : Nat) (judged : LockoutReason)
    (m : Minute) : Sequence :=
  match e.action, q.state with
  | .toClose, .reclosing n =>
    if e.classes.reclose = false ∨ q.cancel = true then q
    else if res = .done then q.reclaiming n time
    else if res = .noMove ∧ q.note.isSome = true ∧ now = .opened then q.lockedOut judged m
    else q.lockedOut .closeFailed m
  | .toClose, .opened | .toClose, .lockout | .toClose, .uncertain =>
    if e.classes.reclose = false ∧ res = .done then q.settled .closed else q
  | .toOpen, .deadTime _ => q.settled (stateAt now)
  | .toOpen, .reclosing _ => if q.cancel = true then q.settled (stateAt now) else q
  | .toOpen, .closed | .toOpen, .reclaim _ | .toOpen, .uncertain => if res = .done then q.settled .opened else q
  | _, _ => q

/-- R112, R115, R116 between the state before an operation in flight ends and the state after, with the report that ended it where a
STATE did (R107): the sequence of its switch, in the group in force, and no other. A trip noted while the reclose awaited its answer
is judged with n shots made and the switch FAILED (R82, R112; log entry 18). -/
def State.sequenceFollows (s t : State) (k : SwitchNo) (e : OpRequest) (res : OpResult) (now : Position) (report : Option Pole) :
    Prop :=
  (∀ j, j ≠ k → t.seq j = s.seq j) ∧
  ((s.seq k).state = .outOfService → t.seq k = s.seq k) ∧
  ∀ (g : Group) (judged : LockoutReason), s.effectiveGroup k = some g →
    (∀ n c, (s.seq k).state = .reclosing n → (s.seq k).note = some c →
      State.recloseCheck
        (s.setRuntime k { s.runtime k with position := .opened, inFlight := none, mechanism := .stopped, condition := .failed })
        k n c = some judged) →
    let after := (s.seq k).ended e res now g.reclaim judged s.svu.minute
    t.seq k = (match report with | some p => after.reported p g.reclaim | none => after) ∧
    (after.state = .lockout → (s.seq k).state ≠ .lockout → t.noticed .lockout)

/-! ## A change of danger (R73, R79, R97, R114) -/

/-- The profile of each switch picked is compared with the one now required (R97), and no other; of the other fields of the runtime
records the polls wanted alone may change. -/
def State.profilesCompared (s t : State) (picked : SwitchNo → Prop) : Prop :=
  ∀ k,
    t.runtime k = { s.runtime k with
      profileState := (t.runtime k).profileState, pushWanted := (t.runtime k).pushWanted, pollWanted := (t.runtime k).pollWanted } ∧
    (∀ code, picked k → t.requiredProfile k = some code →
      if (s.runtime k).confirmed = some code then
        (t.runtime k).profileState = .confirmed ∧ (t.runtime k).pushWanted = false
      else (t.runtime k).profileState = .pending ∧ (t.runtime k).pushWanted = true) ∧
    (¬ picked k →
      (t.runtime k).profileState = (s.runtime k).profileState ∧ (t.runtime k).pushWanted = (s.runtime k).pushWanted)

/-- The sequences of the switches picked are evaluated again: a dead time of a shot no longer allowed is locked out for LEVEL, and every
other sequence stands (R114). A cancelled sequence is locked out like another (log entry 20). -/
def State.sequencesReevaluated (s t : State) (picked : SwitchNo → Prop) : Prop :=
  ∀ k,
    let owed (n : Nat) (g : Group) : Prop :=
      picked k ∧ (s.seq k).state = .deadTime n ∧ t.effectiveGroup k = some g ∧ g.shots < n
    (∀ n g, owed n g → t.seq k = (s.seq k).lockedOut .level s.svu.minute ∧ t.noticed .lockout) ∧
    ((∀ n g, ¬ owed n g) → t.seq k = s.seq k)

/-- Items 4 and 5 of R73 between the state before a change of levels and the state after: the profiles and the sequences of the
switches whose district's effective level changed. -/
def State.levelChangeFollows (s t : State) : Prop :=
  let changed (k : SwitchNo) : Prop := ∃ d, s.districtOf k = some d ∧ (t.district d).effective ≠ (s.district d).effective
  s.profilesCompared t changed ∧ s.sequencesReevaluated t changed

/-! ## The hunt's operations (R140, R144, R145) -/

/-- R145 between the state before a step ends and the state after: the steps taken, the inconclusive count and the no-retest set, and
what becomes of the case, by the pending abandonment first, then the step's own course, the outcome FAILED and the pending cause. A
suspension for TRIP with no sequence running is left at once (R147). -/
def State.stepEnds (s t : State) (k : SwitchNo) (o : StepOutcome) (own : OwnCourse) : Prop :=
  let c := s.ehu.huntCase
  let d := t.ehu.huntCase
  let count := c.inconclusive[k] + 1
  let concluded (r : ResultKind) : Prop := d.state = .concluded ∧ d.step = none ∧ d.result = some r ∧ t.noticed .hunt
  let suspended (p : Suspension) : Prop := d.state = .suspended ∧ d.step = none ∧ d.suspension = some p ∧ t.noticed .hunt
  d.stepsTaken = c.stepsTaken + 1 ∧
  d.inconclusive = (if o = .inconclusive then c.inconclusive.set k count else c.inconclusive) ∧
  d.noRetest = (if o = .failed ∨ (o = .inconclusive ∧ 2 ≤ count) then c.noRetest ||| (1#16 <<< k.val) else c.noRetest) ∧
  t.ehu.settleTimer = .stopped ∧ t.ehu.observeTimer = .stopped ∧
  match s.ehu.pendingAbandon, own, s.ehu.pendingCause with
  | some r, _, _ => concluded .abandoned ∧ d.abandon = some r
  | none, .byCandidates, _ => if d.candidates.length = 1 then concluded .found else concluded .narrowed
  | none, .narrowed, _ => concluded .narrowed
  | none, .continues, cause =>
    if o = .failed then suspended ⟨.switchFailed, k⟩
    else match cause with
      | some p =>
        (p.kind ≠ .trip → suspended p) ∧
        (p.kind = .trip → s.runningCounted →
          if t.ehu.runningCount = 0 then d.state = .locating ∧ d.step = none ∧ d.suspension = none ∧ t.noticed .hunt
          else suspended p)
      | none => (d.state = .stepping ∧ ∃ j, d.step = some ⟨j, .opening, none⟩)
          ∨ concluded .found ∨ concluded .narrowed ∨ concluded .limit

/-- R140, R144 between the state before an operation of class HUNT on the test switch ends and the state after. What the case does
when its test switch is left open follows log entry 19. -/
def State.huntFollows (s t : State) (k : SwitchNo) (e : OpRequest) (res : OpResult) (now : Position) : Prop :=
  let c := s.ehu.huntCase
  let unlisted : Prop := ∀ l ∈ c.leftOpen, l.switch ≠ k
  c.state = .stepping → k ≠ 0 → e.classes.hunt = true →
    (∀ o, c.step = some ⟨k, .opening, o⟩ → e.action = .toOpen →
      if res = .done then
        t.ehu.huntCase = { c with step := some ⟨k, .settling, none⟩ }
          ∧ t.ehu.settleTimer = .running (10 * s.ehu.params.settle) (10 * s.ehu.params.settle)
      else s.stepEnds t k .failed .continues ∧
        if (res = .noAnswer ∨ res = .noMove) ∧ now = .unknown then
          unlisted → t.ehu.huntCase.leftOpen = c.leftOpen ++ [⟨k, .noCloseBack⟩]
        else t.ehu.huntCase.leftOpen = c.leftOpen) ∧
    (∀ o, c.step = some ⟨k, .closingBack, some o⟩ → e.action = .toClose →
      if res = .done then s.stepEnds t k o .continues
      else s.stepEnds t k .failed (ownCourseHeld o) ∧ (unlisted → ⟨k, .held⟩ ∈ t.ehu.huntCase.leftOpen))

/-! ## Automatic starts (R126) -/

/-- R126 between the state before a start attempt of a confirmed watch and the state after, so many HUNT holds being live: a case in
LOCATING where the checks of R130 pass, and otherwise the refusal recorded, FULL with the START DEFERRED note. -/
def State.attemptFollows (s t : State) (hunts : Nat) : Prop :=
  let due := s.fmu.mode = .service ∧ s.ehu.huntCase.state = .idle ∧ (∃ c, s.config 0 = some c ∧ c.sensing = true)
    ∧ (s.runtime 0).position = .closed ∧ (s.runtime 0).condition = .sound
  (due → hunts < 6 →
    t.ehu.huntCase.state = .locating ∧ t.ehu.huntCase.startOrigin = some .auto ∧ t.ehu.huntCase.holdHandle = none
      ∧ t.ehu.huntCase.essential = s.ehu.params.essential ∧ t.ehu.huntCase.startMinute = some s.svu.minute
      ∧ t.ehu.watch = { s.ehu.watch with state := .hunting, confirmTimer := .stopped, confirmed := false, lastRefusal := none }
      ∧ t.noticed .hunt) ∧
  ((due → 6 ≤ hunts) → ∃ r : StartRefusal, (r = .full ↔ due) ∧ t.sou = s.sou
    ∧ t.ehu.watch = { s.ehu.watch with lastRefusal := some r }
    ∧ t.ehu.huntCase = { s.ehu.huntCase with startDeferred := r == .full }
    ∧ (s.ehu.watch.lastRefusal ≠ some r → t.noticed .hunt))

end Sys2Proof.Machine
end

