-- ==== Sys2Proof/Certificates/Slice0/Obligations.lean ====
section
/-! DEFINITION. The statements of this model, for the provers. A statement that a command completes gives the state before the
arbiter's picks that end its taking (R94): `exec c s = .next t.arbitrate`, with what `t` holds. The arbiter has statements of its
own. That the response of a request is built before those picks, so that it stands in `t`, is the model's reading (log entry 12), and
every statement of a request's response rests on it. Requests are stated over every port that takes them at once
(`State.ready`). -/

open Sys2Proof Sys2Proof.Machine

/-! ## The queue -/

/-- A step takes the command at the front of the queue and runs it on the state with the queue's rest. -/
def Obligations.StepRunsFrontCommand : Prop :=
  ∀ (c : Instr) (rest : List Instr) (s : State), s.pending = c :: rest → step s = exec c { s with pending := rest }

/-- The model's choice (log entry 6): on an empty queue 0.1 s passes for every second-scale timer of a part whose blocks work, and
nothing else changes; a part held in reset or HALTED stands still. -/
def Obligations.StepOnEmptyQueueTicks : Prop :=
  ∀ s : State, s.pending = [] →
    (s.live = false → step s = .next s) ∧
    (s.live = true → ∃ t : State, step s = .next t
      ∧ t = { s with
          sou := { s.sou with
            runtime := t.sou.runtime, answerTimer := s.sou.answerTimer.tick, routineTimer := s.sou.routineTimer.tick
            headTimer := s.sou.headTimer.tick }
          rcs := t.rcs
          ehu := { s.ehu with
            watch := { s.ehu.watch with confirmTimer := s.ehu.watch.confirmTimer.tick }
            huntCase := { s.ehu.huntCase with listen := s.ehu.huntCase.listen.tick }
            settleTimer := s.ehu.settleTimer.tick, observeTimer := s.ehu.observeTimer.tick }
          svu := { s.svu with scanTimer := s.svu.scanTimer.tick } }
      ∧ (∀ k, t.runtime k = { s.runtime k with mechanism := (s.runtime k).mechanism.tick })
      ∧ ∀ k, t.seq k =
          { s.seq k with deadTimer := (s.seq k).deadTimer.tick, reclaimTimer := (s.seq k).reclaimTimer.tick })

/-- Every command answers a next state, and leaves the queue as it stands. -/
def Obligations.EveryCommandCompletesAndLeavesTheQueue : Prop :=
  ∀ (c : Instr) (s : State), ∃ t : State, exec c s = .next t ∧ t.pending = s.pending

/-! ## Invariants -/

/-- R58, R63: whatever command is taken, groups that stood monotone stand monotone. -/
def Obligations.StepKeepsGroupsMonotone : Prop :=
  ∀ s t : State, s.groupsOrdered → step s = .next t → t.groupsOrdered

/-- R68: no step leaves an effective level that disagrees with its inputs. -/
def Obligations.StepKeepsLevelsAgreed : Prop :=
  ∀ s t : State, s.levelsAgree → step s = .next t → t.levelsAgree

/-- R19, R23, R42: no step leaves a count of live holds wrong, nor more than 48 holds of port origin. -/
def Obligations.StepKeepsPortShare : Prop :=
  ∀ s t : State, s.portShareKept → step s = .next t → t.portShareKept

/-- R139, R132, R74: no step leaves a hunt step under way outside STEPPING or STEPPING without one, a listen window running
outside LOCATING, or a FIRE handle on a district below BAN. R67, R35: none leaves a FIRE handle that does not name a live FIRE
hold of its own district, so that no two districts keep one handle. R106: the EHU knows the number of running sequences. -/
def Obligations.StepKeepsCaseAndFireSettled : Prop :=
  ∀ s t : State, step s = .next t → (s.settled → t.settled) ∧ (s.fireHandlesLive → t.fireHandlesLive)
    ∧ (s.runningCounted → t.runningCounted)

/-- The six invariants stand in the state after reset. -/
def Obligations.InvariantsStandAtReset : Prop :=
  State.reset.groupsOrdered ∧ State.reset.levelsAgree ∧ State.reset.portShareKept ∧ State.reset.settled
    ∧ State.reset.fireHandlesLive ∧ State.reset.runningCounted

/-! ## Reading requests (R174, class A) -/

/-- R174: a request of class A that is taken changes no record of the feeder, holds, settings, switches or hunt, no line, no other
port, and of the SVU at most the first cause of the start-cause record. -/
def Obligations.ClassAMovesNothing : Prop :=
  ∀ (c : Instr) (p q : Port) (r : Request) (s : State), asRequest c = some (p, r) → isReading r = true → s.ready p →
    ∃ t : State, exec c s = .next t ∧ s.sameBlocks t ∧ t.lines = s.lines ∧ (q ≠ p → t.port q = s.port q)
      ∧ t.svu = { s.svu with startCause := t.svu.startCause }
      ∧ t.svu.startCause = { s.svu.startCause with first := t.svu.startCause.first }

/-- READ ZONE and READ SWITCH (R18): a switch not configured returns its runtime record at start values and OUT-OF-SERVICE, and
while the reach table is valid its reach is the free value of log entry 3, drawn afresh; the statement holds for every value of
it. READ LEVELS (R72, R76), the thresholds computed at the request (log entry 34); READ GROUP (R66), the group as committed, and
with the option the staging record, whichever group is named; READ HUNT (R136), with the times left to the nearest second, a half
counted up (log entry 8), and no zones for a listed switch without an entry in the reach table (log entry 36); READ TIME (R165). -/
def Obligations.RecordReadsAnswer : Prop :=
  (∀ (s : State) (p : Port), s.ready p →
    (∀ z : ZoneNo, exec (.readZone p z.val) s
      = .next (s.answer p 0x10 .done (.zone (s.zone z).info (s.zone z).suspicion))) ∧
    (∀ n, 32 ≤ n → exec (.readZone p n) s = .next (s.answer p 0x10 .refusedRange .empty))) ∧
  (∀ (s : State) (p : Port), s.ready p →
    (∀ k : SwitchNo, exec (.readSwitch p k.val) s
      = .next (State.answer
          { s with draws := if s.fmu.reachTable.isSome && !s.configured k then s.draws + 1 else s.draws } p 0x11 .done
          (.switch
            { config := s.config k, table := s.tableEntry k, reach := s.reach k
              runtime := if s.configured k then s.runtime k else Runtime.start
              required := s.requiredProfile k, seqState := if s.configured k then (s.seq k).state else .outOfService
              shotsUsed := (s.seq k).shotsUsed
              deadLeft := (s.seq k).deadTimer.leftTenths, reclaimLeft := (s.seq k).reclaimTimer.leftTenths
              tripClass := (s.seq k).tripClass, lastLockout := (s.seq k).lastLockout }))) ∧
    (∀ n, 16 ≤ n → exec (.readSwitch p n) s = .next (s.answer p 0x11 .refusedRange .empty))) ∧
  (∀ (s : State) (p : Port), s.ready p →
    exec (.readLevels p) s
      = .next (s.answer p 0x37 .done (.levels s.fsu.season s.fsu.tfb
          (Vector.ofFn fun d => ⟨s.district d, s.districtZones d != 0⟩)
          ⟨(s.group s.thresholdLevel).pickup, (s.group s.thresholdLevel).dropoff⟩ s.thresholdLevel))) ∧
  (∀ (s : State) (p : Port), s.ready p →
    (∀ l : Level, exec (.readGroup p (.named l) false) s = .next (s.answer p 0x34 .done (.group (s.fsu.groups.get l)))
      ∧ exec (.readGroup p (.named l) true) s
          = .next (s.answer p 0x34 .done (.groupAndStaging (s.fsu.groups.get l) s.fsu.staging))) ∧
    (∀ o, exec (.readGroup p .unnamed o) s = .next (s.answer p 0x34 .refusedRange .empty))) ∧
  (∀ (s : State) (p : Port), s.ready p →
    exec (.readHunt p) s
      = .next (s.answer p 0x52 .done (.hunt
          { watch := s.ehu.watch, confirmLeft := s.ehu.watch.confirmTimer.leftSeconds, thresholds := s.ehu.thresholds
            params := s.ehu.params, huntCase := s.ehu.huntCase, listenLeft := s.ehu.huntCase.listen.leftSeconds
            zones := (s.ehu.huntCase.candidates ++ s.ehu.huntCase.cleared).map fun k =>
              (k, match s.tableEntry k with | some e => e.segment | none => 0) }))) ∧
  (∀ (s : State) (p : Port), s.ready p →
    exec (.readTime p) s
      = .next (s.answer p 0x61 .done (.time s.svu.minute s.svu.second s.svu.timeState s.svu.timeSet s.svu.pulseRun
          s.svu.source)))

/-- READ HOLD (R28, R21): the hold whole, or the handle refused. LIST HOLDS (R29): the first twelve slots from the start slot
whose hold passes the filters, and the slot to go on from. -/
def Obligations.HoldReadsAnswer : Prop :=
  (∀ (s : State) (p : Port), s.ready p →
    (∀ (i : SlotNo) (h : Hold), s.holdAt i = some h →
      exec (.readHold p ⟨i.val, (s.slot i).useCount.toNat⟩) s
        = .next (s.answer p 0x21 .done (.hold ⟨i, (s.slot i).useCount⟩ h))) ∧
    (∀ (i : SlotNo) (u : UseCount), s.holdAt i = none ∨ (s.slot i).useCount ≠ u →
      exec (.readHold p ⟨i.val, u.toNat⟩) s = .next (s.answer p 0x21 .refusedStale .empty)) ∧
    (∀ n m, 64 ≤ n ∨ 1024 ≤ m → exec (.readHold p ⟨n, m⟩) s = .next (s.answer p 0x21 .refusedRange .empty))) ∧
  (∀ (s : State) (p : Port), s.ready p →
    (∀ (i : SlotNo) (zone : Option ZoneNo) (origin : Option Origin),
      let picked := allSlots.filter fun j =>
        decide (i.val ≤ j.val) && (s.holdAt j).any fun h => zone.all h.scope.has && origin.all (· == h.origin)
      exec (.listHolds p i.val (zone.map (·.val)) (origin.map .named)) s
        = .next (s.answer p 0x22 .done (.holds ((picked.take 12).map s.handleAt)
            (if 12 < picked.length then picked[11]?.bind fun j => slotNo? (j.val + 1) else none)))) ∧
    (∀ n zone origin, 64 ≤ n ∨ (∃ z, zone = some z ∧ 32 ≤ z) ∨ origin = some .unnamed →
      exec (.listHolds p n zone origin) s = .next (s.answer p 0x22 .refusedRange .empty)))

/-- CHECK CLOSE (R41, R39): the verdict, the number of blocking holds, the first eight handles and the reach. -/
def Obligations.CheckCloseAnswers : Prop :=
  ∀ (s : State) (p : Port), s.ready p →
    (∀ (k : SwitchNo) (kind : CloseKind), s.configured k = true →
      let blocking := allSlots.filter fun i => (s.holdAt i).any fun h =>
        h.scope.meets (s.reach k) && (h.kind == .noClose || (h.kind == .noReclose && kind == .automatic))
      exec (.checkClose p k.val (.named kind)) s
        = .next (s.answer p 0x25 .done
            (.permission blocking.isEmpty blocking.length ((blocking.take 8).map s.handleAt) (s.reach k)))) ∧
    (∀ (k : SwitchNo) (kind : CloseKind), s.configured k = false →
      exec (.checkClose p k.val (.named kind)) s = .next (s.answer p 0x25 .refusedState .empty)) ∧
    (∀ n kind, 16 ≤ n ∨ kind = .unnamed →
      exec (.checkClose p n kind) s = .next (s.answer p 0x25 .refusedRange .empty))

/-- RESERVE HOLD (R46) and RESERVE LEVEL (R47): the record read and the port's register filled; refused, the register empty. R49:
a conditional request leaves its port's register empty, whatever its outcome. -/
def Obligations.ReservingReadsFillTheRegister : Prop :=
  (∀ (s : State) (p : Port), s.ready p →
    (∀ (i : SlotNo) (h : Hold), s.holdAt i = some h →
      exec (.reserveHold p ⟨i.val, (s.slot i).useCount.toNat⟩) s
        = .next (State.answer
            (s.setPort p { s.port p with reservation := some (.hold ⟨i, (s.slot i).useCount⟩ h.version) }) p 0x28 .done
            (.hold ⟨i, (s.slot i).useCount⟩ h))) ∧
    (∀ (i : SlotNo) (u : UseCount), s.holdAt i = none ∨ (s.slot i).useCount ≠ u →
      exec (.reserveHold p ⟨i.val, u.toNat⟩) s
        = .next (State.answer (s.setPort p { s.port p with reservation := none }) p 0x28 .refusedStale .empty)) ∧
    (∀ n m, 64 ≤ n ∨ 1024 ≤ m →
      exec (.reserveHold p ⟨n, m⟩) s
        = .next (State.answer (s.setPort p { s.port p with reservation := none }) p 0x28 .refusedRange .empty))) ∧
  (∀ (s : State) (p : Port), s.ready p →
    (∀ d : DistrictNo, exec (.reserveLevel p d.val) s
      = .next (State.answer (s.setPort p { s.port p with reservation := some (.district d (s.district d).version) }) p 0x29
          .done
          (.reservedLevel (s.district d).declared (s.district d).effective (s.district d).version s.fsu.season s.fsu.tfb))) ∧
    (∀ n, 8 ≤ n → exec (.reserveLevel p n) s
      = .next (State.answer (s.setPort p { s.port p with reservation := none }) p 0x29 .refusedRange .empty))) ∧
  (∀ (c : Instr) (p : Port) (r : Request) (s : State), asRequest c = some (p, r) → isConditional r = true → s.portOpen p →
    ∃ t : State, exec c s = .next (State.arbitrate t) ∧ (t.port p).reservation = none ∧ (t.port p).response.isSome)

/-- READ START CAUSE (R168), HALTED or not: the record as it stood, the first cause cleared when asked; a failed record found
while HALTED is restored with the halt mark kept. READ STATUS (R179): every field at the taking, or while HALTED as it stood when
the part halted. -/
def Obligations.StartCauseAndStatusAnswer : Prop :=
  (∀ (s : State) (p : Port) (clear : Bool), s.portOpen p →
    (s.svu.badCodes = [] →
      exec (.readStartCause p (.named clear)) s
        = .next (State.answer
            { s with svu.startCause.first := if clear then none else s.svu.startCause.first } p 0x62 .done
            (.startCause s.svu.startCause s.svu.halted))) ∧
    (s.svu.halted = true → s.svu.badCodes = [.startCause] →
      exec (.readStartCause p (.named clear)) s
        = .next (State.answer
            { s with svu.startCause := ⟨none, none, s.svu.startCause.haltMark⟩, svu.badCodes := [] } p 0x62 .done
            (.startCause ⟨none, none, s.svu.startCause.haltMark⟩ true))) ∧
    (s.svu.badCodes = [] →
      exec (.readStartCause p .unnamed) s = .next (s.answer p 0x62 .refusedRange .empty))) ∧
  (∀ (s : State) (p : Port), s.portOpen p → s.svu.badCodes = [] →
    (s.svu.halted = false →
      exec (.readStatus p) s
        = .next (s.answer p 0x70 .done (.status
            { mode := s.fmu.mode, timeState := s.svu.timeState, halted := false, lkey := s.lines.lkey, tfb := s.fsu.tfb
              watch := s.ehu.watch.state, caseState := s.ehu.huntCase.state, counts := s.htu.counts }))) ∧
    (∀ st, s.svu.halted = true → s.svu.haltStatus = some st →
      exec (.readStatus p) s = .next (s.answer p 0x70 .done (.status st))))

/-- READ NOTICES and CLEAR NOTICES (R177): the port's own set and mask; the named flags alone are cleared. -/
def Obligations.NoticesReadAndCleared : Prop :=
  ∀ (s : State) (p : Port), s.ready p →
    exec (.readNotices p) s = .next (s.answer p 0x71 .done (.notices (s.port p).notices (s.port p).mask)) ∧
    (∀ (names : List Notice) (mask : Option (List Notice)), ∃ after newMask : NoticeSet,
      (∀ n, after.has n = ((s.port p).notices.has n && !names.contains n)) ∧
      (∀ n, newMask.has n = match mask with | some l => l.contains n | none => (s.port p).mask.has n) ∧
      exec (.clearNotices p (names.map .named) (mask.map (·.map .named))) s
        = .next (State.answer (s.setPort p { s.port p with notices := after, mask := newMask }) p 0x72 .done
            (.cleared (s.port p).notices after newMask))) ∧
    (∀ names mask, .unnamed ∈ names ∨ (∃ l, mask = some l ∧ .unnamed ∈ l) →
      exec (.clearNotices p names mask) s = .next (s.answer p 0x72 .refusedRange .empty))

/-- IDENTIFY (R180, 12.5). -/
def Obligations.IdentifyAnswers : Prop :=
  ∀ (s : State) (p : Port), s.ready p →
    exec (.identify p) s
      = .next (s.answer p 0x73 .done
          (.identity [0x3A, 0x61, 0x12, 0xE0, 0x01, 32, 16, 8, 64, 48, 16, 4, 16, 6, 32]))

/-! ## What is common to requests (chapters 3 and 10) -/

/-- R173, R55: while HALTED every request but READ STATUS and READ START CAUSE is answered REFUSED-HALTED, on either port, the
port's register emptied by a reserving or a conditional request (R46, R47, R49) and nothing else changed. R55: the five requests
of the controller port are answered REFUSED-PORT on the maintenance port, and change no record; a conditional DECLARE LEVEL
empties the maintenance register all the same (R49). -/
def Obligations.RequestsTurnedAway : Prop :=
  (∀ (c : Instr) (p : Port) (r : Request) (s : State), asRequest c = some (p, r) → s.portOpen p → s.svu.halted = true →
    takenHalted r = false →
      exec c s = .next (State.answer
        (if isReserving r || isConditional r then s.setPort p { s.port p with reservation := none } else s)
        p (requestCode r) .refusedHalted .empty)) ∧
  (∀ (c : Instr) (r : Request) (s : State), asRequest c = some (.maintenance, r) → s.ready .maintenance →
    controllerOnly r = true →
      exec c s = .next (State.arbitrate (State.answer
        (if isConditional r then s.setPort .maintenance { s.port .maintenance with reservation := none } else s)
        .maintenance (requestCode r) .refusedPort .empty)))

/-- R170, R172: a frame that fails framing, and a maintenance frame cut off by its byte timeout, are answered REFUSED-FORMAT
echoing the code held (in a frame of two bytes the second, log entry 38), HALTED or not; no record changes and the register
stands. R169, R171, R172: a frame that meets a held frame is discarded and sets the discard mark, as does the event itself in
every state not held in reset (log entry 10); a frame completed on a READY maintenance port is held and taken when the response
has been sent; a whole read empties the controller port and an early one leaves the response. What the read clocked out is kept in
the model's own field rqi.lastRead (log entry 31). -/
def Obligations.PortBuffersWork : Prop :=
  (∀ (s : State) (p : Port) (bytes : List Byte) (b : Bool),
    (s.portOpen p → exec (.refusedFormatFrame p bytes b) s
      = .next (s.answer p (match bytes with | _ :: code :: _ => code | _ => 0) .refusedFormat .empty)) ∧
    (s.portOpen .maintenance → exec (.maintenanceByteTimeout bytes) s
      = .next (s.answer .maintenance (match bytes with | _ :: code :: _ => code | _ => 0) .refusedFormat .empty))) ∧
  (∀ s : State, s.inReset = false →
    (∀ p, exec (.frameDiscarded p) s = .next (s.setPort p { s.port p with discardMark := true })) ∧
    (∀ p c r, asRequest c = some (p, r) → (s.port p).request.isSome = true →
      exec c s = .next (s.setPort p { s.port p with discardMark := true })) ∧
    (∀ c r, asRequest c = some (.maintenance, r) → (s.port .maintenance).request = none →
      (s.port .maintenance).response.isSome = true →
      exec c s = .next (s.setPort .maintenance { s.port .maintenance with request := some (.request r) })) ∧
    ((s.port .maintenance).response.isSome = true → (s.port .maintenance).request = none →
      exec .responseSent s = .next (s.setPort .maintenance { s.port .maintenance with response := none })) ∧
    (∀ code, (s.port .maintenance).response.isSome = true →
      (s.port .maintenance).request = some (.malformed code) →
      exec .responseSent s = .next (s.answer .maintenance code .refusedFormat .empty)) ∧
    (∀ c r, asRequest c = some (.maintenance, r) → (s.port .maintenance).response.isSome = true →
      (s.port .maintenance).request = some (.request r) →
      exec .responseSent s
        = exec c (s.setPort .maintenance { s.port .maintenance with response := none, request := none })) ∧
    ∃ out : ReadOut, out.response = (s.port .controller).response ∧ out.status = (s.port .controller).statusByte ∧
      exec (.readTransaction true) s
        = .next (State.setPort { s with rqi.lastRead := some out } .controller
            { s.port .controller with response := none }) ∧
      exec (.readTransaction false) s = .next { s with rqi.lastRead := some out })

/-! ## The feeder model (chapter 1) -/

/-- LOAD ZONES (R9, R10, R11, R2): the table replaced, the latest entry for a zone remaining, every suspicion count 0, the reach
table invalid, the holds of origin CONTROLLER, MAINTENANCE and HUNT widened, every reservation naming a widened hold lost and no
other (R50), the thresholds recomputed, the other blocks unchanged; refused in SERVICE, during a hunt step, for an empty or
overlong list, and for a field out of range; a boundary kind or an essential mark that is none of the named ones is out of range
too (log entry 32). -/
def Obligations.LoadZonesReplacesTheTable : Prop :=
  (∀ (s : State) (p : Port) (entries : List ZoneLoad) (l : List (ZoneNo × ZoneInfo)), s.ready p →
    s.fmu.mode = .commissioning → s.ehu.huntCase.step = none → entries ≠ [] → entries.length ≤ 32 →
    entries.mapM zoneLoad? = some l →
    ∃ t : State, exec (.loadZones p entries) s = .next (State.arbitrate (t.answer p 0x12 .done (.loaded
          (allZones.filter fun z => (t.zone z).info.isSome).length
          (allSlots.filter fun i => t.slot i != s.slot i).length)))
      ∧ (∀ z, t.zone z = ⟨((l.filter fun e => e.1 == z).getLast?).map (·.2), 0⟩)
      ∧ t.fmu.mode = .commissioning ∧ t.fmu.switches = s.fmu.switches ∧ t.fmu.reachTable = none
      ∧ (∀ i, t.slot i =
          { s.slot i with hold := (s.slot i).hold.map fun h =>
              if (h.origin = .controller ∨ h.origin = .maintenance ∨ h.origin = .hunt) ∧ h.scope ≠ wholeFeeder then
                { h with scope := wholeFeeder, version := h.version + 1 }
              else h })
      ∧ ((∃ i, t.slot i ≠ s.slot i) → t.noticed .hold)
      ∧ (∀ q, (t.port q).reservation = match (s.port q).reservation with
          | some (.hold h v) =>
            if h.useCount = (s.slot h.slot).useCount ∧ t.slot h.slot ≠ s.slot h.slot then none else some (.hold h v)
          | r => r)
      ∧ t.htu.counts = s.htu.counts
      ∧ t.ehu = { s.ehu with thresholds := t.feederThresholds }
      ∧ t.fsu = s.fsu ∧ t.sou = s.sou ∧ t.rcs = s.rcs ∧ t.svu = s.svu ∧ t.lines = s.lines) ∧
  (∀ (s : State) (p : Port) (entries : List ZoneLoad), s.ready p →
    (s.fmu.mode = .service →
      exec (.loadZones p entries) s = .next (State.arbitrate (s.answer p 0x12 .refusedMode .empty))) ∧
    (s.fmu.mode = .commissioning → s.ehu.huntCase.step.isSome = true →
      exec (.loadZones p entries) s = .next (State.arbitrate (s.answer p 0x12 .refusedBusy .empty))) ∧
    (s.fmu.mode = .commissioning → s.ehu.huntCase.step = none →
      (entries = [] ∨ 32 < entries.length ∨ ∃ e ∈ entries,
        31 < e.zone ∨ (∃ q, e.parent = some q ∧ 31 < q) ∨ (e.parent = none ∧ e.zone ≠ 0)
          ∨ (∃ k, e.boundary = .switched k ∧ 15 < k) ∨ e.boundary = .unnamed ∨ 7 < e.district ∨ e.essential = .unnamed) →
      exec (.loadZones p entries) s = .next (State.arbitrate (s.answer p 0x12 .refusedRange .empty))))

/-- CONFIGURE SWITCH carrying an entry (R12): the entry written, a mechanism time not given stored as 3.0 s, the reach table
invalid, the runtime record at its start values, an awaited reply of the switch withdrawn; asking removal (R13): the same with the
entry not configured, and ALREADY for a switch that is not configured. Both refused in SERVICE, for a number or field out of
range, and while the switch is occupied or a hunt step is under way; a class or a sensing mark that is none of the named ones, and
a mechanism time finer than 0.1 s, are out of range (log entry 32). -/
def Obligations.ConfigureSwitchWritesTheEntry : Prop :=
  (∀ (s : State) (p : Port) (k : SwitchNo) (z : ZoneNo) (cls : SwitchClass) (sensing : Bool) (e : SwitchLoad), s.ready p →
    s.fmu.mode = .commissioning → e.cls = .named cls → e.sensing = .named sensing →
    (s.runtime k).slot = none → (s.runtime k).inFlight = none → s.ehu.huntCase.step = none →
    e.downstream = z.val → 1 ≤ e.address → e.address ≤ 254 → 1 ≤ e.multiplier → e.multiplier ≤ 4000 → e.shift ≤ 3 →
    (∀ m, e.mechanism = some m → m.finer = false ∧ 5 ≤ m.units ∧ m.units ≤ 100) → (k = 0 ↔ cls = .headBreaker) →
    ∃ t : State, exec (.configureSwitch p k.val e) s = .next (State.arbitrate (t.answer p 0x13 .done .empty))
      ∧ t.config k = some
          { cls := cls, address := BitVec.ofNat 8 e.address, downstream := z, sensing := sensing
            multiplier := e.multiplier, shift := e.shift
            mechanism := match e.mechanism with | some m => m.units | none => 30 }
      ∧ (∀ j, j ≠ k → t.config j = s.config j)
      ∧ t.fmu.reachTable = none ∧ t.fmu.zones = s.fmu.zones ∧ t.fmu.mode = .commissioning
      ∧ t.runtime k = Runtime.start ∧ (∀ j, j ≠ k → t.runtime j = s.runtime j)
      ∧ t.sou = { s.sou with
          runtime := t.sou.runtime
          awaited := s.sou.awaited.map fun a => if a.switch = k then { a with withdrawn := true } else a }
      ∧ t.htu = s.htu ∧ t.fsu = s.fsu ∧ t.rcs = s.rcs ∧ t.ehu = s.ehu ∧ t.svu = s.svu ∧ t.rqi = s.rqi) ∧
  (∀ (s : State) (p : Port) (k : SwitchNo), s.ready p → s.fmu.mode = .commissioning →
    (s.runtime k).slot = none → (s.runtime k).inFlight = none → s.ehu.huntCase.step = none →
    (s.configured k = false → exec (.configureSwitchRemoval p k.val) s
      = .next (State.arbitrate (s.answer p 0x13 .already .empty))) ∧
    (s.configured k = true →
      ∃ t : State, exec (.configureSwitchRemoval p k.val) s = .next (State.arbitrate (t.answer p 0x13 .done .empty))
        ∧ t.config k = none ∧ (∀ j, j ≠ k → t.config j = s.config j)
        ∧ t.fmu.reachTable = none ∧ t.fmu.zones = s.fmu.zones ∧ t.fmu.mode = .commissioning
        ∧ t.runtime k = Runtime.start ∧ (∀ j, j ≠ k → t.runtime j = s.runtime j)
        ∧ t.sou = { s.sou with
            runtime := t.sou.runtime
            awaited := s.sou.awaited.map fun a => if a.switch = k then { a with withdrawn := true } else a }
        ∧ t.htu = s.htu ∧ t.fsu = s.fsu ∧ t.rcs = s.rcs ∧ t.ehu = s.ehu ∧ t.svu = s.svu ∧ t.rqi = s.rqi)) ∧
  (∀ (s : State) (p : Port) (e : SwitchLoad), s.ready p →
    let sent (n : Nat) := exec (.configureSwitch p n e) s
    let removal (n : Nat) := exec (.configureSwitchRemoval p n) s
    let refused (c : Code) : Host.Outcome State Fault Refusal := .next (State.arbitrate (s.answer p 0x13 c .empty))
    (s.fmu.mode = .service → ∀ n, sent n = refused .refusedMode ∧ removal n = refused .refusedMode) ∧
    (s.fmu.mode = .commissioning →
      (∀ n, 16 ≤ n ∨ e.address = 0 ∨ 254 < e.address ∨ 31 < e.downstream ∨ e.multiplier = 0 ∨ 4000 < e.multiplier ∨ 3 < e.shift
          ∨ (∃ m, e.mechanism = some m ∧ (m.finer = true ∨ m.units < 5 ∨ 100 < m.units))
          ∨ ¬ (n = 0 ↔ e.cls = .named .headBreaker) ∨ e.cls = .unnamed ∨ e.sensing = .unnamed →
        sent n = refused .refusedRange) ∧
      (∀ n, 16 ≤ n → removal n = refused .refusedRange) ∧
      ∀ k : SwitchNo, (s.runtime k).slot.isSome = true ∨ (s.runtime k).inFlight.isSome = true
          ∨ s.ehu.huntCase.step.isSome = true →
        removal k.val = refused .refusedBusy ∧
        (1 ≤ e.address → e.address ≤ 254 → e.downstream ≤ 31 → 1 ≤ e.multiplier → e.multiplier ≤ 4000 → e.shift ≤ 3 →
          (∀ m, e.mechanism = some m → m.finer = false ∧ 5 ≤ m.units ∧ m.units ≤ 100) →
          (k = 0 ↔ e.cls = .named .headBreaker) → e.cls ≠ .unnamed → e.sensing ≠ .unnamed →
          sent k.val = refused .refusedBusy)))

/-- ENTER SERVICE (R15, R6, R75, R97, R117), its checks passed: the reach table built and valid, SERVICE, thresholds recomputed, a
poll and the profile comparison for every configured switch, both timers as R100 gives them, every configured sequence UNCERTAIN;
tables and danger levels unchanged. R75: a district that wants a FIRE hold keeps the one it has over exactly its present zones,
and otherwise has a new one, its old one departed; a district that wants none loses its handle and its hold; the other holds
stand. ALREADY in SERVICE; refused with the failed check otherwise. -/
def Obligations.EnterServiceCompletes : Prop :=
  ∀ (s : State) (p : Port), s.ready p →
    (s.fmu.mode = .service → exec (.enterService p) s = .next (State.arbitrate (s.answer p 0x14 .already .empty))) ∧
    (s.fmu.mode = .commissioning → ∀ n o, s.fmu.failedCheck = some (n, o) →
      exec (.enterService p) s = .next (State.arbitrate (s.answer p 0x14 .refusedTopology (.topology n o)))) ∧
    (s.fmu.mode = .commissioning → s.fmu.failedCheck = none →
      ∃ t : State, exec (.enterService p) s = .next (State.arbitrate (t.answer p 0x14 .done .empty))
        ∧ t.fmu.mode = .service ∧ t.fmu.zones = s.fmu.zones ∧ t.fmu.switches = s.fmu.switches
        ∧ t.fmu.reachTable = some (Vector.ofFn fun k =>
            s.fmu.switches[k].map fun c => ⟨s.fmu.subtree c.downstream, s.fmu.segment c.downstream⟩)
        ∧ (∀ d, (t.district d).declared = (s.district d).declared ∧ (t.district d).effective = (s.district d).effective
            ∧ (t.district d).version = (s.district d).version)
        ∧ (∀ d, (s.district d).effective ≠ .ban ∨ s.districtZones d = 0 → (t.district d).fire = none)
        ∧ (s.fireHandlesLive → s.emptySlots 8 → s.otherHoldsStand t ∧ ∀ d,
            let wanted := (s.district d).effective = .ban ∧ s.districtZones d ≠ 0
            (∀ h r, wanted → (s.district d).fire = some h → s.liveHold h = some r → r.scope = s.districtZones d →
              s.fireHoldKept t d h) ∧
            (wanted → (∀ h r, (s.district d).fire = some h → s.liveHold h = some r → r.scope ≠ s.districtZones d) →
              s.fireHoldPlaced t d ∧ ∀ h, (s.district d).fire = some h → t.liveHold h = none) ∧
            (¬ wanted → s.fireHoldRetired t d))
        ∧ t.fsu.groups = s.fsu.groups ∧ t.ehu.thresholds = t.feederThresholds
        ∧ (∀ k, t.configured k = true →
            (t.runtime k).pollWanted.isSome = true
            ∧ (t.seq k).state = .uncertain ∧ (t.seq k).shotsUsed = 0
            ∧ (t.seq k).deadTimer = .stopped ∧ (t.seq k).reclaimTimer = .stopped
            ∧ (t.seq k).lastLockout = (s.seq k).lastLockout
            ∧ (∀ code, t.requiredProfile k = some code →
                if (s.runtime k).confirmed = some code then
                  (t.runtime k).profileState = .confirmed ∧ (t.runtime k).pushWanted = false
                else (t.runtime k).profileState = .pending ∧ (t.runtime k).pushWanted = true))
        ∧ (∀ k, t.configured k = false → t.seq k = s.seq k)
        ∧ (∀ k, (t.runtime k).position = (s.runtime k).position ∧ (t.runtime k).inFlight = (s.runtime k).inFlight
            ∧ (t.runtime k).slot = (s.runtime k).slot)
        ∧ t.sou.routineTimer = .running (10 * s.sou.link.pollInterval) (10 * s.sou.link.pollInterval)
        ∧ t.sou.headTimer = (if (s.config 0).any (·.sensing) then
            .running (10 * s.sou.link.headInterval) (10 * s.sou.link.headInterval) else .stopped))

/-- ENTER COMMISSIONING (R16, R17, R118, R123, R146, R152) with the key turned: COMMISSIONING, the tables and every hold as they
were; every request in a slot ended CANCELLED with the OPERATION notice, every poll cleared, both poll timers stopped; every
sequence OUT-OF-SERVICE with its timers stopped and its marks and marker cleared, one that owed a reclose, no OPEN waiting in
its slot (log entry 45), recorded as a MODE lockout (log entry 17 gives the order); the watch at its start values. An open case
is concluded ABANDONED (MODE) with the HUNT notice in LOCATING and SUSPENDED; in STEPPING that abandonment is pending, unless
one is, and ends the case at once where the step was waiting on a request now cancelled. REFUSED-KEY without the key, ALREADY in
COMMISSIONING. -/
def Obligations.EnterCommissioningCompletes : Prop :=
  ∀ (s : State) (p : Port), s.ready p →
    (s.fmu.mode = .commissioning →
      exec (.enterCommissioning p) s = .next (State.arbitrate (s.answer p 0x15 .already .empty))) ∧
    (s.fmu.mode = .service → s.lines.lkey = false →
      exec (.enterCommissioning p) s = .next (State.arbitrate (s.answer p 0x15 .refusedKey .empty))) ∧
    (s.fmu.mode = .service → s.lines.lkey = true → s.settled →
      let c := s.ehu.huntCase
      let reason : AbandonReason := match s.ehu.pendingAbandon with | some r => r | none => .mode
      let waits (st : Step) : Prop := ∃ q, (s.runtime st.switch).slot = some q ∧ q.classes.hunt = true
        ∧ ((st.phase = .opening ∧ q.action = .toOpen)
          ∨ (st.phase = .closingBack ∧ q.action = .toClose ∧ st.outcome.isSome = true))
      ∃ t : State, exec (.enterCommissioning p) s = .next (State.arbitrate (t.answer p 0x15 .done .empty))
        ∧ t.fmu = { s.fmu with mode := .commissioning }
        ∧ t.htu = s.htu ∧ t.fsu = s.fsu ∧ t.svu = s.svu ∧ t.lines = s.lines
        ∧ t.sou = { s.sou with runtime := t.sou.runtime, routineTimer := .stopped, headTimer := .stopped }
        ∧ (∀ k, t.runtime k = { s.runtime k with
            slot := none, pollWanted := none
            lastResult := match (s.runtime k).slot with
              | some q => some ⟨q.action, q.classes, .cancelled⟩
              | none => (s.runtime k).lastResult })
        ∧ (∀ k, (s.runtime k).slot.isSome = true → t.noticed .operation)
        ∧ (∀ k, (t.seq k).state = .outOfService ∧ (t.seq k).deadTimer = .stopped ∧ (t.seq k).reclaimTimer = .stopped
            ∧ (t.seq k).cancel = false ∧ (t.seq k).note = none ∧ (t.seq k).marker = none)
        ∧ (∀ k, (s.seq k).state.owes = true → (∀ q, (s.runtime k).slot = some q → q.action = .toClose) →
            (t.seq k).lastLockout = some ⟨.mode, s.svu.minute⟩ ∧ (t.seq k).shotsUsed = (s.seq k).shotsUsed
              ∧ t.noticed .lockout)
        ∧ (∀ k, (s.seq k).state.owes = false →
            (t.seq k).lastLockout = (s.seq k).lastLockout ∧ (t.seq k).shotsUsed = (s.seq k).shotsUsed)
        ∧ t.ehu.watch = Watch.start ∧ t.ehu.params = s.ehu.params ∧ t.ehu.thresholds = s.ehu.thresholds
        ∧ (c.state = .idle ∨ c.state = .concluded → t.ehu.huntCase = c)
        ∧ (c.state = .locating ∨ c.state = .suspended →
            t.ehu.huntCase = { c with
              state := .concluded, listen := .stopped, result := some .abandoned, abandon := some .mode }
            ∧ t.noticed .hunt)
        ∧ (∀ st, c.step = some st → t.ehu.pendingAbandon = some reason
            ∧ (¬ waits st → t.ehu.huntCase = c)
            ∧ (waits st → t.noticed .hunt ∧ t.ehu.huntCase.state = .concluded ∧ t.ehu.huntCase.step = none
                ∧ t.ehu.huntCase.result = some .abandoned ∧ t.ehu.huntCase.abandon = some reason
                ∧ t.ehu.huntCase.stepsTaken = c.stepsTaken + 1 ∧ t.ehu.huntCase.candidates = c.candidates
                ∧ (st.phase = .opening → t.ehu.huntCase.leftOpen = c.leftOpen)
                ∧ (st.phase = .closingBack → (∀ e ∈ c.leftOpen, e.switch ≠ st.switch) →
                    t.ehu.huntCase.leftOpen = c.leftOpen ++ [⟨st.switch, .held⟩]))))

/-! ## The hold table (chapters 2 and 3) -/

/-- PLACE HOLD (R24, R25, R26): placed in the lowest-numbered empty slot `i` with that slot's use count, the origin's count
raised, the HOLD notice set, and the switches listed whose CLOSE in flight the hold would block; refused in R24's order of checks,
the table left as it was. -/
def Obligations.PlaceHoldPlaces : Prop :=
  (∀ (s : State) (p : Port) (b : PlaceBody) (kind : HoldKind) (strength : Strength) (i : SlotNo), s.ready p →
    b.scope ≠ [] → (∀ z ∈ b.scope, z ≤ 31) → b.kind = .named kind → b.strength = .named strength →
    (strength = .owned → b.tag.isSome = true) → b.tag ≠ some 0 →
    (∀ m, b.expiry = some m → strength ≠ .pinned ∧ s.svu.minute < m) →
    s.htu.counts.controller + s.htu.counts.maintenance < 48 →
    s.holdAt i = none → (∀ j, j < i → (s.holdAt j).isSome = true) →
    ∃ (h : Hold) (t : State),
      h = { kind := kind, strength := strength, origin := originOf p, scope := zonesWhere fun z => b.scope.contains z.val
            tag := b.tag, expiry := b.expiry, reason := b.reason, cause := none, placed := s.svu.minute, version := 0 }
      ∧ exec (.placeHold p b) s = .next (State.arbitrate (t.answer p 0x20 .done (.placed ⟨i, (s.slot i).useCount⟩ 0
          (allSwitches.filter fun k => (s.runtime k).inFlight.any fun f =>
            f.request.action == .toClose && h.scope.meets (s.reach k)
              && (h.kind == .noClose || f.request.classes.closeKind == .automatic)))))
      ∧ t.slot i = ⟨some h, (s.slot i).useCount⟩ ∧ (∀ j, j ≠ i → t.slot j = s.slot j)
      ∧ t.htu.counts = s.htu.counts.modify (· + 1) (originOf p)
      ∧ t.rqi = (s.notify .hold).rqi
      ∧ t.fmu = s.fmu ∧ t.fsu = s.fsu ∧ t.sou = s.sou ∧ t.rcs = s.rcs ∧ t.ehu = s.ehu ∧ t.svu = s.svu) ∧
  (∀ (s : State) (p : Port) (b : PlaceBody), s.ready p →
    (b.scope = [] ∨ (∃ z ∈ b.scope, 31 < z) ∨ b.kind = .unnamed ∨ b.strength = .unnamed
        ∨ (b.strength = .named .owned ∧ b.tag = none) ∨ (b.strength = .named .pinned ∧ b.expiry.isSome = true)
        ∨ (∃ m, b.expiry = some m ∧ m ≤ s.svu.minute) →
      exec (.placeHold p b) s = .next (State.arbitrate (s.answer p 0x20 .refusedRange .empty))) ∧
    ((s.placement? p b).isSome = true → 48 ≤ s.htu.counts.controller + s.htu.counts.maintenance →
      exec (.placeHold p b) s = .next (State.arbitrate (s.answer p 0x20 .refusedFull .empty))))

/-- AMEND HOLD that passes checks 1 to 5 of R32 (R33, R30, R31, R50). Where no carried value differs from the hold's it is ALREADY
with the version as it stands. REFUSED-RANGE where the owner tag of an OWNED hold cannot be settled, an expiry minute meets
PINNED, or a new expiry minute is not later than the minute count. Otherwise the hold as amended in its slot, its version
advanced, its kind, strength, scope and expiry as carried and otherwise as they were, PINNED without an expiry minute, its owner
tag the one it had or, when it had none and is OWNED or PINNED, the one carried; the HOLD notice set, every reservation naming it
lost, the sender's register emptied when conditional, and nothing else changed. What counts as a change and as an enlarged scope,
for the too-late list, is the model's reading (log entry 25). -/
def Obligations.AmendHoldApplies : Prop :=
  ∀ (s : State) (p : Port) (b : AmendBody) (i : SlotNo) (r : Hold) (carried : AmendChanges), s.ready p →
    b.handle = ⟨i.val, (s.slot i).useCount.toNat⟩ → s.holdAt i = some r → amendChanges? b = some carried →
    (b.conditional = true → (s.port p).reservation = some (.hold ⟨i, (s.slot i).useCount⟩ r.version)) →
    r.origin ≠ .fire → r.origin ≠ .system →
    ((carried.against r).relaxes r = true → r.authority b.tag s.lines.lkey = .ok ()) →
    let emptied := if b.conditional then s.setPort p { s.port p with reservation := none } else s
    let unchanged := (∀ m, carried.expiry = .give m → r.expiry = some m) ∧ (carried.expiry = .remove → r.expiry = none)
      ∧ (∀ g, carried.strength = some g → g = r.strength) ∧ (∀ z, carried.scope = some z → z = r.scope)
      ∧ (∀ x, carried.kind = some x → x = r.kind)
    let strength := match carried.strength with | some g => g | none => r.strength
    let new : Hold := { r with
      kind := match carried.kind with | some x => x | none => r.kind
      strength := strength
      scope := match carried.scope with | some z => z | none => r.scope
      expiry := if strength = .pinned then none else match carried.expiry with
        | .give m => some m | .remove => none | .keep => r.expiry
      tag := if strength = .plain then r.tag else match r.tag with | some g => some g | none => b.tag
      version := r.version + 1 }
    let fits := (strength = .owned → new.tag.isSome = true)
      ∧ (∀ m, carried.expiry = .give m → r.expiry ≠ some m → strength ≠ .pinned ∧ s.svu.minute < m)
    (unchanged → exec (.amendHold p b) s
      = .next (State.arbitrate (emptied.answer p 0x23 .already (.amended r.version [])))) ∧
    (¬ unchanged → ¬ fits → exec (.amendHold p b) s
      = .next (State.arbitrate (emptied.answer p 0x23 .refusedRange .empty))) ∧
    (¬ unchanged → fits →
      ∃ t : State, exec (.amendHold p b) s = .next (State.arbitrate (t.answer p 0x23 .done (.amended new.version
        (if (carried.against r).tightens r then allSwitches.filter fun k => (s.runtime k).inFlight.any fun f =>
            f.request.action == .toClose && new.scope.meets (s.reach k)
              && (new.kind == .noClose || f.request.classes.closeKind == .automatic)
          else []))))
      ∧ t.slot i = { s.slot i with hold := some new } ∧ (∀ j, j ≠ i → t.slot j = s.slot j) ∧ t.htu.counts = s.htu.counts
      ∧ t.noticed .hold
      ∧ (∀ q v, (t.port q).reservation ≠ some (.hold ⟨i, (s.slot i).useCount⟩ v))
      ∧ (b.conditional = true → (t.port p).reservation = none)
      ∧ t.fmu = s.fmu ∧ t.fsu = s.fsu ∧ t.sou = s.sou ∧ t.rcs = s.rcs ∧ t.ehu = s.ehu ∧ t.svu = s.svu)

/-- R22, R30, R32, R34, R48: a RELEASE HOLD, and an AMEND HOLD with any relaxing change (the strength lowered, a zone of the scope
given up, NO_CLOSE made NO_RECLOSE), of a hold of port or HUNT origin without release authority is refused with REFUSED-NOT-OWNER
or REFUSED-KEY, and a conditional one without its reservation with REFUSED-LOST, whatever the hold's origin and the sender's
authority; every record but the sender's register is left as it was. A port neither releases nor amends a FIRE hold, with the key
or without, nor amends a SYSTEM hold, nor releases one without the key. First, whatever stands in the slot: REFUSED-RANGE for a
slot above 63, a use count above 1023 or a tag of 0, and of an amendment for a strength or kind that is none of the named ones, an
empty scope and a zone above 31; then REFUSED-STALE for an empty slot or another use count (R21). -/
def Obligations.HoldChangesNeedAuthority : Prop :=
  (∀ (s : State) (p : Port) (i : SlotNo) (r : Hold) (tag : Option OwnerTag) (cond : Bool), s.ready p →
    s.holdAt i = some r → tag ≠ some 0 →
    let handle : HandleField := ⟨i.val, (s.slot i).useCount.toNat⟩
    let emptied := if cond then s.setPort p { s.port p with reservation := none } else s
    let lost := cond = true ∧ (s.port p).reservation ≠ some (.hold ⟨i, (s.slot i).useCount⟩ r.version)
    let release := exec (.releaseHold p ⟨handle, cond, tag⟩) s
    let released (code : Code) : Prop := release = .next (State.arbitrate (emptied.answer p 0x24 code .empty))
    let amended (b : AmendBody) (code : Code) : Prop :=
      exec (.amendHold p b) s = .next (State.arbitrate (emptied.answer p 0x23 code .empty))
    let sent (b : AmendBody) (c : AmendChanges) : Prop :=
      b.handle = handle ∧ b.conditional = cond ∧ b.tag = tag ∧ amendChanges? b = some c
    let relaxing (c : AmendChanges) : Prop :=
      (∃ g, c.strength = some g ∧ strengthRank g < strengthRank r.strength)
        ∨ (∃ (z : ZoneSet) (n : ZoneNo), c.scope = some z ∧ r.scope.has n = true ∧ z.has n = false)
        ∨ (c.kind = some .noReclose ∧ r.kind = .noClose)
    (lost → released .refusedLost ∧ ∀ b c, sent b c → amended b .refusedLost) ∧
    (¬ lost → r.origin ≠ .fire → r.origin ≠ .system → s.lines.lkey = false →
      (r.strength = .owned ∧ (tag = none ∨ tag ≠ r.tag) →
        released .refusedNotOwner ∧ ∀ b c, sent b c → relaxing c → amended b .refusedNotOwner) ∧
      (r.strength = .pinned → released .refusedKey ∧ ∀ b c, sent b c → relaxing c → amended b .refusedKey)) ∧
    (¬ lost → r.origin = .fire ∨ (r.origin = .system ∧ s.lines.lkey = false) → released .refusedOrigin) ∧
    (¬ lost → r.origin = .fire ∨ r.origin = .system → ∀ b c, sent b c → amended b .refusedOrigin)) ∧
  (∀ (s : State) (p : Port), s.ready p →
    let emptied (cond : Bool) := if cond then s.setPort p { s.port p with reservation := none } else s
    let released (b : ReleaseBody) (code : Code) : Prop :=
      exec (.releaseHold p b) s = .next (State.arbitrate ((emptied b.conditional).answer p 0x24 code .empty))
    let amended (b : AmendBody) (code : Code) : Prop :=
      exec (.amendHold p b) s = .next (State.arbitrate ((emptied b.conditional).answer p 0x23 code .empty))
    let outside (h : HandleField) (tag : Option OwnerTag) : Prop := 64 ≤ h.slot ∨ 1024 ≤ h.useCount ∨ tag = some 0
    let stale (h : HandleField) : Prop := ∃ (i : SlotNo) (u : UseCount), h = ⟨i.val, u.toNat⟩
      ∧ (s.holdAt i = none ∨ (s.slot i).useCount ≠ u)
    (∀ b, outside b.handle b.tag → released b .refusedRange) ∧
    (∀ b, b.tag ≠ some 0 → stale b.handle → released b .refusedStale) ∧
    (∀ b, outside b.handle b.tag ∨ b.strength = some .unnamed ∨ b.kind = some .unnamed
        ∨ (∃ l, b.scope = some l ∧ (l = [] ∨ ∃ z ∈ l, 32 ≤ z)) →
      amended b .refusedRange) ∧
    (∀ b c, amendChanges? b = some c → stale b.handle → amended b .refusedStale))

/-- RELEASE HOLD with authority (R34, R35, R50): the slot empty with its use count advanced, the origin's count lowered, the HOLD
notice set, every reservation naming the hold lost, and the other slots unchanged. The departure of a HUNT hold makes the handle
of the case absent where it names that hold (R152), and has a watch that is WATCHING and confirmed with auto-start on attempt the
start it deferred, with one HUNT hold fewer (R126). -/
def Obligations.ReleaseHoldReleases : Prop :=
  ∀ (s : State) (p : Port) (b : ReleaseBody) (i : SlotNo) (r : Hold), s.ready p →
    b.handle = ⟨i.val, (s.slot i).useCount.toNat⟩ → s.holdAt i = some r → b.tag ≠ some 0 →
    (b.conditional = true → (s.port p).reservation = some (.hold ⟨i, (s.slot i).useCount⟩ r.version)) →
    r.origin ≠ .fire → (r.origin = .system → s.lines.lkey = true) →
    (r.origin ≠ .system →
      r.strength = .plain ∨ (r.strength = .owned ∧ b.tag.isSome = true ∧ b.tag = r.tag) ∨ s.lines.lkey = true) →
    ∃ t : State, exec (.releaseHold p b) s
        = .next (State.arbitrate (t.answer p 0x24 .done (.released ((s.slot i).useCount + 1))))
      ∧ t.slot i = ⟨none, (s.slot i).useCount + 1⟩ ∧ (∀ j, j ≠ i → t.slot j = s.slot j)
      ∧ t.htu.counts = s.htu.counts.modify (· - 1) r.origin
      ∧ t.noticed .hold
      ∧ (∀ q v, (t.port q).reservation ≠ some (.hold ⟨i, (s.slot i).useCount⟩ v))
      ∧ (b.conditional = true → (t.port p).reservation = none)
      ∧ t.fmu = s.fmu ∧ t.fsu = s.fsu ∧ t.rcs = s.rcs ∧ t.svu = s.svu
      ∧ (r.origin ≠ .hunt → t.sou = s.sou ∧ t.ehu = s.ehu)
      ∧ (r.origin = .hunt →
          let dropped : State := { s with ehu.huntCase.holdHandle :=
            if s.ehu.huntCase.holdHandle = some ⟨i, (s.slot i).useCount⟩ then none else s.ehu.huntCase.holdHandle }
          let deferred := s.ehu.watch.state = .watching ∧ s.ehu.watch.confirmed = true ∧ s.ehu.params.autoStart = true
          (deferred → dropped.attemptFollows t (s.htu.counts.hunt - 1)) ∧
          (¬ deferred → t.sou = s.sou ∧ t.ehu = dropped.ehu))

/-! ## Fire season settings (chapter 4) -/

/-- OPEN GROUP EDIT (R61, R56): the named group copied into staging, owned by the requesting port; REFUSED-BUSY while staging is
open; REFUSED-RANGE for a name that is none of the four, while staging is open too (log entry 41). DISCARD GROUP EDIT (R57):
ALREADY with staging closed, without data (log entry 13); closed by its owner, or by the other port with LKEY asserted, naming the
group and the owner; REFUSED-SEQUENCE from the other port without the key. -/
def Obligations.OpenAndDiscardGroupEdit : Prop :=
  (∀ (s : State) (p : Port), s.ready p →
    (∀ l : Level, s.fsu.staging = none → exec (.openGroupEdit p (.named l)) s
      = .next (State.arbitrate (State.answer { s with fsu.staging := some ⟨l, p, s.fsu.groups.get l⟩ } p 0x30 .done
          (.staging l (s.fsu.groups.get l))))) ∧
    (∀ l : Level, s.fsu.staging.isSome = true →
      exec (.openGroupEdit p (.named l)) s = .next (State.arbitrate (s.answer p 0x30 .refusedBusy .empty))) ∧
    exec (.openGroupEdit p .unnamed) s = .next (State.arbitrate (s.answer p 0x30 .refusedRange .empty))) ∧
  (∀ (s : State) (p : Port), s.ready p →
    (s.fsu.staging = none → exec (.discardGroupEdit p) s = .next (State.arbitrate (s.answer p 0x33 .already .empty))) ∧
    (∀ g, s.fsu.staging = some g →
      exec (.discardGroupEdit p) s = .next (State.arbitrate
        (if g.owner = p ∨ s.lines.lkey = true then
          State.answer { s with fsu.staging := none } p 0x33 .done (.discarded g.level g.owner)
        else s.answer p 0x33 .refusedSequence .empty))))

/-- EDIT GROUP by the owner (R62, R58): each of the twelve fields of staging takes every value of its range, in stored units; a
value outside it, or finer than the stored unit, leaves staging as it was, as does a name that is none of the twelve. R56: EDIT
GROUP and COMMIT GROUP with staging closed, or from the port that does not own it, are refused REFUSED-SEQUENCE. -/
def Obligations.EditGroupEditsStaging : Prop :=
  (∀ (s : State) (p : Port) (g : Staging), s.ready p → s.fsu.staging = some g → g.owner = p →
    let edited (f : GroupField) (v : GroupValue) (group : Group) : Prop :=
      exec (.editGroup p (.named f) v) s = .next (State.arbitrate (State.answer
        { s with fsu.staging := some { g with group := group } } p 0x31 .done (.edited f v)))
    let quantity (f : GroupField) (lo hi : Nat) (put : Nat → Group) : Prop := ∀ a : Amount,
      (a.finer = false → lo ≤ a.units → a.units ≤ hi → edited f (.quantity a) (put a.units)) ∧
      (a.finer = true ∨ a.units < lo ∨ hi < a.units →
        exec (.editGroup p (.named f) (.quantity a)) s = .next (State.arbitrate (s.answer p 0x31 .refusedRange .empty)))
    quantity .shotsAllowed 0 3 (fun n => { g.group with shots := n }) ∧
    quantity .deadTime1 5 1800 (fun n => { g.group with dead1 := n }) ∧
    quantity .deadTime2 5 1800 (fun n => { g.group with dead2 := n }) ∧
    quantity .deadTime3 5 1800 (fun n => { g.group with dead3 := n }) ∧
    quantity .reclaimTime 5 600 (fun n => { g.group with reclaim := n }) ∧
    quantity .profileCode 0 15 (fun n => { g.group with profile := n }) ∧
    quantity .residualPickup 5 500 (fun n => { g.group with pickup := n }) ∧
    quantity .dropoffPercent 50 95 (fun n => { g.group with dropoff := n }) ∧
    (∀ b, edited .recloseAfterEarth (.yesNo b) { g.group with recloseEarth := b }) ∧
    (∀ b, edited .activeTests (.yesNo b) { g.group with activeTests := b }) ∧
    (∀ b, edited .closeBackOntoSuspect (.yesNo b) { g.group with closeBack := b }) ∧
    (∀ b, edited .isolateFound (.yesNo b) { g.group with isolate := b }) ∧
    ∀ v, exec (.editGroup p .unnamed v) s = .next (State.arbitrate (s.answer p 0x31 .refusedRange .empty))) ∧
  (∀ (s : State) (p : Port), s.ready p → (∀ g, s.fsu.staging = some g → g.owner ≠ p) →
    exec (.commitGroup p) s = .next (State.arbitrate (s.answer p 0x32 .refusedSequence .empty)) ∧
    ∀ f v, exec (.editGroup p f v) s = .next (State.arbitrate (s.answer p 0x31 .refusedSequence .empty)))

/-- COMMIT GROUP by the owner (R63, R64): groups that would not be monotone refuse it with the first failed check and its pair,
staging open as it was; otherwise staging is written into its group and closed, the levels and district records stand, and a group
in force that changed sets the LEVEL notice and hands over fresh thresholds; each switch that uses it has its profile compared
where the code changed (R97), and a dead time of a shot no longer allowed is locked out for LEVEL (R114), a cancelled sequence
among them, no trip class left (log entry 20). A group in force nowhere changes and nothing follows: it hands over no thresholds
either (log entry 26). -/
def Obligations.CommitGroupWritesTheGroup : Prop :=
  ∀ (s : State) (p : Port) (g : Staging), s.ready p → s.fsu.staging = some g → g.owner = p →
    let old := s.fsu.groups.get g.level
    let groups := s.fsu.groups.put g.group g.level
    let uses (k : SwitchNo) : Prop := ∃ d, s.districtOf k = some d ∧ (s.district d).effective = g.level
    (¬ groups.monotone → ∃ n pair, groups.orderFault = some (n, pair) ∧
      exec (.commitGroup p) s = .next (State.arbitrate (s.answer p 0x32 .refusedOrder (.order n pair)))) ∧
    (groups.monotone →
      ∃ t : State, exec (.commitGroup p) s
          = .next (State.arbitrate (t.answer p 0x32 .done (.committed g.level (old.changes g.group))))
        ∧ t.fsu = { s.fsu with groups := groups, staging := none }
        ∧ t.htu = s.htu ∧ t.fmu = s.fmu ∧ t.svu = s.svu
        ∧ (g.group ≠ old → (∃ d, (s.district d).effective = g.level) →
            t.noticed .level ∧ t.ehu.thresholds = t.feederThresholds)
        ∧ (∀ k,
            t.runtime k = { s.runtime k with
              profileState := (t.runtime k).profileState, pushWanted := (t.runtime k).pushWanted
              pollWanted := (t.runtime k).pollWanted }
            ∧ (uses k → g.group.profile ≠ old.profile →
                if (s.runtime k).confirmed = some g.group.profile then
                  (t.runtime k).profileState = .confirmed ∧ (t.runtime k).pushWanted = false
                else (t.runtime k).profileState = .pending ∧ (t.runtime k).pushWanted = true)
            ∧ (¬ uses k ∨ g.group.profile = old.profile →
                (t.runtime k).profileState = (s.runtime k).profileState
                  ∧ (t.runtime k).pushWanted = (s.runtime k).pushWanted))
        ∧ (∀ k n, uses k → g.group ≠ old → (s.seq k).state = .deadTime n → g.group.shots < n →
            t.seq k = { s.seq k with
              state := .lockout, deadTimer := .stopped, reclaimTimer := .stopped, tripClass := none, cancel := false
              note := none, marker := none, lastLockout := some ⟨.level, s.svu.minute⟩ } ∧ t.noticed .lockout)
        ∧ (∀ k, ¬ (uses k ∧ g.group ≠ old ∧ ∃ n, (s.seq k).state = .deadTime n ∧ g.group.shots < n) → t.seq k = s.seq k)
        ∧ ((g.group = old ∨ ∀ d, (s.district d).effective ≠ g.level) →
            t.sou = s.sou ∧ t.rcs = s.rcs ∧ t.ehu = s.ehu ∧ t.rqi = s.rqi))

/-- DECLARE LEVEL (R69, R68, R51, R73): the declared level set and its version advanced, every effective level by R68, the LEVEL
notice set, every reservation on the district lost; the other districts' declared levels and versions, the groups, the season and
the feeder model unchanged. ALREADY for the level already declared, with the fields of the record (R67, R69). R74: a district that
goes to BAN takes its FIRE hold, one that leaves it loses it. R73: the switches of a district whose level changes have their
profiles compared (R97) and their sequences evaluated again (R114), and no other switch. The record of another district stands
where each FIRE handle names a FIRE hold of its own district. REFUSED-RANGE for a district or level out of range; REFUSED-LOST for
a conditional request without its reservation, whose register is emptied in every outcome (R48, R49). -/
def Obligations.DeclareLevelDeclares : Prop :=
  (∀ (s : State) (d : DistrictNo) (l : Level) (cond : Bool), s.ready .controller → s.levelsAgree →
      (cond = true → (s.port .controller).reservation = some (.district d (s.district d).version)) →
      (l = (s.district d).declared → exec (.declareLevel .controller d.val (.named l) cond) s
        = .next (State.arbitrate (State.answer
            (if cond then s.setPort .controller { s.port .controller with reservation := none } else s) .controller 0x35
            .already (.district (s.district d))))) ∧
      (l ≠ (s.district d).declared →
        ∃ t : State, exec (.declareLevel .controller d.val (.named l) cond) s
            = .next (State.arbitrate (t.answer .controller 0x35 .done
                (.declared l (levelGiven s.fsu.season s.fsu.tfb l) ((s.district d).version + 1))))
          ∧ (t.district d).declared = l ∧ (t.district d).version = (s.district d).version + 1
          ∧ (t.district d).effective = levelGiven s.fsu.season s.fsu.tfb l
          ∧ (∀ e, e ≠ d → t.district e = { s.district e with fire := (t.district e).fire })
          ∧ (s.fireHandlesLive → ∀ e, e ≠ d → t.district e = s.district e)
          ∧ t.noticed .level
          ∧ (∀ q v, (t.port q).reservation ≠ some (.district d v))
          ∧ ((t.district d).effective ≠ (s.district d).effective → t.ehu.thresholds = t.feederThresholds)
          ∧ t.fsu.groups = s.fsu.groups ∧ t.fsu.season = s.fsu.season ∧ t.fsu.tfb = s.fsu.tfb
          ∧ t.fsu.staging = s.fsu.staging ∧ t.fmu = s.fmu ∧ t.svu = s.svu
          ∧ (s.settled → s.emptySlots 8 → s.fireHoldsFollow t) ∧ s.levelChangeFollows t)) ∧
  (∀ (s : State) (cond : Bool), s.ready .controller →
    let refused (n : Nat) (l : Choice Level) (code : Code) : Prop := exec (.declareLevel .controller n l cond) s
      = .next (State.arbitrate (State.answer
          (if cond then s.setPort .controller { s.port .controller with reservation := none } else s) .controller 0x35 code .empty))
    (∀ n l, 8 ≤ n ∨ l = .unnamed → refused n l .refusedRange) ∧
    ∀ (d : DistrictNo) (l : Level), cond = true →
      (s.port .controller).reservation ≠ some (.district d (s.district d).version) → refused d.val (.named l) .refusedLost)

/-- SET SEASON (R70, R68, R51): the flag set, every effective level by R68, the LEVEL notice set, the number of districts changed
answered; declared levels and versions unchanged; reservations lost on the changed districts alone. ALREADY for the flag as it
stands. R74: the districts that go to BAN take their FIRE holds, those that leave it lose them. R73: the switches of the changed
districts have their profiles compared (R97) and their sequences evaluated again (R114). -/
def Obligations.SetSeasonSets : Prop :=
  ∀ (s : State) (f : Season), s.ready .controller → s.levelsAgree →
    (s.fsu.season = f → exec (.setSeason .controller (.named f)) s
      = .next (State.arbitrate (s.answer .controller 0x36 .already (.season f 0)))) ∧
    (s.fsu.season ≠ f →
      ∃ t : State, exec (.setSeason .controller (.named f)) s
          = .next (State.arbitrate (t.answer .controller 0x36 .done (.season f
              (allDistricts.filter fun d => (t.district d).effective != (s.district d).effective).length)))
        ∧ t.fsu.season = f ∧ t.fsu.tfb = s.fsu.tfb ∧ t.fsu.groups = s.fsu.groups
        ∧ (∀ d, (t.district d).declared = (s.district d).declared ∧ (t.district d).version = (s.district d).version
            ∧ (t.district d).effective = levelGiven f s.fsu.tfb (s.district d).declared)
        ∧ t.noticed .level
        ∧ (∀ q d v, (t.port q).reservation = some (.district d v) →
            (t.district d).effective = (s.district d).effective)
        ∧ (∀ q d v, (s.port q).reservation = some (.district d v) →
            (t.district d).effective = (s.district d).effective → (t.port q).reservation = some (.district d v))
        ∧ t.fmu = s.fmu ∧ t.svu = s.svu
        ∧ (s.settled → s.emptySlots 8 → s.fireHoldsFollow t) ∧ s.levelChangeFollows t)

/-- TFB_EDGE (R71, R68): on assertion every district stands at BAN, on release at the level its declaration and the season give;
no declared level and no version changes; the LEVEL notice is set when a level changed, and with none changed only the line and
the FSU's state of it change. R74, R35: a district that goes to BAN with a present zone takes its FIRE hold, one that leaves BAN
loses it, and the other holds stand. R73: the switches of the changed districts have their profiles compared (R97) and their
sequences evaluated again (R114). A repeated edge changes nothing (log entry 7), and one taken while HALTED or in reset the line
alone. R74 for one district that stands at BAN with a present zone and no FIRE hold while a slot is empty: the hold stands in the
lowest empty slot and its handle in the record. -/
def Obligations.FireBanLineMovesTheLevels : Prop :=
  (∀ (s : State) (b : Bool),
    (s.lines.tfb = b → exec (.tfbEdge b) s = .next s) ∧
    (s.live = false → exec (.tfbEdge b) s = .next { s with lines := { s.lines with tfb := b } }) ∧
    (s.working → s.levelsAgree → s.lines.tfb ≠ b →
      ∃ t : State, exec (.tfbEdge b) s = .next t.arbitrate
        ∧ t.lines = { s.lines with tfb := b } ∧ t.fsu.tfb = b ∧ t.fsu.season = s.fsu.season ∧ t.fsu.groups = s.fsu.groups
        ∧ (∀ d, (t.district d).declared = (s.district d).declared ∧ (t.district d).version = (s.district d).version
            ∧ (t.district d).effective = levelGiven s.fsu.season b (s.district d).declared)
        ∧ ((∃ d, (t.district d).effective ≠ (s.district d).effective) → t.noticed .level)
        ∧ ((∀ d, (t.district d).effective = (s.district d).effective) →
            t = { s with lines := { s.lines with tfb := b }, fsu.tfb := b })
        ∧ (s.settled → s.emptySlots 8 → s.fireHoldsFollow t) ∧ s.levelChangeFollows t)) ∧
  (∀ (s : State) (d : DistrictNo) (i : SlotNo), (s.district d).effective = .ban → s.districtZones d ≠ 0 →
    (s.district d).fire = none → s.holdAt i = none → (∀ j, j < i → (s.holdAt j).isSome = true) →
    ((s.adjustFire d).district d).fire = some ⟨i, (s.slot i).useCount⟩ ∧
    (s.adjustFire d).holdAt i = some
      { kind := .noReclose, strength := .plain, origin := .fire, scope := s.districtZones d, tag := none, expiry := none
        reason := 0, cause := some (.district d), placed := s.svu.minute, version := 0 } ∧
    (∀ j, j ≠ i → (s.adjustFire d).slot j = s.slot j) ∧
    (s.adjustFire d).htu.counts = s.htu.counts.modify (· + 1) .fire ∧ (s.adjustFire d).noticed .hold)

/-! ## Switch operations and the field link (chapter 5) -/

/-- OPERATE SWITCH (R90, R91, R115, R116): a request that passes its checks stands in the slot with the class of its port, merged
with an OPEN that stood there, and a CLOSE that stood there has ended PRE-EMPTED; an OPEN accepted for a sequence that owes a
reclose cancels it, one that finds the switch OPEN ends ALREADY after the CLOSE it pre-empts and settles the sequence (R115; log
entry 42 where RECLOSING(n) is not cancelled), a CLOSE accepted in DEAD_TIME takes over; a request met already, blocked, of a
FAILED switch or of an occupied slot is answered so and no slot is filled; a step under way with its outcome undecided is
disturbed (R141). First (R91 checks 1 to 3): a number or action out of range, a switch not configured, and the switch under hunt
test, whose OPEN is ALREADY met and whose CLOSE is refused. An ALREADY carries no data (log entry 13); a cancelled sequence keeps
no trip class (log entry 20). -/
def Obligations.OperateSwitchFillsTheSlot : Prop :=
  (∀ (s : State) (p : Port) (k : SwitchNo) (a : SwitchAction), s.ready p → s.configured k = true → s.underTest k = false →
    let sent := exec (.operateSwitch p k.val (.named a)) s
    let target : Position := match a with | .toOpen => .opened | .toClose => .closed
    let u : State := if s.ehu.huntCase.step.any (·.outcome.isNone) then { s with ehu.disturbed := true } else s
    let met := (s.runtime k).inFlight = none ∧ (s.runtime k).position = target
    let cancelled := { s.seq k with cancel := true, marker := none, deadTimer := .stopped, tripClass := none }
    let opened (q : Sequence) (cancel : Bool) : Sequence := match q.state with
      | .opened | .lockout | .outOfService => q
      | .reclosing _ => if cancel then q.settled .opened else q
      | .deadTime _ | .closed | .reclaim _ | .uncertain => q.settled .opened
    let allowed := a = .toOpen ∨ ((s.runtime k).condition ≠ .failed ∧ s.closePermitted k .deliberate = true)
    (allowed → ¬ met → (s.runtime k).slot = none →
      ∃ t : State, sent = .next (State.arbitrate (t.answer p 0x40 .accepted (.operation k a)))
        ∧ (t.runtime k).slot = some ⟨a, .ofPort p⟩ ∧ (∀ j, j ≠ k → (t.runtime j).slot = (s.runtime j).slot)
        ∧ (∀ j, (t.runtime j).position = (s.runtime j).position ∧ (t.runtime j).inFlight = (s.runtime j).inFlight
            ∧ (t.runtime j).condition = (s.runtime j).condition ∧ (t.runtime j).lastResult = (s.runtime j).lastResult)
        ∧ ((a = .toOpen → (s.seq k).state.owes = true → t.seq k = cancelled)
            ∧ (∀ n, a = .toClose → (s.seq k).state = .deadTime n → (t.seq k).state = .opened ∧ (t.seq k).shotsUsed = 0
                ∧ (t.seq k).deadTimer = .stopped ∧ (t.seq k).marker = none)
            ∧ ((s.seq k).state.owes = false → t.seq k = s.seq k) ∧ ∀ j, j ≠ k → t.seq j = s.seq j)
        ∧ t.ehu.disturbed = u.ehu.disturbed ∧ ((s.seq k).state.owes = false → t.ehu = u.ehu)
        ∧ t.fmu = s.fmu ∧ t.htu = s.htu ∧ t.fsu = s.fsu ∧ t.svu = s.svu ∧ t.rqi = s.rqi ∧ t.lines = s.lines) ∧
    (∀ cs, a = .toOpen → (s.runtime k).slot = some ⟨.toOpen, cs⟩ → (s.seq k).state.owes = false →
      sent = .next (State.arbitrate (State.answer
        (u.setRuntime k { s.runtime k with slot := some ⟨.toOpen, cs.union (.ofPort p)⟩ }) p 0x40 .accepted
        (.operation k a)))) ∧
    (∀ cs, a = .toOpen → (s.runtime k).slot = some ⟨.toOpen, cs⟩ → (s.seq k).state.owes = true →
      ∃ t : State, sent = .next (State.arbitrate (t.answer p 0x40 .accepted (.operation k a)))
        ∧ t.sou = (s.setRuntime k { s.runtime k with slot := some ⟨.toOpen, cs.union (.ofPort p)⟩ }).sou
        ∧ t.seq k = cancelled ∧ (∀ j, j ≠ k → t.seq j = s.seq j) ∧ t.ehu = u.ehu
        ∧ t.fmu = s.fmu ∧ t.htu = s.htu ∧ t.fsu = s.fsu ∧ t.svu = s.svu ∧ t.rqi = s.rqi ∧ t.lines = s.lines) ∧
    (∀ cs, a = .toOpen → met → (s.runtime k).slot = some ⟨.toClose, cs⟩ →
      ∃ t : State, sent = .next (State.arbitrate (t.answer p 0x40 .already .empty))
        ∧ (t.runtime k).slot = none ∧ (t.runtime k).lastResult = some ⟨.toOpen, .ofPort p, .already⟩
        ∧ t.noticed .operation ∧ t.ehu.disturbed = u.ehu.disturbed
        ∧ t.seq k = opened (s.seq k) ((s.seq k).cancel || cs.reclose) ∧ (∀ j, j ≠ k → t.seq j = s.seq j)
        ∧ (∀ j, (t.runtime j).position = (s.runtime j).position ∧ (t.runtime j).inFlight = (s.runtime j).inFlight
            ∧ (j ≠ k → (t.runtime j).slot = (s.runtime j).slot))
        ∧ t.fmu = s.fmu ∧ t.htu = s.htu ∧ t.fsu = s.fsu ∧ t.svu = s.svu ∧ t.lines = s.lines) ∧
    (∀ cs, a = .toOpen → ¬ met → (s.runtime k).slot = some ⟨.toClose, cs⟩ →
      ∃ t : State, sent = .next (State.arbitrate (t.answer p 0x40 .accepted (.operation k a)))
        ∧ (t.runtime k).slot = some ⟨.toOpen, .ofPort p⟩ ∧ (t.runtime k).lastResult = some ⟨.toClose, cs, .preEmpted⟩
        ∧ t.ehu.disturbed = u.ehu.disturbed
        ∧ ((s.seq k).state.owes = true → t.seq k = { cancelled with note := (t.seq k).note })
        ∧ ((s.seq k).state.owes = false → t.seq k = s.seq k) ∧ (∀ j, j ≠ k → t.seq j = s.seq j)
        ∧ t.noticed .operation ∧ t.fmu = s.fmu ∧ t.htu = s.htu ∧ t.fsu = s.fsu ∧ t.svu = s.svu) ∧
    (allowed → met → (s.runtime k).slot = none →
      ∃ t : State, sent = .next (State.arbitrate (t.answer p 0x40 .already .empty))
        ∧ (t.runtime k).lastResult = some ⟨a, .ofPort p, .already⟩ ∧ (t.runtime k).slot = none ∧ t.noticed .operation
        ∧ t.ehu.disturbed = u.ehu.disturbed
        ∧ t.seq k = (match a with | .toOpen => opened (s.seq k) (s.seq k).cancel | .toClose => s.seq k)
        ∧ (∀ j, j ≠ k → t.seq j = s.seq j)
        ∧ t.fmu = s.fmu ∧ t.htu = s.htu ∧ t.fsu = s.fsu ∧ t.svu = s.svu) ∧
    (a = .toClose →
      ((s.runtime k).condition = .failed → sent = .next (State.arbitrate (u.answer p 0x40 .refusedFailed .empty))) ∧
      ((s.runtime k).condition ≠ .failed → s.closePermitted k .deliberate = false →
        sent = .next (State.arbitrate (u.answer p 0x40 .refusedHeld .empty))) ∧
      (allowed → (s.runtime k).slot.isSome = true →
        sent = .next (State.arbitrate (u.answer p 0x40 .refusedBusy .empty))))) ∧
  (∀ (s : State) (p : Port), s.ready p →
    (∀ n a, 16 ≤ n ∨ a = .unnamed →
      exec (.operateSwitch p n a) s = .next (State.arbitrate (s.answer p 0x40 .refusedRange .empty))) ∧
    (∀ (k : SwitchNo) a, s.configured k = false →
      exec (.operateSwitch p k.val (.named a)) s = .next (State.arbitrate (s.answer p 0x40 .refusedState .empty))) ∧
    (∀ k : SwitchNo, s.configured k = true → s.underTest k = true →
      exec (.operateSwitch p k.val (.named .toOpen)) s = .next (State.arbitrate (s.answer p 0x40 .already .empty)) ∧
      exec (.operateSwitch p k.val (.named .toClose)) s = .next (State.arbitrate (s.answer p 0x40 .refusedBusy .empty))))

/-- CLEAR SWITCH FAILURE (R93) and RETRY PROFILE (R99): a FAILED switch returns to SOUND, and in SERVICE a poll is wanted of it; a
SILENT one returns to SOUND and the request is ALREADY met; a push is wanted and the profile state PENDING. An ALREADY of RETRY
PROFILE carries the switch number, one of CLEAR SWITCH FAILURE nothing (log entry 13). -/
def Obligations.FailureClearedAndProfileRetried : Prop :=
  ∀ (s : State) (p : Port) (k : SwitchNo), s.ready p →
    (s.configured k = false →
      exec (.clearSwitchFailure p k.val) s = .next (State.arbitrate (s.answer p 0x41 .refusedState .empty)) ∧
      exec (.retryProfile p k.val) s = .next (State.arbitrate (s.answer p 0x42 .refusedState .empty))) ∧
    (s.configured k = true →
      (∃ t : State, exec (.clearSwitchFailure p k.val) s = .next (State.arbitrate (t.answer p 0x41
            (if (s.runtime k).condition = .failed then .done else .already) .empty))
        ∧ (t.runtime k).condition = .sound ∧ (∀ j, j ≠ k → (t.runtime j).condition = (s.runtime j).condition)
        ∧ ((s.runtime k).condition = .failed → s.fmu.mode = .service → (t.runtime k).pollWanted.isSome = true)
        ∧ (∀ j, (t.runtime j).slot = (s.runtime j).slot ∧ (t.runtime j).inFlight = (s.runtime j).inFlight
            ∧ (t.runtime j).position = (s.runtime j).position)
        ∧ ((s.runtime k).condition = .sound → t = s)
        ∧ t.fmu = s.fmu ∧ t.htu = s.htu ∧ t.fsu = s.fsu ∧ t.rcs = s.rcs ∧ t.svu = s.svu ∧ t.rqi = s.rqi) ∧
      ((s.runtime k).condition = .failed →
        exec (.retryProfile p k.val) s = .next (State.arbitrate (s.answer p 0x42 .refusedFailed .empty))) ∧
      ((s.runtime k).condition ≠ .failed → s.requiredProfile k = none →
        exec (.retryProfile p k.val) s = .next (State.arbitrate (s.answer p 0x42 .refusedState .empty))) ∧
      (∀ code, (s.runtime k).condition ≠ .failed → s.requiredProfile k = some code →
        ((s.runtime k).profileState = .confirmed → (s.runtime k).confirmed = some code →
          exec (.retryProfile p k.val) s
            = .next (State.arbitrate (s.answer p 0x42 .already (.switchNumber k)))) ∧
        ((s.runtime k).profileState ≠ .confirmed ∨ (s.runtime k).confirmed ≠ some code →
          exec (.retryProfile p k.val) s = .next (State.arbitrate (State.answer
            (if (s.runtime k).pushWanted || s.pushAwaited k then s
             else s.setRuntime k { s.runtime k with pushWanted := true, profileState := .pending })
            p 0x42 .accepted (.switchNumber k)))))) ∧
    (∀ n, 16 ≤ n →
      exec (.clearSwitchFailure p n) s = .next (State.arbitrate (s.answer p 0x41 .refusedRange .empty)) ∧
      exec (.retryProfile p n) s = .next (State.arbitrate (s.answer p 0x42 .refusedRange .empty)))

/-- SET LINK SETTINGS (R103): the carried fields written, the others kept; a poll timer that runs is restarted when its interval
changes (log entry 30); a value out of range or finer than its unit refuses the request whole; ALREADY when nothing would change.
-/
def Obligations.SetLinkSettingsWrites : Prop :=
  ∀ (s : State) (f : LinkFields), s.ready .controller →
    let amount (o : Option Amount) (lo hi : Nat) := ∀ a, o = some a → a.finer = false ∧ lo ≤ a.units ∧ a.units ≤ hi
    let level (o : Option Nat) := ∀ n, o = some n → n ≤ 3
    let inRange := amount f.answerTime 2 50 ∧ amount f.pollInterval 10 3600 ∧ amount f.headInterval 2 60
      ∧ level f.reclose ∧ level f.controller ∧ level f.maintenance ∧ level f.hunt ∧ level f.profile ∧ level f.poll
    let old := s.sou.link
    let new : LinkSettings :=
      { answerTime := match f.answerTime with | some a => a.units | none => old.answerTime
        pollInterval := match f.pollInterval with | some a => a.units | none => old.pollInterval
        headInterval := match f.headInterval with | some a => a.units | none => old.headInterval
        reclose := match f.reclose with | some n => n | none => old.reclose
        controller := match f.controller with | some n => n | none => old.controller
        maintenance := match f.maintenance with | some n => n | none => old.maintenance
        hunt := match f.hunt with | some n => n | none => old.hunt
        profile := match f.profile with | some n => n | none => old.profile
        poll := match f.poll with | some n => n | none => old.poll }
    (¬ inRange → exec (.setLinkSettings .controller f) s
      = .next (State.arbitrate (s.answer .controller 0x43 .refusedRange .empty))) ∧
    (inRange → new = old → exec (.setLinkSettings .controller f) s
      = .next (State.arbitrate (s.answer .controller 0x43 .already (.link new)))) ∧
    (inRange → new ≠ old → exec (.setLinkSettings .controller f) s
      = .next (State.arbitrate (State.answer
          { s with
            sou.link := new
            sou.routineTimer := if s.sou.routineTimer ≠ .stopped ∧ new.pollInterval ≠ old.pollInterval then
              .running (10 * new.pollInterval) (10 * new.pollInterval) else s.sou.routineTimer
            sou.headTimer := if s.sou.headTimer ≠ .stopped ∧ new.headInterval ≠ old.headInterval then
              .running (10 * new.headInterval) (10 * new.headInterval) else s.sou.headTimer }
          .controller 0x43 .done (.link new))))

/-- An ANSWER from a switch (R83, R84, R85, R98): awaited for an OPERATE, accepted, the operation awaits its move and the
mechanism timer runs; refused, the operation ends, the reclose sequence of its switch follows (R112, R115), its trip class and
marks gone with its state (log entry 20), and a step that waited for it ends (R140, R144, R145); awaited for a SET PROFILE, the
code is confirmed, or the profile state is REFUSED; awaited for nothing, a switch that was not SILENT is left as it was. -/
def Obligations.AnswerFrameTaken : Prop :=
  ∀ (s : State) (address : Byte) (k : SwitchNo) (accepted : Bool) (reason : Byte), s.working → s.ownerOf address = some k →
    ∃ t : State, exec (.answerFrame address accepted reason) s = .next t.arbitrate
      ∧ t.fsu = s.fsu ∧ t.svu = s.svu ∧ t.lines = s.lines
      ∧ (∀ j, (t.runtime j).position = (s.runtime j).position)
      ∧ (t.runtime k).condition ≠ .silent
      ∧ (s.awaitedFrom k = none → (s.runtime k).condition ≠ .silent → t = s)
      ∧ (∀ f c, s.awaitedFrom k = some .operate → (s.runtime k).inFlight = some f → s.config k = some c →
          accepted = true → t.sou.awaited = none ∧ t.sou.answerTimer = .stopped
            ∧ (t.runtime k).inFlight = some ⟨f.request, .awaitMove⟩
            ∧ (t.runtime k).mechanism = .running c.mechanism c.mechanism
            ∧ t.rcs = s.rcs ∧ t.rqi = s.rqi ∧ t.fmu = s.fmu ∧ t.htu = s.htu)
      ∧ (∀ f, s.awaitedFrom k = some .operate → (s.runtime k).inFlight = some f → f.request.classes.hunt = false →
          accepted = false → t.sou.awaited = none ∧ t.sou.answerTimer = .stopped ∧ (t.runtime k).inFlight = none
            ∧ (t.runtime k).mechanism = .stopped
            ∧ (t.runtime k).lastResult = some ⟨f.request.action, f.request.classes, .refusedByUnit reason⟩
            ∧ t.noticed .operation ∧ t.fmu = s.fmu ∧ t.htu = s.htu)
      ∧ (∀ f, s.awaitedFrom k = some .operate → (s.runtime k).inFlight = some f → accepted = false →
          (f.request.classes.hunt = false →
            s.sequenceFollows t k f.request (.refusedByUnit reason) (s.runtime k).position none) ∧
          s.huntFollows t k f.request (.refusedByUnit reason) (s.runtime k).position)
      ∧ (∀ code, s.awaitedFrom k = some (.setProfile code) → t.sou.awaited = none ∧ t.sou.answerTimer = .stopped
          ∧ t.rcs = s.rcs ∧ t.fmu = s.fmu ∧ t.htu = s.htu
          ∧ (accepted = true → (t.runtime k).confirmed = some code ∧ t.rqi = s.rqi
              ∧ (s.requiredProfile k = some code → (t.runtime k).profileState = .confirmed)
              ∧ (∀ d, s.requiredProfile k = some d → d ≠ code →
                  (t.runtime k).profileState = .pending ∧ (t.runtime k).pushWanted = true))
          ∧ (accepted = false → (t.runtime k).profileState = .refused ∧ t.noticed .profile
              ∧ (t.runtime k).confirmed = (s.runtime k).confirmed))

/-- A STATE from a switch (R83, R86, R88, R101, R102): the position reported is held; an awaited poll is answered; a residual
count of a sensing switch is normalised, a half up, and kept with the minute; an operation in AWAIT MOVE ends, DONE when the
position is its target, and the reclose sequence of its switch (R112, R115, R116) and the step of the hunt that waited for it
(R140, R144, R145) follow; by log entry 20, the model's choice, the trip class and the marks of the sequence go with its state,
and a report of CLOSED in DEAD_TIME(n) gives RECLAIM(n) with the cancel mark set too; a push that failed is wanted again after an
answered poll. -/
def Obligations.StateFrameTaken : Prop :=
  ∀ (s : State) (address : Byte) (k : SwitchNo) (c : SwitchConfig) (pole : Pole) (raw : Option (BitVec 16)), s.working →
    s.ownerOf address = some k → s.config k = some c →
    let retried := (∃ cls, s.awaitedFrom k = some (.poll cls)) ∧ (s.requiredProfile k).isSome = true
      ∧ ((s.runtime k).profileState = .refused ∨ (s.runtime k).profileState = .noAnswer)
    ∃ t : State, exec (.stateFrame address pole raw) s = .next t.arbitrate
      ∧ (t.runtime k).position = (match pole with | .opened => .opened | .closed => .closed)
      ∧ (∀ j, j ≠ k → (t.runtime j).position = (s.runtime j).position ∧ (t.runtime j).inFlight = (s.runtime j).inFlight)
      ∧ (t.runtime k).condition ≠ .silent
      ∧ t.sou.awaited = (match s.awaitedFrom k with | some (.poll _) => none | _ => s.sou.awaited)
      ∧ (∀ n : BitVec 16, raw = some n → c.sensing = true →
          let v := (2 * n.toNat * c.multiplier + 10 ^ c.shift) / (2 * 10 ^ c.shift)
          (t.runtime k).lastResidual
            = some (if v ≤ 65535 then ⟨v, .good, s.svu.minute⟩ else ⟨65535, .over, s.svu.minute⟩))
      ∧ (raw = none ∨ c.sensing = false → (t.runtime k).lastResidual = (s.runtime k).lastResidual)
      ∧ (∀ q, (s.runtime k).inFlight = some ⟨q, .awaitMove⟩ → (t.runtime k).inFlight = none
          ∧ (t.runtime k).mechanism = .stopped ∧ t.noticed .operation
          ∧ (q.classes.hunt = false → (q.action = .toOpen ↔ pole = .opened) →
              (t.runtime k).lastResult = some ⟨q.action, q.classes, .done⟩)
          ∧ (¬ (q.action = .toOpen ↔ pole = .opened) → (t.runtime k).condition = .failed))
      ∧ (∀ q, (s.runtime k).inFlight = some ⟨q, .awaitMove⟩ →
          let now := match pole with | .opened => Position.opened | .closed => .closed
          let res : OpResult := if (q.action = .toOpen ↔ pole = .opened) then .done else .noMove
          (q.classes.hunt = false ∨ (q.action = .toOpen ∧ res = .done) →
            (∀ cs, res = .noMove → (s.runtime k).slot = some ⟨.toClose, cs⟩ → cs.reclose = false ∧ cs.hunt = false) →
            s.sequenceFollows t k q res now (some pole)) ∧
          s.huntFollows t k q res now)
      ∧ (retried → (t.runtime k).profileState = .pending ∧ (t.runtime k).pushWanted = true)
      ∧ (¬ retried → (t.runtime k).profileState = (s.runtime k).profileState
          ∧ (t.runtime k).pushWanted = (s.runtime k).pushWanted)
      ∧ (∀ f, (s.runtime k).inFlight = some f → f.phase = .awaitAnswer → (t.runtime k).inFlight = some f)
      ∧ t.fsu = s.fsu ∧ t.svu = s.svu ∧ t.lines = s.lines

/-- R107, R106: a STATE of a switch with no operation in AWAIT MOVE moves its sequence by the table: CLOSED from UNCERTAIN, OPEN
or LOCKOUT and OPEN from UNCERTAIN, CLOSED or RECLAIM(n) settle it with shots used 0; CLOSED in DEAD_TIME(n) begins RECLAIM(n),
the cancel mark set or not (log entry 20); every other report leaves it. The other sequences stand, and the EHU is told the number
running where it changed. -/
def Obligations.StateReportMovesTheSequence : Prop :=
  ∀ (s : State) (address : Byte) (k : SwitchNo) (pole : Pole) (raw : Option (BitVec 16)), s.working →
    s.ownerOf address = some k → (∀ q, (s.runtime k).inFlight ≠ some ⟨q, .awaitMove⟩) →
    let q := s.seq k
    let moved (st : SeqState) (shots : Nat) (reclaim : Timer) : Sequence :=
      { q with
        state := st, shotsUsed := shots, deadTimer := .stopped, reclaimTimer := reclaim, tripClass := none, cancel := false
        note := none, marker := none }
    ∃ t : State, exec (.stateFrame address pole raw) s = .next t.arbitrate
      ∧ (∀ j, j ≠ k → t.seq j = s.seq j)
      ∧ (match q.state, pole with
          | .uncertain, .closed | .opened, .closed | .lockout, .closed => t.seq k = moved .closed 0 .stopped
          | .uncertain, .opened | .closed, .opened | .reclaim _, .opened => t.seq k = moved .opened 0 .stopped
          | .deadTime n, .closed => t.seq k = moved (.reclaim n) n (t.seq k).reclaimTimer ∧
              ∀ g, s.effectiveGroup k = some g → (t.seq k).reclaimTimer = .running (10 * g.reclaim) (10 * g.reclaim)
          | _, _ => t.seq k = q)
      ∧ t.ehu.runningCount =
          (match q.state, pole with | .reclaim _, .opened | .deadTime _, .closed => t.runningSequences | _, _ => s.ehu.runningCount)

/-- R121, R122, R124, R132, R133, R141, R148: a residual count in a STATE of a switch with no operation in AWAIT MOVE, judged by
the thresholds handed over. Of the head, in SERVICE: the flag and the last report; IDLE goes to WATCHING with a fresh confirm time
at a flag that sets, WATCHING to IDLE at one that clears, and HUNTING stands; a clearing marks the listen window, and concludes a
case suspended for another cause than a trip SELF-CLEARED; in OBSERVING it is the deciding report. A confirmed watch that
auto-start retries at the report (R126) has the attempt's statements. Of another sensing switch, CLOSED in LOCATING with the
window running: ABOVE takes the candidates that are not below it out and BELOW those that are, never the last, when INCONSISTENT
is noted. -/
def Obligations.ResidualReportsMoveTheWatchAndTheCandidates : Prop :=
  ∀ (s : State) (address : Byte) (k : SwitchNo) (cfg : SwitchConfig) (pole : Pole) (n : BitVec 16), s.working →
    s.ownerOf address = some k → s.config k = some cfg → cfg.sensing = true →
    (∀ q, (s.runtime k).inFlight ≠ some ⟨q, .awaitMove⟩) →
    let w := s.ehu.watch
    let c := s.ehu.huntCase
    let raw := (2 * n.toNat * cfg.multiplier + 10 ^ cfg.shift) / (2 * 10 ^ cfg.shift)
    let v := min 65535 raw
    let quality : Quality := if raw ≤ 65535 then .good else .over
    let cls : ReportClass := if s.ehu.thresholds.pickup ≤ v then .above
      else if 100 * v ≤ s.ehu.thresholds.pickup * s.ehu.thresholds.dropoff then .below else .band
    let flag : Bool := match cls with | .above => true | .below => false | .band => w.episode
    let seen : Watch := { w with episode := flag, lastHead := some ⟨v, quality, cls, s.svu.minute⟩ }
    ∃ t : State, exec (.stateFrame address pole (some n)) s = .next t.arbitrate ∧
      (k = 0 →
        (s.fmu.mode = .commissioning → t.ehu.watch = w) ∧
        (∀ j o, c.step = some ⟨j, .observing, o⟩ → t.ehu.deciding = some cls) ∧
        (s.fmu.mode = .service →
          ¬ (w.state = .watching ∧ w.confirmed = true ∧ w.episode = true ∧ flag = true ∧ s.ehu.params.autoStart = true) →
          t.ehu.watch =
            (if w.state = .idle ∧ w.episode = false ∧ flag = true then
              { seen with
                state := .watching, confirmed := false
                confirmTimer := .running (10 * s.ehu.params.confirm) (10 * s.ehu.params.confirm) }
            else if w.state = .watching ∧ w.episode = true ∧ flag = false then
              if w.confirmed = true then { seen with state := .idle, confirmed := false, lastRefusal := none }
              else { seen with state := .idle, confirmTimer := .stopped }
            else seen)
          ∧ (w.state = .watching → w.confirmed = true → w.episode = true → flag = false →
              t.noticed .hunt ∧ t.ehu.huntCase.startDeferred = false)
          ∧ t.ehu.huntCase.candidates = c.candidates ∧ t.ehu.huntCase.cleared = c.cleared) ∧
        (s.fmu.mode = .service → w.episode = true → flag = false →
          (c.state = .locating → t.ehu.huntCase.state = .locating ∧ t.ehu.huntCase.clearedInWindow = true) ∧
          (c.state = .suspended → (∀ p, c.suspension = some p → p.kind ≠ .trip) →
            t.ehu.huntCase.state = .concluded ∧ t.ehu.huntCase.result = some .selfCleared ∧ t.noticed .hunt))) ∧
      (k ≠ 0 → t.ehu.watch = w ∧
        let out (j : SwitchNo) : Bool := match cls with
          | .above => !s.candidateBelow k j | .below => s.candidateBelow k j | .band => false
        let left := c.candidates.filter fun j => !out j
        (c.state = .locating → c.listen ≠ .stopped → pole = .closed → t.ehu.huntCase =
          (if cls = .band then c
          else if left = [] then { c with inconsistent := true }
          else { c with candidates := left, cleared := c.cleared ++ c.candidates.filter out })) ∧
        ((c.state = .locating → c.listen = .stopped ∨ pole = .opened) →
          (c.state = .suspended → ∀ p, c.suspension = some p → p.kind ≠ .trip) →
          t.ehu.huntCase.candidates = c.candidates ∧ t.ehu.huntCase.cleared = c.cleared))

/-- A TRIP from a switch (R83, R87, R108): the position is OPEN, an operation in AWAIT MOVE ends DONE; a CLOSED or RECLAIM(n)
sequence, its switch with nothing in flight or an operation in AWAIT ANSWER, which stays in flight (R87), or one that a CLOSE in
AWAIT MOVE ending DONE brings there (R112, R116), enters DEAD_TIME(n+1) with its marker and the dead time of that shot when every
check of R108 passes, and LOCKOUT with the reason of the first that fails otherwise; the TRIP notice is set. The order of those
checks is in DeadTimeAndReclaimExpire. An OPEN in AWAIT MOVE that so ends DONE settles a sequence OPEN (R115), its marks and trip
class gone (log entry 20), but leaves RECLOSING(n) with the cancel mark clear as it is (the model's choice, log entry 42); of
class HUNT it takes its step to SETTLING (R140). R109, with no operation in AWAIT MOVE: RECLOSING(n) notes the trip while the
reclose awaits its answer, its cancel mark clear, and the other states stand. R135, R146, R147: a case in LOCATING is suspended
for TRIP, and resumed at once with no sequence running; one in STEPPING is disturbed and owes the suspension, unless it owes
another; one that is idle, concluded or suspended for another cause stands. -/
def Obligations.TripFrameTaken : Prop :=
  ∀ (s : State) (address : Byte) (k : SwitchNo) (fault : FaultClass), s.working → s.ownerOf address = some k →
    ∃ t : State, exec (.tripFrame address fault) s = .next t.arbitrate
      ∧ (t.runtime k).position = .opened ∧ (∀ j, j ≠ k → (t.runtime j).position = (s.runtime j).position)
      ∧ (t.runtime k).condition ≠ .silent
      ∧ (∀ q, (s.runtime k).inFlight = some ⟨q, .awaitMove⟩ → q.classes.hunt = false →
          (t.runtime k).inFlight = none ∧ (t.runtime k).lastResult = some ⟨q.action, q.classes, .done⟩)
      ∧ (∀ f, (s.runtime k).inFlight = some f → f.phase = .awaitAnswer → (t.runtime k).inFlight = some f)
      ∧ ((s.seq k).state = .uncertain → (∀ q, (s.runtime k).inFlight ≠ some ⟨q, .awaitMove⟩) →
          (t.seq k).state = .opened ∧ t.noticed .trip)
      ∧ (∀ q, (s.runtime k).inFlight = some ⟨q, .awaitMove⟩ → q.action = .toOpen →
          (match (s.seq k).state with
            | .closed | .reclaim _ | .uncertain | .deadTime _ => t.seq k = (s.seq k).settled .opened
            | .reclosing _ => t.seq k = if (s.seq k).cancel = true then (s.seq k).settled .opened else s.seq k
            | .opened | .lockout | .outOfService => t.seq k = s.seq k) ∧
          (∀ o, k ≠ 0 → s.ehu.huntCase.state = .stepping → q.classes.hunt = true →
            s.ehu.huntCase.step = some ⟨k, .opening, o⟩ →
              t.ehu.huntCase = { s.ehu.huntCase with step := some ⟨k, .settling, none⟩ }
              ∧ t.ehu.settleTimer = .running (10 * s.ehu.params.settle) (10 * s.ehu.params.settle)
              ∧ t.ehu.disturbed = true))
      ∧ (∀ used,
          (((∀ q, (s.runtime k).inFlight ≠ some ⟨q, .awaitMove⟩) ∧
              ((s.seq k).state = .reclaim used ∨ ((s.seq k).state = .closed ∧ used = 0))) ∨
            ∃ q, (s.runtime k).inFlight = some ⟨q, .awaitMove⟩ ∧ q.action = .toClose ∧ q.classes.hunt = false ∧
              ((q.classes.reclose = true ∧ (s.seq k).state = .reclosing used ∧ (s.seq k).cancel = false) ∨
                (q.classes.reclose = false ∧ used = 0
                  ∧ ((s.seq k).state = .opened ∨ (s.seq k).state = .lockout ∨ (s.seq k).state = .uncertain)))) →
          let r := s.runtime k
          let u := s.setRuntime k
            { r with
              position := .opened, inFlight := none, mechanism := .stopped
              condition := if r.condition = .silent then .sound else r.condition }
          t.noticed .trip
            ∧ match u.recloseCheck k used fault with
              | none => (t.seq k).state = .deadTime (used + 1) ∧ (t.seq k).marker = some (used + 1)
                  ∧ (t.seq k).tripClass = some fault ∧ (t.seq k).shotsUsed = used ∧ (t.seq k).reclaimTimer = .stopped
                  ∧ ∀ g, s.effectiveGroup k = some g →
                      let time := if used = 0 then g.dead1 else if used = 1 then g.dead2 else g.dead3
                      (t.seq k).deadTimer = .running time time
              | some r => (t.seq k).state = .lockout ∧ (t.seq k).lastLockout = some ⟨r, s.svu.minute⟩
                  ∧ (t.seq k).deadTimer = .stopped ∧ (t.seq k).marker = none ∧ t.noticed .lockout)
      ∧ ((∀ q, (s.runtime k).inFlight ≠ some ⟨q, .awaitMove⟩) →
          let q := s.seq k
          let c := s.ehu.huntCase
          let noting := q.cancel = false ∧ ∃ f, (s.runtime k).inFlight = some f ∧ f.phase = .awaitAnswer
            ∧ f.request.action = .toClose ∧ f.request.classes.reclose = true
          (∀ j, j ≠ k → t.seq j = s.seq j)
          ∧ (∀ n, q.state = .reclosing n → noting → t.seq k = { q with note := some fault } ∧ t.noticed .trip)
          ∧ (∀ n, q.state = .reclosing n → ¬ noting → t.seq k = q)
          ∧ ((∃ n, q.state = .deadTime n) ∨ q.state = .opened ∨ q.state = .lockout ∨ q.state = .outOfService → t.seq k = q)
          ∧ t.ehu.runningCount = (if (t.seq k).state ≠ q.state ∧ (q.state.running = true ∨ (t.seq k).state.running = true)
              then t.runningSequences else s.ehu.runningCount)
          ∧ (c.state = .locating → t.noticed .hunt ∧ t.ehu.huntCase =
              if t.ehu.runningCount = 0 then { c with
                suspension := none, clearedInWindow := false
                listen := .running (10 * s.ehu.params.listen) (10 * s.ehu.params.listen) }
              else { c with state := .suspended, listen := .stopped, suspension := some ⟨.trip, k⟩ })
          ∧ (c.state = .stepping → t.ehu.huntCase = c
              ∧ t.ehu.pendingCause = (match s.ehu.pendingCause with | some p => some p | none => some ⟨.trip, k⟩)
              ∧ ∀ st, c.step = some st →
                  t.ehu.disturbed = (if st.outcome = none then true else s.ehu.disturbed))
          ∧ (c.state = .idle ∨ c.state = .concluded
              ∨ (c.state = .suspended ∧ ∀ p, c.suspension = some p → p.kind ≠ .trip) → t.ehu.huntCase = c))
      ∧ t.fsu = s.fsu ∧ t.svu = s.svu ∧ t.lines = s.lines

/-- A command that finds nothing to act on changes nothing: an event of the blocks while HALTED (R162); anything but a line or
supply event while held in reset (R166); the expiry of a stopped timer (00 0.5; log entry 7); a frame from an address no
configured switch carries (R4); and, changing no record, a frame cut off by its byte timeout or failing a test of the receiver
(R83, R181). -/
def Obligations.CommandsWithNothingToActOn : Prop :=
  ∀ (c : Instr) (s : State),
    (s.svu.halted = true → isBlockEvent c = true → exec c s = .next s) ∧
    (s.inReset = true → isLineEvent c = false → exec c s = .next s) ∧
    ((c = .answerTimerExpiry ∧ s.sou.answerTimer = .stopped) ∨
      (∃ k, c = .mechanismTimerExpiry k ∧ (s.runtime k).mechanism = .stopped) ∨
      (c = .routineTimerExpiry ∧ s.sou.routineTimer = .stopped) ∨ (c = .headTimerExpiry ∧ s.sou.headTimer = .stopped) ∨
      (∃ k, c = .deadTimeExpiry k ∧ (s.seq k).deadTimer = .stopped) ∨
      (∃ k, c = .reclaimExpiry k ∧ (s.seq k).reclaimTimer = .stopped) ∨
      (c = .confirmTimerExpiry ∧ s.ehu.watch.confirmTimer = .stopped) ∨
      (c = .listenWindowExpiry ∧ s.ehu.huntCase.listen = .stopped) ∨
      (c = .settleTimerExpiry ∧ s.ehu.settleTimer = .stopped) ∨
      (c = .observeTimerExpiry ∧ s.ehu.observeTimer = .stopped) → exec c s = .next s) ∧
    (∀ address, s.svu.badCodes = [] → s.ownerOf address = none →
      ((∃ b r, c = .answerFrame address b r) ∨ (∃ p r, c = .stateFrame address p r) ∨ (∃ f, c = .tripFrame address f)) →
      exec c s = .next s) ∧
    (∀ bytes, exec (.fieldByteTimeout bytes) s = .next s ∧
      (parseInbound bytes = none → exec (.inboundFrameDiscarded bytes) s = .next s))

/-- R84, R85, R86, R98, R101: no reply to an OPERATE ends the operation NO-ANSWER with the position UNKNOWN and the condition
FAILED; none to a SET PROFILE leaves the profile state NO-ANSWER; a switch that answers neither falls SILENT from SOUND; a
withdrawn message only frees the link (R12); a move not reported in the mechanism time ends NO-MOVE, UNKNOWN and FAILED. An
operation so ended takes the reclose sequence of its switch with it (R112, R115), the trip class and the marks gone with its state
(log entry 20), and the step of the hunt that waited for it (R140, R144, R145). -/
def Obligations.UnansweredMessagesAndMoves : Prop :=
  ∀ s : State, s.working →
    (∀ a, s.sou.answerTimer ≠ .stopped → s.sou.awaited = some a →
      (a.withdrawn = true → exec .answerTimerExpiry s
        = .next (State.arbitrate { s with sou.awaited := none, sou.answerTimer := .stopped })) ∧
      (a.withdrawn = false → ∃ t : State, exec .answerTimerExpiry s = .next t.arbitrate
        ∧ t.sou.awaited = none ∧ t.sou.answerTimer = .stopped ∧ t.sou.link = s.sou.link
        ∧ (∀ j, j ≠ a.switch → (t.runtime j).position = (s.runtime j).position
            ∧ (t.runtime j).inFlight = (s.runtime j).inFlight ∧ (t.runtime j).condition = (s.runtime j).condition)
        ∧ (∀ f, a.kind = .operate → (s.runtime a.switch).inFlight = some f →
            (t.runtime a.switch).inFlight = none ∧ (t.runtime a.switch).position = .unknown
              ∧ (t.runtime a.switch).condition = .failed ∧ (t.runtime a.switch).mechanism = .stopped
              ∧ t.noticed .operation
              ∧ (f.request.classes.hunt = false → (s.runtime a.switch).slot = none →
                  (t.runtime a.switch).lastResult = some ⟨f.request.action, f.request.classes, .noAnswer⟩))
        ∧ (∀ f, a.kind = .operate → (s.runtime a.switch).inFlight = some f →
            (f.request.classes.hunt = false →
              (∀ cs, (s.runtime a.switch).slot = some ⟨.toClose, cs⟩ → cs.reclose = false ∧ cs.hunt = false) →
              s.sequenceFollows t a.switch f.request .noAnswer .unknown none) ∧
            s.huntFollows t a.switch f.request .noAnswer .unknown)
        ∧ (a.kind ≠ .operate → (t.runtime a.switch).position = (s.runtime a.switch).position
            ∧ (t.runtime a.switch).inFlight = (s.runtime a.switch).inFlight ∧ t.rcs = s.rcs ∧ t.htu = s.htu
            ∧ (t.runtime a.switch).condition =
                (if (s.runtime a.switch).condition = .sound then .silent else (s.runtime a.switch).condition))
        ∧ (∀ code, a.kind = .setProfile code →
            (t.runtime a.switch).profileState = .noAnswer ∧ t.noticed .profile)
        ∧ t.fsu = s.fsu ∧ t.svu = s.svu ∧ t.lines = s.lines)) ∧
    (∀ k q, (s.runtime k).mechanism ≠ .stopped → (s.runtime k).inFlight = some ⟨q, .awaitMove⟩ →
      ∃ t : State, exec (.mechanismTimerExpiry k) s = .next t.arbitrate
        ∧ (t.runtime k).inFlight = none ∧ (t.runtime k).position = .unknown ∧ (t.runtime k).condition = .failed
        ∧ (t.runtime k).mechanism = .stopped ∧ t.noticed .operation ∧ t.sou.awaited = s.sou.awaited
        ∧ (q.classes.hunt = false → (s.runtime k).slot = none →
            (t.runtime k).lastResult = some ⟨q.action, q.classes, .noMove⟩)
        ∧ (q.classes.hunt = false →
            (∀ cs, (s.runtime k).slot = some ⟨.toClose, cs⟩ → cs.reclose = false ∧ cs.hunt = false) →
            s.sequenceFollows t k q .noMove .unknown none)
        ∧ s.huntFollows t k q .noMove .unknown
        ∧ t.fsu = s.fsu ∧ t.svu = s.svu ∧ t.lines = s.lines)

/-- The poll timers expire (R100): a ROUTINE poll for every switch in service that is not FAILED and has none wanted; a HEAD poll
of switch 0 unless it is FAILED, a HUNT poll wanted standing; the timer started afresh; nothing else changed. -/
def Obligations.PollTimersExpire : Prop :=
  ∀ s : State, s.working →
    (s.sou.routineTimer ≠ .stopped →
      ∃ t : State, exec .routineTimerExpiry s = .next t.arbitrate
        ∧ t = { s with sou.runtime := t.sou.runtime
                       sou.routineTimer := .running (10 * s.sou.link.pollInterval) (10 * s.sou.link.pollInterval) }
        ∧ ∀ k, t.runtime k = if s.configured k = true ∧ s.fmu.mode = .service ∧ (s.runtime k).condition ≠ .failed
              ∧ (s.runtime k).pollWanted = none
            then { s.runtime k with pollWanted := some .routine } else s.runtime k) ∧
    (s.sou.headTimer ≠ .stopped →
      ∃ t : State, exec .headTimerExpiry s = .next t.arbitrate
        ∧ t = { s with sou.runtime := t.sou.runtime
                       sou.headTimer := .running (10 * s.sou.link.headInterval) (10 * s.sou.link.headInterval) }
        ∧ (∀ k, k ≠ 0 → t.runtime k = s.runtime k)
        ∧ t.runtime 0 = if (s.runtime 0).condition = .failed ∨ (s.runtime 0).pollWanted = some .hunt then s.runtime 0
            else { s.runtime 0 with pollWanted := some .head })

/-- R94: while a message is awaited the arbiter picks nothing. Otherwise an OPEN is picked ahead of everything, the
lowest-numbered switch first; with none, the highest level, then the fixed order of the classes, then the lowest-numbered switch.
A HUNT poll stands at the level of the HUNT class with the rank of a poll (log entry 9). What is picked is served; when that sends
nothing the arbiter picks again, at most 64 times in a taking (log entry 27); a part HALTED or held in reset picks nothing. -/
def Obligations.ArbiterPicksByR94 : Prop :=
  ∀ s : State,
    (s.sou.awaited.isSome = true → s.arbitrate = s) ∧
    (s.live = false → s.arbitrate = s) ∧
    (s.pickClaim = none ↔ s.claims = []) ∧
    (s.claims = [] → s.arbitrate = s) ∧
    (∀ c, s.live = true → s.sou.awaited = none → s.pickClaim = some c →
      s.arbitrate = State.arbitrateFor 63 (s.serveClaim c) ∧
      ((s.serveClaim c).sou.awaited.isSome = true → s.arbitrate = s.serveClaim c)) ∧
    let switchOf : Claim → SwitchNo := fun c => match c with | .operation k _ => k | .push k => k | .poll k _ => k
    ∀ c, s.pickClaim = some c → c ∈ s.claims ∧ ∀ d ∈ s.claims,
      (d.isOpen = true → c.isOpen = true ∧ switchOf c ≤ switchOf d) ∧
      (c.isOpen = false → s.levelOf d < s.levelOf c ∨ (s.levelOf d = s.levelOf c ∧
        (c.order < d.order ∨ (c.order = d.order ∧ switchOf c ≤ switchOf d))))

/-- R96: no CLOSE reaches the link unless, at its transmission, no live hold blocks it; an automatic one besides only to a SOUND
switch with its profile confirmed, in SERVICE. -/
def Obligations.NoCloseLeavesAgainstTheGate : Prop :=
  ∀ (s : State) (k : SwitchNo), s.sou.awaited = none → s.arbitrate.sou.awaited = some ⟨k, .operate, false⟩ →
    ∃ (u : State) (q : OpRequest), (u.runtime k).slot = some q ∧ s.arbitrate = u.sendOperate k q
      ∧ (u.runtime k).inFlight = none ∧ u.sou.awaited = none ∧ u.configured k = true
      ∧ (u.runtime k).position ≠ (match q.action with | .toOpen => .opened | .toClose => .closed)
      ∧ (q.action = .toClose →
          (∀ i h, u.holdAt i = some h → h.scope.meets (u.reach k) = true →
            h.kind = .noReclose ∧ q.classes.reclose = false ∧ q.classes.hunt = false)
          ∧ (q.classes.reclose = true ∨ q.classes.hunt = true →
              (u.runtime k).condition = .sound ∧ (u.runtime k).profileState = .confirmed
                ∧ (u.runtime k).confirmed = u.requiredProfile k ∧ u.fmu.mode = .service))

/-- R181, 12.2: the bytes of a frame a unit sends are read back as its address and message, and taken as that frame. R182: the
check of the nine bytes 0x31 to 0x39 is 0x29B1. -/
def Obligations.InboundFramesReadBack : Prop :=
  (∀ (address : Byte) (m : Inbound), (∀ reason, m = .answer true reason → reason = 0) →
    parseInbound (m.bytes address) = some (address, m) ∧
    ∀ s : State, exec (.inboundFrameDiscarded (m.bytes address)) s = exec (match m with
      | .answer accepted reason => .answerFrame address accepted reason
      | .state position residual => .stateFrame address position residual
      | .trip fault => .tripFrame address fault) s) ∧
  crc16 [0x31, 0x32, 0x33, 0x34, 0x35, 0x36, 0x37, 0x38, 0x39] = 0x29B1

/-! ## Reclosing (chapter 6) -/

/-- DEAD_TIME_EXPIRY (R110, R111, R108) and RECLAIM_EXPIRY (R113): with a check of R108 failed the sequence locks out with its
reason; with all passed the reclose enters the slot and the sequence RECLOSING(n), or RECLAIM(n) when the switch stands closed, or
LOCKOUT for CLOSE-FAILED when the slot is occupied; the end of the reclaim time leaves CLOSED with shots used 0. R108's checks in
their order, for a trip of a fault class with a number of shots used: the class of the switch, the shots, the earth fault, the
holds over its reach, the profile, the condition. -/
def Obligations.DeadTimeAndReclaimExpire : Prop :=
  (∀ (s : State) (k : SwitchNo) (used : Nat) (fault : FaultClass) (c : SwitchConfig) (g : Group), s.config k = some c →
    s.effectiveGroup k = some g →
    s.recloseCheck k used fault =
      if c.cls ≠ .headBreaker ∧ c.cls ≠ .recloser then some .cls
      else if g.shots < used + 1 then some .shots
      else if fault ≠ .phase ∧ g.recloseEarth = false then some .earth
      else if ∃ i, (s.holdAt i).any (fun h => h.scope.meets (s.reach k)) = true then some .held
      else if ¬ ((s.runtime k).profileState = .confirmed ∧ (s.runtime k).confirmed = some g.profile) then some .profile
      else if (s.runtime k).condition ≠ .sound then some .condition
      else none) ∧
  ∀ (s : State) (k : SwitchNo) (n : Nat), s.working →
    (∀ fault, (s.seq k).deadTimer ≠ .stopped → (s.seq k).state = .deadTime n → (s.seq k).tripClass = some fault →
      ∃ t : State, exec (.deadTimeExpiry k) s = .next t.arbitrate
        ∧ (t.seq k).deadTimer = .stopped ∧ (∀ j, j ≠ k → t.seq j = s.seq j)
        ∧ (∀ j, (t.runtime j).position = (s.runtime j).position ∧ (t.runtime j).inFlight = (s.runtime j).inFlight
            ∧ (j ≠ k → (t.runtime j).slot = (s.runtime j).slot))
        ∧ t.fmu = s.fmu ∧ t.htu = s.htu ∧ t.fsu = s.fsu ∧ t.svu = s.svu ∧ t.lines = s.lines
        ∧ match s.recloseCheck k (n - 1) fault with
          | some r => (t.seq k).state = .lockout ∧ (t.seq k).lastLockout = some ⟨r, s.svu.minute⟩
              ∧ (t.seq k).marker = none ∧ t.noticed .lockout ∧ (t.runtime k).slot = (s.runtime k).slot
          | none =>
            if (s.runtime k).slot.isSome = true then
              (t.seq k).state = .lockout ∧ (t.seq k).lastLockout = some ⟨.closeFailed, s.svu.minute⟩ ∧ t.noticed .lockout
            else if (s.runtime k).inFlight = none ∧ (s.runtime k).position = .closed then
              (t.seq k).state = .reclaim n ∧ (t.seq k).shotsUsed = n ∧ (t.runtime k).slot = none
                ∧ ∀ g, s.effectiveGroup k = some g → (t.seq k).reclaimTimer = .running (10 * g.reclaim) (10 * g.reclaim)
            else (t.seq k).state = .reclosing n ∧ (t.seq k).shotsUsed = n ∧ (t.seq k).marker = (s.seq k).marker
                ∧ (t.runtime k).slot = some ⟨.toClose, { reclose := true }⟩) ∧
    ((s.seq k).reclaimTimer ≠ .stopped → (s.seq k).state = .reclaim n →
      ∃ t : State, exec (.reclaimExpiry k) s = .next t.arbitrate
        ∧ (t.seq k).state = .closed ∧ (t.seq k).shotsUsed = 0 ∧ (t.seq k).reclaimTimer = .stopped
        ∧ (t.seq k).lastLockout = (s.seq k).lastLockout ∧ (∀ j, j ≠ k → t.seq j = s.seq j)
        ∧ (∀ j, (t.runtime j).slot = (s.runtime j).slot)
        ∧ t.fmu = s.fmu ∧ t.htu = s.htu ∧ t.fsu = s.fsu ∧ t.svu = s.svu ∧ t.rqi = s.rqi ∧ t.lines = s.lines)

/-! ## The watch and the hunt (chapters 7 and 8) -/

/-- SET HUNT PARAMETERS (R127, R126): the carried fields written, the others kept; auto-start turned on for a confirmed watch
makes a start attempt, and otherwise nothing else changes; a value out of range, or finer than the whole second (log entry 40),
refuses the request whole; ALREADY when nothing would change. -/
def Obligations.SetHuntParametersWrites : Prop :=
  ∀ (s : State) (f : HuntFields), s.ready .controller →
    let amount (o : Option Amount) (lo hi : Nat) := ∀ a, o = some a → a.finer = false ∧ lo ≤ a.units ∧ a.units ≤ hi
    let inRange := f.autoStart ≠ some .unnamed ∧ f.essential ≠ some .unnamed ∧ amount f.confirm 10 600
      ∧ amount f.listen 5 120 ∧ amount f.settle 2 30 ∧ amount f.observe 5 60
    let old := s.ehu.params
    let new : HuntParams :=
      { autoStart := match f.autoStart with | some (.named b) => b | _ => old.autoStart
        confirm := match f.confirm with | some a => a.units | none => old.confirm
        listen := match f.listen with | some a => a.units | none => old.listen
        settle := match f.settle with | some a => a.units | none => old.settle
        observe := match f.observe with | some a => a.units | none => old.observe
        essential := match f.essential with | some (.named b) => b | _ => old.essential }
    let written : State := { s with ehu.params := new }
    (¬ inRange → exec (.setHuntParameters .controller f) s
      = .next (State.arbitrate (s.answer .controller 0x50 .refusedRange .empty))) ∧
    (inRange → new = old → exec (.setHuntParameters .controller f) s
      = .next (State.arbitrate (s.answer .controller 0x50 .already (.params new)))) ∧
    (inRange → new ≠ old →
      (old.autoStart = false ∧ new.autoStart = true ∧ s.ehu.watch.state = .watching ∧ s.ehu.watch.confirmed = true →
        exec (.setHuntParameters .controller f) s
          = .next (State.arbitrate (written.attemptStart.answer .controller 0x50 .done (.params new)))) ∧
      (¬ (old.autoStart = false ∧ new.autoStart = true ∧ s.ehu.watch.state = .watching ∧ s.ehu.watch.confirmed = true) →
        exec (.setHuntParameters .controller f) s
          = .next (State.arbitrate (written.answer .controller 0x50 .done (.params new)))))

/-- START HUNT (R130, R131, R132): its checks passed, the next case opens in LOCATING with the requester as its origin, the
candidates in tree preorder within the reach of switch 0, a HUNT poll for every closed sensing switch above a candidate, a fresh
listen window, the watch HUNTING, the HUNT notice set; refused by the first check that fails. -/
def Obligations.StartHuntOpensACase : Prop :=
  ∀ (s : State) (p : Port) (essential : Option Bool), s.ready p →
    let sent := exec (.startHunt p (essential.map .named)) s
    let fit := (∃ c, s.config 0 = some c ∧ c.sensing = true) ∧ (s.runtime 0).position = .closed
      ∧ (s.runtime 0).condition = .sound
    let number : CaseNo := if s.ehu.huntCase.number = 65535 then 1 else s.ehu.huntCase.number + 1
    exec (.startHunt p (some .unnamed)) s = .next (State.arbitrate (s.answer p 0x51 .refusedRange .empty)) ∧
    (s.fmu.mode = .commissioning → sent = .next (State.arbitrate (s.answer p 0x51 .refusedState .empty))) ∧
    (s.fmu.mode = .service → s.ehu.huntCase.state = .suspended →
      sent = .next (State.arbitrate (s.answer p 0x51 .refusedBusy .empty))) ∧
    (s.fmu.mode = .service → s.ehu.huntCase.state ≠ .suspended → s.ehu.huntCase.state ≠ .idle →
      sent = .next (State.arbitrate (s.answer p 0x51 .refusedState .empty))) ∧
    (s.fmu.mode = .service → s.ehu.huntCase.state = .idle → ¬ fit →
      sent = .next (State.arbitrate (s.answer p 0x51 .refusedState .empty))) ∧
    (s.fmu.mode = .service → s.ehu.huntCase.state = .idle → fit → 6 ≤ s.htu.counts.hunt →
      sent = .next (State.arbitrate (s.answer p 0x51 .refusedFull .empty))) ∧
    (s.fmu.mode = .service → s.ehu.huntCase.state = .idle → fit → s.htu.counts.hunt < 6 →
      ∃ t : State, sent = .next (State.arbitrate (t.answer p 0x51 .accepted (.caseNumber number)))
        ∧ t.ehu.huntCase = { HuntCase.cold with
            number := number, state := .locating, startMinute := some s.svu.minute
            startOrigin := some (match p with | .controller => .controller | .maintenance => .maintenance)
            essential := match essential with | some b => b | none => s.ehu.params.essential
            candidates := s.switchesInPreorder.filter fun k => (s.config k).any fun c => (s.reach 0).has c.downstream
            listen := .running (10 * s.ehu.params.listen) (10 * s.ehu.params.listen) }
        ∧ t.ehu = { s.ehu with
            huntCase := t.ehu.huntCase
            watch := { s.ehu.watch with
              state := .hunting, confirmTimer := .stopped, confirmed := false, lastRefusal := none } }
        ∧ (∀ k, t.runtime k =
            if (s.config k).any (·.sensing) = true ∧ (s.runtime k).position = .closed
                ∧ ∃ j ∈ t.ehu.huntCase.candidates, s.candidateBelow k j = true then
              { s.runtime k with pollWanted := some .hunt }
            else s.runtime k)
        ∧ t.noticed .hunt
        ∧ t.fmu = s.fmu ∧ t.htu = s.htu ∧ t.fsu = s.fsu ∧ t.rcs = s.rcs ∧ t.svu = s.svu)

/-- RESUME HUNT, ABANDON HUNT and CLOSE HUNT CASE (R149, R150, R152, R154), in every state of the case; a resumption wants a HUNT
poll of every closed sensing switch above a candidate (R132). A close rearms a watch that is HUNTING and leaves another as it is
(log entry 37). -/
def Obligations.HuntCaseRequests : Prop :=
  ∀ (s : State) (p : Port), s.ready p →
    let c := s.ehu.huntCase
    (c.state ≠ .suspended → exec (.resumeHunt p) s = .next (State.arbitrate (s.answer p 0x53 .refusedState .empty))) ∧
    (∀ cause, c.state = .suspended → c.suspension = some cause →
      let stopped : Prop := match cause.kind with
        | .trip => s.ehu.runningCount ≠ 0
        | .switchFailed => (s.runtime cause.switch).condition = .failed
        | .headSilent => (s.runtime 0).condition ≠ .sound
      (stopped → exec (.resumeHunt p) s = .next (State.arbitrate (s.answer p 0x53 .refusedState .empty))) ∧
      (¬ stopped → ∃ t : State, exec (.resumeHunt p) s
            = .next (State.arbitrate (t.answer p 0x53 .accepted (.caseNumber c.number)))
          ∧ t.ehu = { s.ehu with huntCase := { c with
              state := .locating, suspension := none, clearedInWindow := false
              listen := .running (10 * s.ehu.params.listen) (10 * s.ehu.params.listen) } }
          ∧ (∀ k, t.runtime k =
              if (s.config k).any (·.sensing) = true ∧ (s.runtime k).position = .closed
                  ∧ ∃ j ∈ c.candidates, s.candidateBelow k j = true then
                { s.runtime k with pollWanted := some .hunt }
              else s.runtime k)
          ∧ t.fmu = s.fmu ∧ t.htu = s.htu ∧ t.fsu = s.fsu ∧ t.rcs = s.rcs ∧ t.svu = s.svu ∧ t.rqi = s.rqi)) ∧
    (c.state = .idle → exec (.abandonHunt p) s = .next (State.arbitrate (s.answer p 0x54 .refusedState .empty))) ∧
    (c.state = .concluded → exec (.abandonHunt p) s = .next (State.arbitrate (s.answer p 0x54 .already .empty))) ∧
    (c.state = .locating ∨ c.state = .suspended → exec (.abandonHunt p) s
      = .next (State.arbitrate (State.answer
          (State.notify
            { s with
              ehu.huntCase := { c with
                state := .concluded, listen := .stopped, result := some .abandoned, abandon := some .port }
              ehu.settleTimer := .stopped
              ehu.observeTimer := .stopped }
            .hunt) p 0x54 .done .empty))) ∧
    (∀ st, c.state = .stepping → c.step = some st →
      (s.ehu.pendingAbandon = none → exec (.abandonHunt p) s
        = .next (State.arbitrate (State.answer { s with ehu.pendingAbandon := some .port } p 0x54 .done
            (.steppingOn st.switch)))) ∧
      (s.ehu.pendingAbandon.isSome = true → exec (.abandonHunt p) s
        = .next (State.arbitrate (s.answer p 0x54 .already (.steppingOn st.switch))))) ∧
    (c.state = .idle → exec (.closeHuntCase p) s = .next (State.arbitrate (s.answer p 0x55 .already .empty))) ∧
    (c.state ≠ .idle → c.state ≠ .concluded →
      exec (.closeHuntCase p) s = .next (State.arbitrate (s.answer p 0x55 .refusedState .empty))) ∧
    (c.state = .concluded → exec (.closeHuntCase p) s
      = .next (State.arbitrate (State.answer
          { s with
            ehu.huntCase := { c with
              state := .idle, candidates := [], cleared := [], leftOpen := [], noRetest := 0
              inconclusive := Vector.replicate 16 0 }
            ehu.watch := if s.ehu.watch.state = .hunting then
                if s.ehu.watch.episode = true then
                  { s.ehu.watch with
                    state := .watching, confirmed := false
                    confirmTimer := .running (10 * s.ehu.params.confirm) (10 * s.ehu.params.confirm) }
                else { s.ehu.watch with state := .idle }
              else s.ehu.watch }
          p 0x55 .done .empty)))

/-- CONFIRM_TIMER_EXPIRY (R125, R126): the episode is confirmed; with auto-start off the HUNT notice is set and nothing else; with
it on a case starts when the checks of R130 pass, and otherwise the refusal is recorded, FULL with the START DEFERRED note. -/
def Obligations.ConfirmTimerExpires : Prop :=
  ∀ s : State, s.working → s.ehu.watch.confirmTimer ≠ .stopped →
    let confirmed : State := { s with ehu.watch.confirmTimer := .stopped, ehu.watch.confirmed := true }
    let due := s.fmu.mode = .service ∧ s.ehu.huntCase.state = .idle ∧ (∃ c, s.config 0 = some c ∧ c.sensing = true)
      ∧ (s.runtime 0).position = .closed ∧ (s.runtime 0).condition = .sound
    (s.ehu.params.autoStart = false → exec .confirmTimerExpiry s = .next (confirmed.notify .hunt).arbitrate) ∧
    (s.ehu.params.autoStart = true → due → s.htu.counts.hunt < 6 →
      ∃ t : State, exec .confirmTimerExpiry s = .next t.arbitrate
        ∧ t.ehu.huntCase.state = .locating ∧ t.ehu.huntCase.startOrigin = some .auto
        ∧ t.ehu.huntCase.essential = s.ehu.params.essential ∧ t.ehu.huntCase.startMinute = some s.svu.minute
        ∧ t.ehu.watch.state = .hunting ∧ t.ehu.watch.confirmTimer = .stopped ∧ t.ehu.watch.lastRefusal = none
        ∧ t.noticed .hunt ∧ t.fmu = s.fmu ∧ t.htu = s.htu ∧ t.fsu = s.fsu ∧ t.rcs = s.rcs ∧ t.svu = s.svu) ∧
    (s.ehu.params.autoStart = true → (due → 6 ≤ s.htu.counts.hunt) →
      ∃ (t : State) (r : StartRefusal), (r = .full ↔ due) ∧ exec .confirmTimerExpiry s = .next t.arbitrate
        ∧ t.ehu.watch = { s.ehu.watch with confirmTimer := .stopped, confirmed := true, lastRefusal := some r }
        ∧ t.ehu.huntCase = { s.ehu.huntCase with startDeferred := t.ehu.huntCase.startDeferred }
        ∧ (t.ehu.huntCase.startDeferred = true ↔ due)
        ∧ (if s.ehu.watch.lastRefusal = some r then t.rqi = s.rqi else t.noticed .hunt)
        ∧ t.fmu = s.fmu ∧ t.htu = s.htu ∧ t.fsu = s.fsu ∧ t.sou = s.sou ∧ t.rcs = s.rcs ∧ t.svu = s.svu)

/-- LISTEN_WINDOW_EXPIRY (R134, R137, R138, R152, R153): SELF-CLEARED when the flag cleared in the window or is clear; with one
candidate, FOUND with its NO_CLOSE hold and the suspicion of its zones raised, and isolated where the group in force says so, the
segment is not the head's and its subtree holds no essential zone or the case allows their interruption: an OPEN of class HUNT is
taken into the slot by R90 and the switch stands in the left-open list, FOUND-ISOLATE where it had no entry, or the switch is OPEN
already and the list stands; otherwise no OPEN is asked for; with 32 steps taken, LIMIT; else the best switch that may be tested
begins a step with its OPEN in the slot, and with none NARROWED. -/
def Obligations.ListenWindowExpires : Prop :=
  ∀ (s : State) (i : SlotNo), s.working → s.ehu.huntCase.listen ≠ .stopped → s.holdAt i = none →
    (∀ j, j < i → (s.holdAt j).isSome = true) →
    let c := s.ehu.huntCase
    let cleared := c.clearedInWindow = true ∨ s.ehu.watch.episode = false
    let segments : ZoneSet := c.candidates.foldl (fun z k => z ||| s.segment k) 0
    let hold (kind : HoldKind) (scope : ZoneSet) : Hold :=
      { kind := kind, strength := .plain, origin := .hunt, scope := scope, tag := none, expiry := none, reason := 0
        cause := some (.huntCase c.number), placed := s.svu.minute, version := 0 }
    ∃ t : State, exec .listenWindowExpiry s = .next t.arbitrate
      ∧ t.ehu.huntCase.listen = .stopped ∧ t.ehu.watch = s.ehu.watch ∧ t.fsu = s.fsu ∧ t.svu = s.svu
      ∧ (∀ k, (t.runtime k).position = (s.runtime k).position ∧ (t.runtime k).inFlight = (s.runtime k).inFlight)
      ∧ (cleared → t.ehu.huntCase = { c with listen := .stopped, state := .concluded, result := some .selfCleared }
          ∧ t.noticed .hunt ∧ t.htu = s.htu ∧ t.fmu = s.fmu ∧ t.sou = s.sou ∧ t.rcs = s.rcs)
      ∧ (∀ k, ¬ cleared → c.candidates = [k] →
          t.ehu.huntCase.state = .concluded ∧ t.ehu.huntCase.result = some .found ∧ t.ehu.huntCase.found = some k
            ∧ t.ehu.huntCase.holdHandle = some ⟨i, (s.slot i).useCount⟩
            ∧ t.slot i = { s.slot i with hold := some (hold .noClose (s.segment k)) }
            ∧ (∀ j, j ≠ i → t.slot j = s.slot j) ∧ t.noticed .hunt ∧ t.noticed .hold
            ∧ ∀ z, t.zone z = if (s.segment k).has z = true ∧ (s.zone z).info.isSome = true then
                { s.zone z with suspicion := min 15 ((s.zone z).suspicion + 1) } else s.zone z)
      ∧ (∀ k, ¬ cleared → c.candidates = [k] →
          let isolated := k ≠ 0 ∧ (∃ g, s.effectiveGroup k = some g ∧ g.isolate = true)
            ∧ ((∀ z e, (s.subtree k).has z = true → (s.zone z).info = some e → e.essential = false) ∨ c.essential = true)
          let r := s.runtime k
          let named := if c.leftOpen.any (·.switch == k) then c.leftOpen else c.leftOpen ++ [⟨k, .foundIsolate⟩]
          let met := r.inFlight = none ∧ r.position = .opened
          (¬ isolated → t.sou = s.sou ∧ t.rcs = s.rcs ∧ t.ehu.huntCase.leftOpen = c.leftOpen) ∧
          (isolated →
            (∀ j, j ≠ k → t.runtime j = s.runtime j) ∧
            (∀ cs, r.slot = some ⟨.toOpen, cs⟩ →
              t.runtime k = { r with slot := some ⟨.toOpen, cs.union { hunt := true }⟩ } ∧ t.ehu.huntCase.leftOpen = named) ∧
            (r.slot = none → ¬ met →
              t.runtime k = { r with slot := some ⟨.toOpen, { hunt := true }⟩ } ∧ t.ehu.huntCase.leftOpen = named) ∧
            (∀ cs, r.slot = some ⟨.toClose, cs⟩ → ¬ met →
              t.runtime k = { r with
                slot := some ⟨.toOpen, { hunt := true }⟩, lastResult := some ⟨.toClose, cs, .preEmpted⟩ }
              ∧ t.noticed .operation ∧ t.ehu.huntCase.leftOpen = named) ∧
            (met → (∀ cs, r.slot ≠ some ⟨.toOpen, cs⟩) →
              t.runtime k = { r with slot := none, lastResult := some ⟨.toOpen, { hunt := true }, .already⟩ }
              ∧ t.noticed .operation ∧ t.ehu.huntCase.leftOpen = c.leftOpen)))
      ∧ (¬ cleared → (∀ k, c.candidates ≠ [k]) → 32 ≤ c.stepsTaken ∨ (∀ k, s.testable k = false) →
          t.ehu.huntCase.state = .concluded
            ∧ t.ehu.huntCase.result = some (if 32 ≤ c.stepsTaken then .limit else .narrowed)
            ∧ t.ehu.huntCase.holdHandle = some ⟨i, (s.slot i).useCount⟩
            ∧ t.slot i = { s.slot i with hold := some (hold .noReclose segments) }
            ∧ (∀ j, j ≠ i → t.slot j = s.slot j) ∧ t.noticed .hunt ∧ t.fmu = s.fmu ∧ t.sou = s.sou ∧ t.rcs = s.rcs)
      ∧ (¬ cleared → (∀ k, c.candidates ≠ [k]) → c.stepsTaken < 32 → (∃ k, s.testable k = true) →
          ∃ k : SwitchNo, s.testable k = true
            ∧ (∀ j, s.testable j = true → s.imbalance k < s.imbalance j ∨ (s.imbalance k = s.imbalance j ∧
                (s.suspicionSum j < s.suspicionSum k ∨ (s.suspicionSum j = s.suspicionSum k ∧ k ≤ j))))
            ∧ t.ehu.huntCase = { c with listen := .stopped, state := .stepping, step := some ⟨k, .opening, none⟩ }
            ∧ (t.runtime k).slot = some ⟨.toOpen, { hunt := true }⟩
            ∧ t.ehu.disturbed = false ∧ t.ehu.deciding = none ∧ t.ehu.pendingCause = none
            ∧ t.ehu.pendingAbandon = none ∧ t.htu = s.htu ∧ t.fmu = s.fmu ∧ t.rcs = s.rcs ∧ t.rqi = s.rqi)

/-- SETTLE_TIMER_EXPIRY and OBSERVE_TIMER_EXPIRY (R141, R142, R143): settled, the step observes, the observe time runs and a HUNT
poll of the head is wanted; at the end of the observation a disturbed step or one with no deciding report is INCONCLUSIVE, a
report ABOVE takes the candidates below the test switch out and one BELOW the others, never the last; the close-back is asked for,
save after BELOW where the group forbids it or one candidate is left, when the step ends with its switch left open. -/
def Obligations.StepTimersExpire : Prop :=
  ∀ (s : State) (k : SwitchNo) (o : Option StepOutcome), s.working →
    let c := s.ehu.huntCase
    (s.ehu.settleTimer ≠ .stopped → c.step = some ⟨k, .settling, o⟩ → exec .settleTimerExpiry s
      = .next (State.arbitrate (State.setRuntime
          { s with
            ehu.settleTimer := .stopped
            ehu.observeTimer := .running (10 * s.ehu.params.observe) (10 * s.ehu.params.observe)
            ehu.huntCase := { c with step := some ⟨k, .observing, o⟩ } }
          0 { s.runtime 0 with pollWanted := some .hunt }))) ∧
    (s.ehu.observeTimer ≠ .stopped → c.step = some ⟨k, .observing, o⟩ → s.fmu.reachTable.isSome = true →
      s.configured k = true → (s.runtime k).condition ≠ .failed → (s.runtime k).slot = none →
      (s.runtime k).position = .opened →
      let below := s.candidateBelow k
      let outcome : StepOutcome := if s.ehu.disturbed = true then .inconclusive else match s.ehu.deciding with
        | some .below => .downstream | some .above => .notDownstream | _ => .inconclusive
      let out (j : SwitchNo) : Bool := match outcome with
        | .downstream => !below j | .notDownstream => below j | _ => false
      let left := c.candidates.filter fun j => !out j
      let candidates := if left = [] then c.candidates else left
      let closesBack := outcome = .downstream →
        1 < candidates.length ∧ ∃ g, s.effectiveGroup k = some g ∧ g.closeBack = true
      ∃ t : State, exec .observeTimerExpiry s = .next t.arbitrate
        ∧ t.ehu.huntCase.candidates = candidates
        ∧ (left ≠ [] → t.ehu.huntCase.cleared = c.cleared ++ c.candidates.filter out)
        ∧ (closesBack → t.ehu.huntCase.step = some ⟨k, .closingBack, some outcome⟩
            ∧ (t.runtime k).slot = some ⟨.toClose, { hunt := true }⟩ ∧ t.ehu.huntCase.leftOpen = c.leftOpen
            ∧ t.htu = s.htu ∧ t.fmu = s.fmu ∧ t.rcs = s.rcs ∧ t.rqi = s.rqi)
        ∧ (¬ closesBack → t.ehu.huntCase.step = none ∧ t.ehu.huntCase.state = .concluded
            ∧ t.ehu.huntCase.stepsTaken = c.stepsTaken + 1
            ∧ ((∀ e ∈ c.leftOpen, e.switch ≠ k) → ⟨k, .noCloseBack⟩ ∈ t.ehu.huntCase.leftOpen))
        ∧ t.ehu.observeTimer = .stopped ∧ t.fsu = s.fsu ∧ t.svu = s.svu)

/-! ## Supervision, time and starts (chapter 9) -/

/-- SCAN_PASS (R156, R157, R158, R161): a pass that finds nothing only starts the next period; the first fault of a part with no
INTEGRITY hold and no case restores the record, places the INTEGRITY hold in the lowest empty slot and sets the notice; a fault of
a part that has one restores the record, sets the halt mark and halts the part, its timers stopped and its status kept. Shown for
the hunt parameters record. -/
def Obligations.ScanPassFindsFaults : Prop :=
  ∀ s : State, s.working →
    let integrity : Hold :=
      { kind := .noClose, strength := .pinned, origin := .system, scope := wholeFeeder, tag := none, expiry := none
        reason := 0, cause := some .integrity, placed := s.svu.minute, version := 0 }
    exec (.scanPass []) s = .next (State.arbitrate { s with svu.scanTimer := .running 600 600 }) ∧
    (∀ i : SlotNo, s.holdAt i = none → (∀ j, j < i → (s.holdAt j).isSome = true) → s.integrityExists = false →
      s.ehu.huntCase.state = .idle →
      ∃ t : State, exec (.scanPass [.huntParameters]) s = .next t.arbitrate
        ∧ t.ehu = { s.ehu with params := HuntParams.default }
        ∧ t.slot i = { s.slot i with hold := some integrity }
        ∧ (∀ j, j ≠ i → t.slot j = s.slot j)
        ∧ t.htu.counts = { s.htu.counts with system := s.htu.counts.system + 1 }
        ∧ t.noticed .integrity ∧ t.noticed .hold
        ∧ t.svu = { s.svu with scanTimer := .running 600 600 }
        ∧ t.fmu = s.fmu ∧ t.fsu = s.fsu ∧ t.sou = s.sou ∧ t.rcs = s.rcs ∧ t.lines = s.lines) ∧
    (s.integrityExists = true →
      ∃ t : State, exec (.scanPass [.huntParameters]) s = .next t
        ∧ t.svu = { s.svu with
            scanTimer := .stopped, halted := true, startCause := { s.svu.startCause with haltMark := true }
            haltStatus := some
              { mode := s.fmu.mode, timeState := s.svu.timeState, halted := true, lkey := s.lines.lkey, tfb := s.fsu.tfb
                watch := s.ehu.watch.state, caseState := s.ehu.huntCase.state, counts := s.htu.counts } }
        ∧ t.ehu.params = HuntParams.default ∧ t.noticed .integrity
        ∧ t.sou.answerTimer = .stopped ∧ t.sou.routineTimer = .stopped ∧ t.sou.headTimer = .stopped
        ∧ (∀ k, (t.runtime k).mechanism = .stopped ∧ (t.seq k).deadTimer = .stopped ∧ (t.seq k).reclaimTimer = .stopped)
        ∧ t.ehu.watch.confirmTimer = .stopped ∧ t.ehu.huntCase.listen = .stopped
        ∧ t.fmu = s.fmu ∧ t.htu = s.htu ∧ t.fsu = s.fsu ∧ t.lines = s.lines)

/-- R158 to R160, R36, R79, R80: the first fault of any record of a part with no INTEGRITY hold restores that record by its
owner's rule, with a fresh check code, then places the INTEGRITY hold, sets its notice and abandons an open case for INTEGRITY, in
STEPPING pending; a zone or switch entry restored in SERVICE takes the course out of service first, so that an open case is
abandoned for MODE. A second fault of any record halts the part with its halt mark (R161). At least nine slots are empty, so that
every FIRE hold the restore of the districts asks for, and the INTEGRITY hold, finds one. The watch at a cleared case follows log
entry 37; a poll timer is restarted where the restored interval differs, the model's reading of R159 by R103 (log entry 30); a
restore of the groups, or of the season and districts, has the profiles compared (R97) and the sequences evaluated again (R114)
for the switches whose group or level changed. That every switch of a changed group in force has its sequence evaluated again,
where R79 names the switches whose profile code changed, and that the thresholds are recomputed in every case, is the model's
choice (log entry 26). -/
def Obligations.FirstFaultRestoresTheRecord : Prop :=
  ∀ (s : State) (r : RecordId), s.working →
    (s.integrityExists = false → s.settled → s.emptySlots 9 →
      let c := s.ehu.huntCase
      let leaves := s.fmu.mode = .service ∧ ((∃ z, r = .zone z) ∨ ∃ k, r = .switch k)
      let reason : AbandonReason := if isFeeder r = true ∧ s.fmu.mode = .service then .mode else .integrity
      ∃ t : State, exec (.scanPass [r]) s = .next t.arbitrate
        ∧ t.integrityExists = true ∧ t.noticed .integrity ∧ t.noticed .hold
        ∧ t.svu.halted = false ∧ t.svu.badCodes = [] ∧ t.svu.scanTimer = .running 600 600 ∧ t.lines = s.lines
        ∧ (∀ i, r ≠ .slot i → (s.holdAt i).isSome = true → t.slot i = s.slot i)
        ∧ (r ≠ .huntCase →
            (c.state = .locating ∨ c.state = .suspended → t.noticed .hunt ∧ t.ehu.huntCase.state = .concluded
              ∧ t.ehu.huntCase.result = some .abandoned ∧ t.ehu.huntCase.abandon = some reason) ∧
            (c.state = .stepping →
              t.ehu.pendingAbandon = some (match s.ehu.pendingAbandon with | some a => a | none => reason)
              ∧ (¬ leaves → t.ehu.huntCase.state = .stepping)))
        ∧ (leaves → t.ehu.watch = Watch.start ∧ t.sou.routineTimer = .stopped ∧ t.sou.headTimer = .stopped
            ∧ ∀ k, (t.runtime k).slot = none ∧ (t.runtime k).pollWanted = none ∧ (t.seq k).state = .outOfService
                ∧ (t.seq k).marker = none)
        ∧ match r with
          | .slot i => t.liveHold (s.handleAt i) = none ∧ (t.slot i).useCount = (s.slot i).useCount + 1
              ∧ t.fmu = s.fmu ∧ t.fsu.groups = s.fsu.groups
              ∧ ∀ h d, s.holdAt i = some h → h.origin = .fire → (s.district d).fire = some (s.handleAt i) →
                  (∀ e, e ≠ d → (s.district e).fire ≠ some (s.handleAt i)) → (s.district d).effective = .ban →
                  s.districtZones d ≠ 0 →
                  ∃ h', (t.district d).fire = some h' ∧ t.liveHold h' = some (s.fireHoldFor d)
          | .zone z => t.fsu = s.fsu ∧ t.fmu = { s.fmu with
              mode := .commissioning, zones := s.fmu.zones.set z ⟨none, 0⟩, reachTable := none }
          | .switch k => t.fsu = s.fsu ∧ t.runtime k = Runtime.start ∧ (t.seq k).marker = none
              ∧ t.sou.awaited = s.sou.awaited.map (fun a => if a.switch = k then { a with withdrawn := true } else a)
              ∧ t.fmu = { s.fmu with
                  mode := .commissioning, switches := s.fmu.switches.set k none, reachTable := none }
          | .group _ => t.fmu = s.fmu ∧ t.fsu = { s.fsu with groups := Groups.cold, staging := none }
              ∧ t.ehu.thresholds = t.feederThresholds
              ∧ ((∃ d, Groups.cold.get (s.district d).effective ≠ s.fsu.groups.get (s.district d).effective) →
                  t.noticed .level)
              ∧ (let old (d : DistrictNo) := s.fsu.groups.get (s.district d).effective
                let new (d : DistrictNo) := Groups.cold.get (s.district d).effective
                s.profilesCompared t (fun k => ∃ d, s.districtOf k = some d ∧ (new d).profile ≠ (old d).profile)
                  ∧ s.sequencesReevaluated t (fun k => ∃ d, s.districtOf k = some d ∧ new d ≠ old d))
          | .seasonDistrict => t.fmu = s.fmu ∧ t.noticed .level ∧ t.fsu.groups = s.fsu.groups ∧ t.fsu.tfb = s.fsu.tfb
              ∧ t.fsu.staging = s.fsu.staging ∧ t.fsu.season = .inSeason
              ∧ (∀ p d v, (t.port p).reservation ≠ some (.district d v))
              ∧ ∀ d, (t.district d).declared = .ban ∧ (t.district d).effective = .ban ∧ (t.district d).version = 0
                  ∧ (s.districtZones d ≠ 0 → ∃ h hold, (t.district d).fire = some h ∧ t.liveHold h = some hold
                      ∧ hold.origin = .fire ∧ hold.cause = some (.district d))
              ∧ s.levelChangeFollows t
          | .huntParameters => t.ehu.params = HuntParams.default ∧ t.fmu = s.fmu ∧ t.fsu = s.fsu ∧ t.sou = s.sou ∧ t.rcs = s.rcs
          | .linkSettings => t.fmu = s.fmu ∧ t.fsu = s.fsu ∧ t.rcs = s.rcs ∧ t.sou = { s.sou with
              link := LinkSettings.default
              routineTimer := if s.sou.routineTimer ≠ .stopped ∧ s.sou.link.pollInterval ≠ 300 then .running 3000 3000
                else s.sou.routineTimer
              headTimer := if s.sou.headTimer ≠ .stopped ∧ s.sou.link.headInterval ≠ 5 then .running 50 50
                else s.sou.headTimer }
          | .huntCase => t.fmu = s.fmu ∧ t.fsu = s.fsu ∧ t.sou = s.sou ∧ t.rcs = s.rcs ∧ t.noticed .hunt
              ∧ t.ehu = { s.ehu with
                  huntCase := HuntCase.cold, settleTimer := .stopped, observeTimer := .stopped
                  watch := if s.ehu.watch.state = .hunting then
                      if s.ehu.watch.episode = true then
                        { s.ehu.watch with
                          state := .watching, confirmed := false
                          confirmTimer := .running (10 * s.ehu.params.confirm) (10 * s.ehu.params.confirm) }
                      else { s.ehu.watch with state := .idle }
                    else s.ehu.watch }
          | .minuteCount => t.fmu = s.fmu ∧ t.fsu = s.fsu ∧ t.sou = s.sou ∧ t.rcs = s.rcs
              ∧ t.svu.minute = 0 ∧ t.svu.timeState = .unset
              ∧ t.svu.timeSet = (s.svu.timeSet && s.svu.timeState == .unset)
              ∧ (s.svu.timeState ≠ .unset → t.noticed .time)
          | .startCause => t.fmu = s.fmu ∧ t.fsu = s.fsu ∧ t.sou = s.sou ∧ t.rcs = s.rcs
              ∧ t.svu.startCause = ⟨none, none, false⟩) ∧
    (s.integrityExists = true → ∃ t : State, exec (.scanPass [r]) s = .next t ∧ t.svu.halted = true
        ∧ t.svu.startCause.haltMark = true ∧ t.noticed .integrity ∧ t.svu.badCodes = [] ∧ t.svu.haltStatus.isSome = true)

/-- TREF_PULSE, TREF_LOSS and OSCILLATOR_SECOND (R163, R164): the source, the run of pulses, the second and the minute, which
wraps; the third pulse in a row with the time set makes the time state GOOD, the loss of the pulses makes GOOD DEGRADED; a pulse
less than 0.9 s after the last is ignored, and a source that does not count counts nothing (log entry 7). The run kept at a loss,
and a run of 0 after a pulse with no gap, are the model's reading (log entry 21). R37, R38: a minute that begins while the time
state is GOOD, at a pulse or at a second of the oscillator, and a pulse that makes the time state GOOD, end every hold whose
expiry minute has come, its slot's use count advanced, and no other; no hold ends while the time state is not GOOD, or in HALTED.
-/
def Obligations.TimeBaseCounts : Prop :=
  (∀ s : State, s.inReset = false → s.svu.badCodes = [] →
    let counted (t : State) := t.svu.second = (if s.svu.second = 59 then 0 else s.svu.second + 1)
      ∧ t.svu.minute = (if s.svu.second = 59 then s.svu.minute + 1 else s.svu.minute)
      ∧ t.svu.timeSet = s.svu.timeSet ∧ t.svu.halted = s.svu.halted ∧ t.svu.startCause = s.svu.startCause
      ∧ t.fmu = s.fmu ∧ t.fsu.groups = s.fsu.groups ∧ t.rcs = s.rcs ∧ t.lines = s.lines
      ∧ (s.svu.second ≠ 59 → t.svu.timeState = s.svu.timeState → t.htu = s.htu ∧ t.rqi = s.rqi ∧ t.ehu = s.ehu
          ∧ t.sou = s.sou)
      ∧ (t.svu.timeState ≠ .good ∨ s.svu.halted = true → t.htu = s.htu)
    (∀ gap : Option Nat, (∀ g, gap = some g → 900 ≤ g) →
      let steady := s.svu.source = .tref ∧ ∃ g, gap = some g ∧ 900 ≤ g ∧ g ≤ 1100
      ∃ t : State, exec (.trefPulse gap) s = .next t.arbitrate ∧ counted t ∧ t.svu.source = .tref
        ∧ (steady → t.svu.pulseRun = min 3 (s.svu.pulseRun + 1)) ∧ (¬ steady → t.svu.pulseRun = 0)
        ∧ (s.svu.halted = false → t.svu.timeState =
            (if t.svu.pulseRun = 3 ∧ s.svu.pulseRun ≠ 3 ∧ s.svu.timeSet = true then .good else s.svu.timeState))
        ∧ (s.svu.halted = false → t.svu.timeState ≠ s.svu.timeState → t.noticed .time)) ∧
    (∀ g, g < 900 → exec (.trefPulse (some g)) s = .next s) ∧
    (s.svu.source = .tref → ∃ t : State, exec .trefLoss s = .next t.arbitrate ∧ counted t ∧ t.svu.source = .oscillator
        ∧ t.svu.pulseRun = s.svu.pulseRun
        ∧ (s.svu.halted = false → t.svu.timeState = (if s.svu.timeState = .good then .degraded else s.svu.timeState)
            ∧ (s.svu.timeState = .good → t.noticed .time))) ∧
    (s.svu.source = .oscillator → exec .trefLoss s = .next s) ∧
    (s.svu.source = .oscillator → ∃ t : State, exec .oscillatorSecond s = .next t.arbitrate ∧ counted t
        ∧ t.svu.source = .oscillator ∧ t.svu.pulseRun = s.svu.pulseRun ∧ t.svu.timeState = s.svu.timeState) ∧
    (s.svu.source = .tref → exec .oscillatorSecond s = .next s)) ∧
  (∀ s : State, s.inReset = false → s.svu.halted = false → s.svu.badCodes = [] →
    let expired (t : State) : Prop := ∀ i, t.slot i =
      if (s.holdAt i).any (fun h => h.expiry.any fun m => m.toNat ≤ t.svu.minute.toNat) then ⟨none, (s.slot i).useCount + 1⟩
      else s.slot i
    (s.svu.source = .oscillator → s.svu.second = 59 → s.svu.timeState = .good →
      ∃ t : State, exec .oscillatorSecond s = .next t.arbitrate ∧ t.svu.minute = s.svu.minute + 1 ∧ expired t) ∧
    (∀ gap : Option Nat, (∀ g, gap = some g → 900 ≤ g) → s.svu.second = 59 → s.svu.timeState = .good →
      ∃ t : State, exec (.trefPulse gap) s = .next t.arbitrate ∧ t.svu.minute = s.svu.minute + 1 ∧ expired t) ∧
    (∀ g, s.svu.source = .tref → s.svu.pulseRun = 2 → 900 ≤ g → g ≤ 1100 → s.svu.timeSet = true → s.svu.timeState ≠ .good →
      ∃ t : State, exec (.trefPulse (some g)) s = .next t.arbitrate ∧ t.svu.timeState = .good
        ∧ t.svu.minute = (if s.svu.second = 59 then s.svu.minute + 1 else s.svu.minute) ∧ expired t))

/-- SET TIME (R165, R164, R38): the minute set, the second at its start, the time set, the time state GOOD when three pulses in a
row stand; the holds whose expiry has come end when the count rises in GOOD, or when GOOD begins. -/
def Obligations.SetTimeSets : Prop :=
  ∀ (s : State) (n : Nat), s.ready .controller →
    (4294967295 < n → exec (.setTime .controller n) s
      = .next (State.arbitrate (s.answer .controller 0x60 .refusedRange .empty))) ∧
    (n ≤ 4294967295 →
      let state : TimeState := if s.svu.pulseRun = 3 then .good else s.svu.timeState
      let due : Bool := if s.svu.timeState = .good then decide (s.svu.minute.toNat < n) else decide (s.svu.pulseRun = 3)
      ∃ t : State, exec (.setTime .controller n) s
          = .next (State.arbitrate (t.answer .controller 0x60 .done (.timeAfter (BitVec.ofNat 32 n) state)))
        ∧ t.svu = { s.svu with minute := BitVec.ofNat 32 n, second := 0, timeSet := true, timeState := state }
        ∧ (∀ i, t.slot i =
            if due && (s.holdAt i).any (fun h => h.expiry.any fun m => m.toNat ≤ n) then
              ⟨none, (s.slot i).useCount + 1⟩
            else s.slot i)
        ∧ (state ≠ s.svu.timeState → t.noticed .time)
        ∧ t.fmu = s.fmu ∧ t.rcs = s.rcs ∧ t.fsu.groups = s.fsu.groups ∧ t.lines = s.lines)

/-- LKEY_CHANGE changes the line alone (R54). RESET_ASSERT and SUPPLY_FALL put the part in the hold (R166, R156): ports empty with
their notices kept, staging closed, every runtime record, sequence, watch and timer at its start value, the time unset, HALTED
ended; the retained records stand, and those whose write is cut off, which the command carries (log entry 4), fail their check.
The time goes UNSET with no TIME notice (log entry 16). Either again changes nothing (log entry 7). -/
def Obligations.LinesHoldThePart : Prop :=
  ∀ (s : State) (cut : List RecordId),
    (∀ b, exec (.lkeyChange b) s = .next { s with lines.lkey := b }) ∧
    (s.lines.reset = true → exec (.resetAssert cut) s = .next s) ∧
    (s.lines.supplyLow = true → exec (.supplyFall cut) s = .next s) ∧
    (s.inReset = false →
      let held (t : State) := t.inReset = true ∧ t.attn = false ∧ t.haltLine = false ∧ t.svu.halted = false
        ∧ t.htu = s.htu ∧ t.fmu = { s.fmu with reachTable := none } ∧ t.fsu = { s.fsu with staging := none }
        ∧ t.sou = Sou.start s.sou.link ∧ (∀ k, t.seq k = Sequence.start (s.seq k).marker)
        ∧ t.ehu.watch = Watch.start ∧ t.ehu.params = s.ehu.params
        ∧ t.ehu.settleTimer = .stopped ∧ t.ehu.observeTimer = .stopped ∧ t.svu.scanTimer = .stopped
        ∧ t.ehu.huntCase = { s.ehu.huntCase with listen := .stopped }
        ∧ t.svu.minute = s.svu.minute ∧ t.svu.timeSet = false ∧ t.svu.timeState = .unset
        ∧ t.svu.startCause = s.svu.startCause
        ∧ t.svu.badCodes = s.svu.badCodes ++ cut.filter (fun r => !s.svu.badCodes.contains r)
        ∧ (∀ p, t.port p = { PortRecord.start with notices := (s.port p).notices })
      (∃ t : State, exec (.resetAssert cut) s = .next t ∧ held t ∧ t.lines = { s.lines with reset := true }) ∧
      (∃ t : State, exec (.supplyFall cut) s = .next t ∧ held t
        ∧ t.lines = { s.lines with supplyLow := true, fell := true }))

/-- RESET_RELEASE and SUPPLY_RECOVERY, a warm start with every record sound and no halt mark (R166, R167, R168, R104, R119, R155,
R68): the cause recorded and the START notice set; the tables, groups and season stand, the reach table built in SERVICE; the
levels follow the TFB line; the hold table stands (R43), its FIRE holds reconciled with the levels and the present zones (R78);
the records of the SOU at their start values with a poll wanted in SERVICE; each sequence UNCERTAIN or OUT-OF-SERVICE, a marker
found making a RESTART lockout; an open case abandoned for RESTART, its switch under test named in the left-open list, and another
kept whole. A release without RESET asserted, and a recovery without a low supply, change nothing (log entry 7). -/
def Obligations.WarmStartCompletes : Prop :=
  ∀ s : State, s.svu.validity = true → s.svu.badCodes = [] → s.svu.startCause.haltMark = false →
    let started (cause : StartCause) (t : State) := t.inReset = false ∧ t.lines.fell = false
      ∧ t.svu.startCause = ⟨some cause, some (match s.svu.startCause.first with | some c => c | none => cause), false⟩
      ∧ t.noticed .start ∧ t.svu.minute = s.svu.minute ∧ t.svu.timeState = .unset ∧ t.svu.halted = false
      ∧ t.svu.scanTimer = .running 600 600
      ∧ t.fmu = { s.fmu with
          reachTable := if s.fmu.mode = .service then some (Vector.ofFn fun k => s.fmu.switches[k].map fun c =>
            ⟨s.fmu.subtree c.downstream, s.fmu.segment c.downstream⟩) else none }
      ∧ t.fsu.groups = s.fsu.groups ∧ t.fsu.season = s.fsu.season ∧ t.fsu.tfb = s.lines.tfb ∧ t.fsu.staging = none
      ∧ t.levelsAgree ∧ t.ehu.thresholds = t.feederThresholds
      ∧ (∀ d, (t.district d).declared = (s.district d).declared ∧ (t.district d).version = (s.district d).version)
      ∧ t.sou.link = s.sou.link ∧ t.sou.awaited = none ∧ t.sou.answerTimer = .stopped
      ∧ (s.fmu.mode = .commissioning → t.sou.routineTimer = .stopped ∧ t.sou.headTimer = .stopped)
      ∧ (s.fmu.mode = .service →
          t.sou.routineTimer = .running (10 * s.sou.link.pollInterval) (10 * s.sou.link.pollInterval))
      ∧ (∀ k, (t.runtime k).position = .unknown ∧ (t.runtime k).condition = .sound ∧ (t.runtime k).slot = none
          ∧ (t.runtime k).inFlight = none ∧ (t.runtime k).confirmed = none
          ∧ ((t.runtime k).pollWanted.isSome = true ↔ s.configured k = true ∧ s.fmu.mode = .service))
      ∧ (∀ k, t.seq k = { Sequence.start none with
          state := if s.configured k = true ∧ s.fmu.mode = .service then .uncertain else .outOfService
          lastLockout := (s.seq k).marker.map fun _ => ⟨.restart, s.svu.minute⟩ })
      ∧ t.ehu.watch = Watch.start ∧ t.ehu.params = s.ehu.params
      ∧ (s.ehu.huntCase.state = .idle ∨ s.ehu.huntCase.state = .concluded →
          t.ehu.huntCase = { s.ehu.huntCase with listen := .stopped })
      ∧ (s.ehu.huntCase.state ≠ .idle → s.ehu.huntCase.state ≠ .concluded → t.noticed .hunt ∧ t.ehu.huntCase =
          { s.ehu.huntCase with
            state := .concluded, listen := .stopped, step := none, result := some .abandoned, abandon := some .restart
            leftOpen := match s.ehu.huntCase.step with
              | some st => if s.ehu.huntCase.leftOpen.any (·.switch == st.switch) then s.ehu.huntCase.leftOpen
                  else s.ehu.huntCase.leftOpen ++ [⟨st.switch, .noCloseBack⟩]
              | none => s.ehu.huntCase.leftOpen })
      ∧ (s.fireHandlesLive → s.emptySlots 8 → s.otherHoldsStand t ∧ t.countsTrue ∧ ∀ d,
          let wanted := (t.district d).effective = .ban ∧ s.districtZones d ≠ 0
          (∀ h, wanted → (s.district d).fire = some h → s.fireHoldKept t d h) ∧
          (wanted → (s.district d).fire = none → s.fireHoldPlaced t d) ∧
          (¬ wanted → s.fireHoldRetired t d))
    (s.lines.reset = true → s.lines.supplyLow = false →
      ∃ t : State, exec .resetRelease s = .next t.arbitrate
        ∧ started (if s.lines.fell = true then .supply else .resetLine) t) ∧
    (s.lines.supplyLow = true → s.lines.reset = false → s.lines.fell = true →
      ∃ t : State, exec .supplyRecovery s = .next t.arbitrate ∧ started .supply t) ∧
    (s.lines.reset = false → ∃ t : State, exec (.powerUp false []) s = .next t.arbitrate ∧ started .supply t) ∧
    (s.lines.reset = true → s.lines.supplyLow = true →
      exec .resetRelease s = .next { s with lines.reset := false } ∧
      exec .supplyRecovery s = .next { s with lines.supplyLow := false }) ∧
    (s.lines.reset = false → exec .resetRelease s = .next s) ∧
    (s.lines.supplyLow = false → exec .supplyRecovery s = .next s)

/-- A power-up without the validity marker is a cold start whatever stood before (R166, R167), TFB not asserted and RESET not
held: the part is as after reset, the queue, the LKEY line and the model's own counter apart; its CONTINUITY hold blocks every
close of every switch (R27, R43, R39). -/
def Obligations.ColdPowerUpBlocksEveryClose : Prop :=
  (∀ (s : State) (failed : List RecordId), s.lines.reset = false → s.lines.tfb = false →
    exec (.powerUp true failed) s = .next
      { State.reset with pending := s.pending, draws := s.draws, lines := { Lines.quiet with lkey := s.lines.lkey } }) ∧
  (∀ (k : SwitchNo) (kind : CloseKind), State.reset.closePermitted k kind = false)
end

