-- ==== Sys2Proof/Laws/State.lean ====
section
/-! SUPPORT. The fields of State under each basic update, one lemma per field and update, true by definition; then the records of one
switch, slot, district and port under them. A proof about an update never unfolds it. -/

namespace Sys2Proof.Machine

/-! ### setRuntime -/

@[simp] theorem State.setRuntime_pending (s : State) (k : SwitchNo) (r : Runtime) : (s.setRuntime k r).pending = s.pending := rfl
@[simp] theorem State.setRuntime_draws (s : State) (k : SwitchNo) (r : Runtime) : (s.setRuntime k r).draws = s.draws := rfl
@[simp] theorem State.setRuntime_lines (s : State) (k : SwitchNo) (r : Runtime) : (s.setRuntime k r).lines = s.lines := rfl
@[simp] theorem State.setRuntime_fmu (s : State) (k : SwitchNo) (r : Runtime) : (s.setRuntime k r).fmu = s.fmu := rfl
@[simp] theorem State.setRuntime_htu (s : State) (k : SwitchNo) (r : Runtime) : (s.setRuntime k r).htu = s.htu := rfl
@[simp] theorem State.setRuntime_fsu (s : State) (k : SwitchNo) (r : Runtime) : (s.setRuntime k r).fsu = s.fsu := rfl
@[simp] theorem State.setRuntime_rcs (s : State) (k : SwitchNo) (r : Runtime) : (s.setRuntime k r).rcs = s.rcs := rfl
@[simp] theorem State.setRuntime_ehu (s : State) (k : SwitchNo) (r : Runtime) : (s.setRuntime k r).ehu = s.ehu := rfl
@[simp] theorem State.setRuntime_svu (s : State) (k : SwitchNo) (r : Runtime) : (s.setRuntime k r).svu = s.svu := rfl
@[simp] theorem State.setRuntime_rqi (s : State) (k : SwitchNo) (r : Runtime) : (s.setRuntime k r).rqi = s.rqi := rfl

/-! ### putSeq -/

@[simp] theorem State.putSeq_pending (s : State) (k : SwitchNo) (q : Sequence) : (s.putSeq k q).pending = s.pending := rfl
@[simp] theorem State.putSeq_draws (s : State) (k : SwitchNo) (q : Sequence) : (s.putSeq k q).draws = s.draws := rfl
@[simp] theorem State.putSeq_lines (s : State) (k : SwitchNo) (q : Sequence) : (s.putSeq k q).lines = s.lines := rfl
@[simp] theorem State.putSeq_fmu (s : State) (k : SwitchNo) (q : Sequence) : (s.putSeq k q).fmu = s.fmu := rfl
@[simp] theorem State.putSeq_htu (s : State) (k : SwitchNo) (q : Sequence) : (s.putSeq k q).htu = s.htu := rfl
@[simp] theorem State.putSeq_fsu (s : State) (k : SwitchNo) (q : Sequence) : (s.putSeq k q).fsu = s.fsu := rfl
@[simp] theorem State.putSeq_sou (s : State) (k : SwitchNo) (q : Sequence) : (s.putSeq k q).sou = s.sou := rfl
@[simp] theorem State.putSeq_ehu (s : State) (k : SwitchNo) (q : Sequence) : (s.putSeq k q).ehu = s.ehu := rfl
@[simp] theorem State.putSeq_svu (s : State) (k : SwitchNo) (q : Sequence) : (s.putSeq k q).svu = s.svu := rfl
@[simp] theorem State.putSeq_rqi (s : State) (k : SwitchNo) (q : Sequence) : (s.putSeq k q).rqi = s.rqi := rfl

/-! ### setSlot -/

@[simp] theorem State.setSlot_pending (s : State) (i : SlotNo) (v : Slot) : (s.setSlot i v).pending = s.pending := rfl
@[simp] theorem State.setSlot_draws (s : State) (i : SlotNo) (v : Slot) : (s.setSlot i v).draws = s.draws := rfl
@[simp] theorem State.setSlot_lines (s : State) (i : SlotNo) (v : Slot) : (s.setSlot i v).lines = s.lines := rfl
@[simp] theorem State.setSlot_fmu (s : State) (i : SlotNo) (v : Slot) : (s.setSlot i v).fmu = s.fmu := rfl
@[simp] theorem State.setSlot_fsu (s : State) (i : SlotNo) (v : Slot) : (s.setSlot i v).fsu = s.fsu := rfl
@[simp] theorem State.setSlot_sou (s : State) (i : SlotNo) (v : Slot) : (s.setSlot i v).sou = s.sou := rfl
@[simp] theorem State.setSlot_rcs (s : State) (i : SlotNo) (v : Slot) : (s.setSlot i v).rcs = s.rcs := rfl
@[simp] theorem State.setSlot_ehu (s : State) (i : SlotNo) (v : Slot) : (s.setSlot i v).ehu = s.ehu := rfl
@[simp] theorem State.setSlot_svu (s : State) (i : SlotNo) (v : Slot) : (s.setSlot i v).svu = s.svu := rfl
@[simp] theorem State.setSlot_rqi (s : State) (i : SlotNo) (v : Slot) : (s.setSlot i v).rqi = s.rqi := rfl

/-! ### setDistrict -/

@[simp] theorem State.setDistrict_pending (s : State) (d : DistrictNo) (v : District) : (s.setDistrict d v).pending = s.pending := rfl
@[simp] theorem State.setDistrict_draws (s : State) (d : DistrictNo) (v : District) : (s.setDistrict d v).draws = s.draws := rfl
@[simp] theorem State.setDistrict_lines (s : State) (d : DistrictNo) (v : District) : (s.setDistrict d v).lines = s.lines := rfl
@[simp] theorem State.setDistrict_fmu (s : State) (d : DistrictNo) (v : District) : (s.setDistrict d v).fmu = s.fmu := rfl
@[simp] theorem State.setDistrict_htu (s : State) (d : DistrictNo) (v : District) : (s.setDistrict d v).htu = s.htu := rfl
@[simp] theorem State.setDistrict_sou (s : State) (d : DistrictNo) (v : District) : (s.setDistrict d v).sou = s.sou := rfl
@[simp] theorem State.setDistrict_rcs (s : State) (d : DistrictNo) (v : District) : (s.setDistrict d v).rcs = s.rcs := rfl
@[simp] theorem State.setDistrict_ehu (s : State) (d : DistrictNo) (v : District) : (s.setDistrict d v).ehu = s.ehu := rfl
@[simp] theorem State.setDistrict_svu (s : State) (d : DistrictNo) (v : District) : (s.setDistrict d v).svu = s.svu := rfl
@[simp] theorem State.setDistrict_rqi (s : State) (d : DistrictNo) (v : District) : (s.setDistrict d v).rqi = s.rqi := rfl

/-! ### setPort -/

@[simp] theorem State.setPort_pending (s : State) (p : Port) (v : PortRecord) : (s.setPort p v).pending = s.pending := rfl
@[simp] theorem State.setPort_draws (s : State) (p : Port) (v : PortRecord) : (s.setPort p v).draws = s.draws := rfl
@[simp] theorem State.setPort_lines (s : State) (p : Port) (v : PortRecord) : (s.setPort p v).lines = s.lines := rfl
@[simp] theorem State.setPort_fmu (s : State) (p : Port) (v : PortRecord) : (s.setPort p v).fmu = s.fmu := rfl
@[simp] theorem State.setPort_htu (s : State) (p : Port) (v : PortRecord) : (s.setPort p v).htu = s.htu := rfl
@[simp] theorem State.setPort_fsu (s : State) (p : Port) (v : PortRecord) : (s.setPort p v).fsu = s.fsu := rfl
@[simp] theorem State.setPort_sou (s : State) (p : Port) (v : PortRecord) : (s.setPort p v).sou = s.sou := rfl
@[simp] theorem State.setPort_rcs (s : State) (p : Port) (v : PortRecord) : (s.setPort p v).rcs = s.rcs := rfl
@[simp] theorem State.setPort_ehu (s : State) (p : Port) (v : PortRecord) : (s.setPort p v).ehu = s.ehu := rfl
@[simp] theorem State.setPort_svu (s : State) (p : Port) (v : PortRecord) : (s.setPort p v).svu = s.svu := rfl

/-! ### onPorts -/

@[simp] theorem State.onPorts_pending (s : State) (f : PortRecord → PortRecord) : (s.onPorts f).pending = s.pending := rfl
@[simp] theorem State.onPorts_draws (s : State) (f : PortRecord → PortRecord) : (s.onPorts f).draws = s.draws := rfl
@[simp] theorem State.onPorts_lines (s : State) (f : PortRecord → PortRecord) : (s.onPorts f).lines = s.lines := rfl
@[simp] theorem State.onPorts_fmu (s : State) (f : PortRecord → PortRecord) : (s.onPorts f).fmu = s.fmu := rfl
@[simp] theorem State.onPorts_htu (s : State) (f : PortRecord → PortRecord) : (s.onPorts f).htu = s.htu := rfl
@[simp] theorem State.onPorts_fsu (s : State) (f : PortRecord → PortRecord) : (s.onPorts f).fsu = s.fsu := rfl
@[simp] theorem State.onPorts_sou (s : State) (f : PortRecord → PortRecord) : (s.onPorts f).sou = s.sou := rfl
@[simp] theorem State.onPorts_rcs (s : State) (f : PortRecord → PortRecord) : (s.onPorts f).rcs = s.rcs := rfl
@[simp] theorem State.onPorts_ehu (s : State) (f : PortRecord → PortRecord) : (s.onPorts f).ehu = s.ehu := rfl
@[simp] theorem State.onPorts_svu (s : State) (f : PortRecord → PortRecord) : (s.onPorts f).svu = s.svu := rfl

/-! ### notify -/

@[simp] theorem State.notify_pending (s : State) (n : Notice) : (s.notify n).pending = s.pending := rfl
@[simp] theorem State.notify_draws (s : State) (n : Notice) : (s.notify n).draws = s.draws := rfl
@[simp] theorem State.notify_lines (s : State) (n : Notice) : (s.notify n).lines = s.lines := rfl
@[simp] theorem State.notify_fmu (s : State) (n : Notice) : (s.notify n).fmu = s.fmu := rfl
@[simp] theorem State.notify_htu (s : State) (n : Notice) : (s.notify n).htu = s.htu := rfl
@[simp] theorem State.notify_fsu (s : State) (n : Notice) : (s.notify n).fsu = s.fsu := rfl
@[simp] theorem State.notify_sou (s : State) (n : Notice) : (s.notify n).sou = s.sou := rfl
@[simp] theorem State.notify_rcs (s : State) (n : Notice) : (s.notify n).rcs = s.rcs := rfl
@[simp] theorem State.notify_ehu (s : State) (n : Notice) : (s.notify n).ehu = s.ehu := rfl
@[simp] theorem State.notify_svu (s : State) (n : Notice) : (s.notify n).svu = s.svu := rfl

/-! ### dropReservation -/

@[simp] theorem State.dropReservation_pending (s : State) (p : Port) : (s.dropReservation p).pending = s.pending := rfl
@[simp] theorem State.dropReservation_draws (s : State) (p : Port) : (s.dropReservation p).draws = s.draws := rfl
@[simp] theorem State.dropReservation_lines (s : State) (p : Port) : (s.dropReservation p).lines = s.lines := rfl
@[simp] theorem State.dropReservation_fmu (s : State) (p : Port) : (s.dropReservation p).fmu = s.fmu := rfl
@[simp] theorem State.dropReservation_htu (s : State) (p : Port) : (s.dropReservation p).htu = s.htu := rfl
@[simp] theorem State.dropReservation_fsu (s : State) (p : Port) : (s.dropReservation p).fsu = s.fsu := rfl
@[simp] theorem State.dropReservation_sou (s : State) (p : Port) : (s.dropReservation p).sou = s.sou := rfl
@[simp] theorem State.dropReservation_rcs (s : State) (p : Port) : (s.dropReservation p).rcs = s.rcs := rfl
@[simp] theorem State.dropReservation_ehu (s : State) (p : Port) : (s.dropReservation p).ehu = s.ehu := rfl
@[simp] theorem State.dropReservation_svu (s : State) (p : Port) : (s.dropReservation p).svu = s.svu := rfl

/-! ### loseReservations -/

@[simp] theorem State.loseReservations_pending (s : State) (test : Reservation → Bool) : (s.loseReservations test).pending = s.pending := rfl
@[simp] theorem State.loseReservations_draws (s : State) (test : Reservation → Bool) : (s.loseReservations test).draws = s.draws := rfl
@[simp] theorem State.loseReservations_lines (s : State) (test : Reservation → Bool) : (s.loseReservations test).lines = s.lines := rfl
@[simp] theorem State.loseReservations_fmu (s : State) (test : Reservation → Bool) : (s.loseReservations test).fmu = s.fmu := rfl
@[simp] theorem State.loseReservations_htu (s : State) (test : Reservation → Bool) : (s.loseReservations test).htu = s.htu := rfl
@[simp] theorem State.loseReservations_fsu (s : State) (test : Reservation → Bool) : (s.loseReservations test).fsu = s.fsu := rfl
@[simp] theorem State.loseReservations_sou (s : State) (test : Reservation → Bool) : (s.loseReservations test).sou = s.sou := rfl
@[simp] theorem State.loseReservations_rcs (s : State) (test : Reservation → Bool) : (s.loseReservations test).rcs = s.rcs := rfl
@[simp] theorem State.loseReservations_ehu (s : State) (test : Reservation → Bool) : (s.loseReservations test).ehu = s.ehu := rfl
@[simp] theorem State.loseReservations_svu (s : State) (test : Reservation → Bool) : (s.loseReservations test).svu = s.svu := rfl

/-! ### loseHold -/

@[simp] theorem State.loseHold_pending (s : State) (h : Handle) : (s.loseHold h).pending = s.pending := rfl
@[simp] theorem State.loseHold_draws (s : State) (h : Handle) : (s.loseHold h).draws = s.draws := rfl
@[simp] theorem State.loseHold_lines (s : State) (h : Handle) : (s.loseHold h).lines = s.lines := rfl
@[simp] theorem State.loseHold_fmu (s : State) (h : Handle) : (s.loseHold h).fmu = s.fmu := rfl
@[simp] theorem State.loseHold_htu (s : State) (h : Handle) : (s.loseHold h).htu = s.htu := rfl
@[simp] theorem State.loseHold_fsu (s : State) (h : Handle) : (s.loseHold h).fsu = s.fsu := rfl
@[simp] theorem State.loseHold_sou (s : State) (h : Handle) : (s.loseHold h).sou = s.sou := rfl
@[simp] theorem State.loseHold_rcs (s : State) (h : Handle) : (s.loseHold h).rcs = s.rcs := rfl
@[simp] theorem State.loseHold_ehu (s : State) (h : Handle) : (s.loseHold h).ehu = s.ehu := rfl
@[simp] theorem State.loseHold_svu (s : State) (h : Handle) : (s.loseHold h).svu = s.svu := rfl

/-! ### loseDistrict -/

@[simp] theorem State.loseDistrict_pending (s : State) (d : DistrictNo) : (s.loseDistrict d).pending = s.pending := rfl
@[simp] theorem State.loseDistrict_draws (s : State) (d : DistrictNo) : (s.loseDistrict d).draws = s.draws := rfl
@[simp] theorem State.loseDistrict_lines (s : State) (d : DistrictNo) : (s.loseDistrict d).lines = s.lines := rfl
@[simp] theorem State.loseDistrict_fmu (s : State) (d : DistrictNo) : (s.loseDistrict d).fmu = s.fmu := rfl
@[simp] theorem State.loseDistrict_htu (s : State) (d : DistrictNo) : (s.loseDistrict d).htu = s.htu := rfl
@[simp] theorem State.loseDistrict_fsu (s : State) (d : DistrictNo) : (s.loseDistrict d).fsu = s.fsu := rfl
@[simp] theorem State.loseDistrict_sou (s : State) (d : DistrictNo) : (s.loseDistrict d).sou = s.sou := rfl
@[simp] theorem State.loseDistrict_rcs (s : State) (d : DistrictNo) : (s.loseDistrict d).rcs = s.rcs := rfl
@[simp] theorem State.loseDistrict_ehu (s : State) (d : DistrictNo) : (s.loseDistrict d).ehu = s.ehu := rfl
@[simp] theorem State.loseDistrict_svu (s : State) (d : DistrictNo) : (s.loseDistrict d).svu = s.svu := rfl

/-! ### recode -/

@[simp] theorem State.recode_pending (s : State) (r : RecordId) : (s.recode r).pending = s.pending := rfl
@[simp] theorem State.recode_draws (s : State) (r : RecordId) : (s.recode r).draws = s.draws := rfl
@[simp] theorem State.recode_lines (s : State) (r : RecordId) : (s.recode r).lines = s.lines := rfl
@[simp] theorem State.recode_fmu (s : State) (r : RecordId) : (s.recode r).fmu = s.fmu := rfl
@[simp] theorem State.recode_htu (s : State) (r : RecordId) : (s.recode r).htu = s.htu := rfl
@[simp] theorem State.recode_fsu (s : State) (r : RecordId) : (s.recode r).fsu = s.fsu := rfl
@[simp] theorem State.recode_sou (s : State) (r : RecordId) : (s.recode r).sou = s.sou := rfl
@[simp] theorem State.recode_rcs (s : State) (r : RecordId) : (s.recode r).rcs = s.rcs := rfl
@[simp] theorem State.recode_ehu (s : State) (r : RecordId) : (s.recode r).ehu = s.ehu := rfl
@[simp] theorem State.recode_rqi (s : State) (r : RecordId) : (s.recode r).rqi = s.rqi := rfl

/-! ### corrupt -/

@[simp] theorem State.corrupt_pending (s : State) (l : List RecordId) : (s.corrupt l).pending = s.pending := rfl
@[simp] theorem State.corrupt_draws (s : State) (l : List RecordId) : (s.corrupt l).draws = s.draws := rfl
@[simp] theorem State.corrupt_lines (s : State) (l : List RecordId) : (s.corrupt l).lines = s.lines := rfl
@[simp] theorem State.corrupt_fmu (s : State) (l : List RecordId) : (s.corrupt l).fmu = s.fmu := rfl
@[simp] theorem State.corrupt_htu (s : State) (l : List RecordId) : (s.corrupt l).htu = s.htu := rfl
@[simp] theorem State.corrupt_fsu (s : State) (l : List RecordId) : (s.corrupt l).fsu = s.fsu := rfl
@[simp] theorem State.corrupt_sou (s : State) (l : List RecordId) : (s.corrupt l).sou = s.sou := rfl
@[simp] theorem State.corrupt_rcs (s : State) (l : List RecordId) : (s.corrupt l).rcs = s.rcs := rfl
@[simp] theorem State.corrupt_ehu (s : State) (l : List RecordId) : (s.corrupt l).ehu = s.ehu := rfl
@[simp] theorem State.corrupt_rqi (s : State) (l : List RecordId) : (s.corrupt l).rqi = s.rqi := rfl

/-! ### wantPoll -/

@[simp] theorem State.wantPoll_pending (s : State) (k : SwitchNo) (c : PollClass) : (s.wantPoll k c).pending = s.pending := rfl
@[simp] theorem State.wantPoll_draws (s : State) (k : SwitchNo) (c : PollClass) : (s.wantPoll k c).draws = s.draws := rfl
@[simp] theorem State.wantPoll_lines (s : State) (k : SwitchNo) (c : PollClass) : (s.wantPoll k c).lines = s.lines := rfl
@[simp] theorem State.wantPoll_fmu (s : State) (k : SwitchNo) (c : PollClass) : (s.wantPoll k c).fmu = s.fmu := rfl
@[simp] theorem State.wantPoll_htu (s : State) (k : SwitchNo) (c : PollClass) : (s.wantPoll k c).htu = s.htu := rfl
@[simp] theorem State.wantPoll_fsu (s : State) (k : SwitchNo) (c : PollClass) : (s.wantPoll k c).fsu = s.fsu := rfl
@[simp] theorem State.wantPoll_rcs (s : State) (k : SwitchNo) (c : PollClass) : (s.wantPoll k c).rcs = s.rcs := rfl
@[simp] theorem State.wantPoll_ehu (s : State) (k : SwitchNo) (c : PollClass) : (s.wantPoll k c).ehu = s.ehu := rfl
@[simp] theorem State.wantPoll_svu (s : State) (k : SwitchNo) (c : PollClass) : (s.wantPoll k c).svu = s.svu := rfl
@[simp] theorem State.wantPoll_rqi (s : State) (k : SwitchNo) (c : PollClass) : (s.wantPoll k c).rqi = s.rqi := rfl

/-! ### freeLink -/

@[simp] theorem State.freeLink_pending (s : State) : s.freeLink.pending = s.pending := rfl
@[simp] theorem State.freeLink_draws (s : State) : s.freeLink.draws = s.draws := rfl
@[simp] theorem State.freeLink_lines (s : State) : s.freeLink.lines = s.lines := rfl
@[simp] theorem State.freeLink_fmu (s : State) : s.freeLink.fmu = s.fmu := rfl
@[simp] theorem State.freeLink_htu (s : State) : s.freeLink.htu = s.htu := rfl
@[simp] theorem State.freeLink_fsu (s : State) : s.freeLink.fsu = s.fsu := rfl
@[simp] theorem State.freeLink_rcs (s : State) : s.freeLink.rcs = s.rcs := rfl
@[simp] theorem State.freeLink_ehu (s : State) : s.freeLink.ehu = s.ehu := rfl
@[simp] theorem State.freeLink_svu (s : State) : s.freeLink.svu = s.svu := rfl
@[simp] theorem State.freeLink_rqi (s : State) : s.freeLink.rqi = s.rqi := rfl

/-! ### transmit -/

@[simp] theorem State.transmit_pending (s : State) (k : SwitchNo) (a : AwaitedKind) (m : OutMessage) : (s.transmit k a m).pending = s.pending := rfl
@[simp] theorem State.transmit_draws (s : State) (k : SwitchNo) (a : AwaitedKind) (m : OutMessage) : (s.transmit k a m).draws = s.draws := rfl
@[simp] theorem State.transmit_lines (s : State) (k : SwitchNo) (a : AwaitedKind) (m : OutMessage) : (s.transmit k a m).lines = s.lines := rfl
@[simp] theorem State.transmit_fmu (s : State) (k : SwitchNo) (a : AwaitedKind) (m : OutMessage) : (s.transmit k a m).fmu = s.fmu := rfl
@[simp] theorem State.transmit_htu (s : State) (k : SwitchNo) (a : AwaitedKind) (m : OutMessage) : (s.transmit k a m).htu = s.htu := rfl
@[simp] theorem State.transmit_fsu (s : State) (k : SwitchNo) (a : AwaitedKind) (m : OutMessage) : (s.transmit k a m).fsu = s.fsu := rfl
@[simp] theorem State.transmit_rcs (s : State) (k : SwitchNo) (a : AwaitedKind) (m : OutMessage) : (s.transmit k a m).rcs = s.rcs := rfl
@[simp] theorem State.transmit_ehu (s : State) (k : SwitchNo) (a : AwaitedKind) (m : OutMessage) : (s.transmit k a m).ehu = s.ehu := rfl
@[simp] theorem State.transmit_svu (s : State) (k : SwitchNo) (a : AwaitedKind) (m : OutMessage) : (s.transmit k a m).svu = s.svu := rfl
@[simp] theorem State.transmit_rqi (s : State) (k : SwitchNo) (a : AwaitedKind) (m : OutMessage) : (s.transmit k a m).rqi = s.rqi := rfl

/-! ### handThresholds -/

@[simp] theorem State.handThresholds_pending (s : State) : s.handThresholds.pending = s.pending := rfl
@[simp] theorem State.handThresholds_draws (s : State) : s.handThresholds.draws = s.draws := rfl
@[simp] theorem State.handThresholds_lines (s : State) : s.handThresholds.lines = s.lines := rfl
@[simp] theorem State.handThresholds_fmu (s : State) : s.handThresholds.fmu = s.fmu := rfl
@[simp] theorem State.handThresholds_htu (s : State) : s.handThresholds.htu = s.htu := rfl
@[simp] theorem State.handThresholds_fsu (s : State) : s.handThresholds.fsu = s.fsu := rfl
@[simp] theorem State.handThresholds_sou (s : State) : s.handThresholds.sou = s.sou := rfl
@[simp] theorem State.handThresholds_rcs (s : State) : s.handThresholds.rcs = s.rcs := rfl
@[simp] theorem State.handThresholds_svu (s : State) : s.handThresholds.svu = s.svu := rfl
@[simp] theorem State.handThresholds_rqi (s : State) : s.handThresholds.rqi = s.rqi := rfl

/-! ### stopPolls -/

@[simp] theorem State.stopPolls_pending (s : State) : s.stopPolls.pending = s.pending := rfl
@[simp] theorem State.stopPolls_draws (s : State) : s.stopPolls.draws = s.draws := rfl
@[simp] theorem State.stopPolls_lines (s : State) : s.stopPolls.lines = s.lines := rfl
@[simp] theorem State.stopPolls_fmu (s : State) : s.stopPolls.fmu = s.fmu := rfl
@[simp] theorem State.stopPolls_htu (s : State) : s.stopPolls.htu = s.htu := rfl
@[simp] theorem State.stopPolls_fsu (s : State) : s.stopPolls.fsu = s.fsu := rfl
@[simp] theorem State.stopPolls_rcs (s : State) : s.stopPolls.rcs = s.rcs := rfl
@[simp] theorem State.stopPolls_ehu (s : State) : s.stopPolls.ehu = s.ehu := rfl
@[simp] theorem State.stopPolls_svu (s : State) : s.stopPolls.svu = s.svu := rfl
@[simp] theorem State.stopPolls_rqi (s : State) : s.stopPolls.rqi = s.rqi := rfl

/-! ### nameLeftOpen -/

@[simp] theorem State.nameLeftOpen_pending (s : State) (k : SwitchNo) (r : LeftOpenReason) : (s.nameLeftOpen k r).pending = s.pending := rfl
@[simp] theorem State.nameLeftOpen_draws (s : State) (k : SwitchNo) (r : LeftOpenReason) : (s.nameLeftOpen k r).draws = s.draws := rfl
@[simp] theorem State.nameLeftOpen_lines (s : State) (k : SwitchNo) (r : LeftOpenReason) : (s.nameLeftOpen k r).lines = s.lines := rfl
@[simp] theorem State.nameLeftOpen_fmu (s : State) (k : SwitchNo) (r : LeftOpenReason) : (s.nameLeftOpen k r).fmu = s.fmu := rfl
@[simp] theorem State.nameLeftOpen_htu (s : State) (k : SwitchNo) (r : LeftOpenReason) : (s.nameLeftOpen k r).htu = s.htu := rfl
@[simp] theorem State.nameLeftOpen_fsu (s : State) (k : SwitchNo) (r : LeftOpenReason) : (s.nameLeftOpen k r).fsu = s.fsu := rfl
@[simp] theorem State.nameLeftOpen_sou (s : State) (k : SwitchNo) (r : LeftOpenReason) : (s.nameLeftOpen k r).sou = s.sou := rfl
@[simp] theorem State.nameLeftOpen_rcs (s : State) (k : SwitchNo) (r : LeftOpenReason) : (s.nameLeftOpen k r).rcs = s.rcs := rfl
@[simp] theorem State.nameLeftOpen_svu (s : State) (k : SwitchNo) (r : LeftOpenReason) : (s.nameLeftOpen k r).svu = s.svu := rfl
@[simp] theorem State.nameLeftOpen_rqi (s : State) (k : SwitchNo) (r : LeftOpenReason) : (s.nameLeftOpen k r).rqi = s.rqi := rfl

/-! ### concludeCase -/

@[simp] theorem State.concludeCase_pending (s : State) (r : ResultKind) : (s.concludeCase r).pending = s.pending := rfl
@[simp] theorem State.concludeCase_draws (s : State) (r : ResultKind) : (s.concludeCase r).draws = s.draws := rfl
@[simp] theorem State.concludeCase_lines (s : State) (r : ResultKind) : (s.concludeCase r).lines = s.lines := rfl
@[simp] theorem State.concludeCase_fmu (s : State) (r : ResultKind) : (s.concludeCase r).fmu = s.fmu := rfl
@[simp] theorem State.concludeCase_htu (s : State) (r : ResultKind) : (s.concludeCase r).htu = s.htu := rfl
@[simp] theorem State.concludeCase_fsu (s : State) (r : ResultKind) : (s.concludeCase r).fsu = s.fsu := rfl
@[simp] theorem State.concludeCase_sou (s : State) (r : ResultKind) : (s.concludeCase r).sou = s.sou := rfl
@[simp] theorem State.concludeCase_rcs (s : State) (r : ResultKind) : (s.concludeCase r).rcs = s.rcs := rfl
@[simp] theorem State.concludeCase_svu (s : State) (r : ResultKind) : (s.concludeCase r).svu = s.svu := rfl
@[simp] theorem State.concludeCase_rqi (s : State) (r : ResultKind) : (s.concludeCase r).rqi = s.rqi := rfl

/-! ### respond -/

@[simp] theorem State.respond_pending (s : State) (p : Port) (b : Byte) (c : Completion) : (s.respond p b c).pending = s.pending := rfl
@[simp] theorem State.respond_draws (s : State) (p : Port) (b : Byte) (c : Completion) : (s.respond p b c).draws = s.draws := rfl
@[simp] theorem State.respond_lines (s : State) (p : Port) (b : Byte) (c : Completion) : (s.respond p b c).lines = s.lines := rfl
@[simp] theorem State.respond_fmu (s : State) (p : Port) (b : Byte) (c : Completion) : (s.respond p b c).fmu = s.fmu := rfl
@[simp] theorem State.respond_htu (s : State) (p : Port) (b : Byte) (c : Completion) : (s.respond p b c).htu = s.htu := rfl
@[simp] theorem State.respond_fsu (s : State) (p : Port) (b : Byte) (c : Completion) : (s.respond p b c).fsu = s.fsu := rfl
@[simp] theorem State.respond_sou (s : State) (p : Port) (b : Byte) (c : Completion) : (s.respond p b c).sou = s.sou := rfl
@[simp] theorem State.respond_rcs (s : State) (p : Port) (b : Byte) (c : Completion) : (s.respond p b c).rcs = s.rcs := rfl
@[simp] theorem State.respond_ehu (s : State) (p : Port) (b : Byte) (c : Completion) : (s.respond p b c).ehu = s.ehu := rfl
@[simp] theorem State.respond_svu (s : State) (p : Port) (b : Byte) (c : Completion) : (s.respond p b c).svu = s.svu := rfl

/-! ### markDiscard -/

@[simp] theorem State.markDiscard_pending (s : State) (p : Port) : (s.markDiscard p).pending = s.pending := rfl
@[simp] theorem State.markDiscard_draws (s : State) (p : Port) : (s.markDiscard p).draws = s.draws := rfl
@[simp] theorem State.markDiscard_lines (s : State) (p : Port) : (s.markDiscard p).lines = s.lines := rfl
@[simp] theorem State.markDiscard_fmu (s : State) (p : Port) : (s.markDiscard p).fmu = s.fmu := rfl
@[simp] theorem State.markDiscard_htu (s : State) (p : Port) : (s.markDiscard p).htu = s.htu := rfl
@[simp] theorem State.markDiscard_fsu (s : State) (p : Port) : (s.markDiscard p).fsu = s.fsu := rfl
@[simp] theorem State.markDiscard_sou (s : State) (p : Port) : (s.markDiscard p).sou = s.sou := rfl
@[simp] theorem State.markDiscard_rcs (s : State) (p : Port) : (s.markDiscard p).rcs = s.rcs := rfl
@[simp] theorem State.markDiscard_ehu (s : State) (p : Port) : (s.markDiscard p).ehu = s.ehu := rfl
@[simp] theorem State.markDiscard_svu (s : State) (p : Port) : (s.markDiscard p).svu = s.svu := rfl

/-! ### fillRegister -/

@[simp] theorem State.fillRegister_pending (s : State) (p : Port) (r : Reservation) : (s.fillRegister p r).pending = s.pending := rfl
@[simp] theorem State.fillRegister_draws (s : State) (p : Port) (r : Reservation) : (s.fillRegister p r).draws = s.draws := rfl
@[simp] theorem State.fillRegister_lines (s : State) (p : Port) (r : Reservation) : (s.fillRegister p r).lines = s.lines := rfl
@[simp] theorem State.fillRegister_fmu (s : State) (p : Port) (r : Reservation) : (s.fillRegister p r).fmu = s.fmu := rfl
@[simp] theorem State.fillRegister_htu (s : State) (p : Port) (r : Reservation) : (s.fillRegister p r).htu = s.htu := rfl
@[simp] theorem State.fillRegister_fsu (s : State) (p : Port) (r : Reservation) : (s.fillRegister p r).fsu = s.fsu := rfl
@[simp] theorem State.fillRegister_sou (s : State) (p : Port) (r : Reservation) : (s.fillRegister p r).sou = s.sou := rfl
@[simp] theorem State.fillRegister_rcs (s : State) (p : Port) (r : Reservation) : (s.fillRegister p r).rcs = s.rcs := rfl
@[simp] theorem State.fillRegister_ehu (s : State) (p : Port) (r : Reservation) : (s.fillRegister p r).ehu = s.ehu := rfl
@[simp] theorem State.fillRegister_svu (s : State) (p : Port) (r : Reservation) : (s.fillRegister p r).svu = s.svu := rfl

/-! ### answer -/

@[simp] theorem State.answer_pending (s : State) (p : Port) (b : Byte) (c : Code) (d : ResponseData) : (s.answer p b c d).pending = s.pending := rfl
@[simp] theorem State.answer_draws (s : State) (p : Port) (b : Byte) (c : Code) (d : ResponseData) : (s.answer p b c d).draws = s.draws := rfl
@[simp] theorem State.answer_lines (s : State) (p : Port) (b : Byte) (c : Code) (d : ResponseData) : (s.answer p b c d).lines = s.lines := rfl
@[simp] theorem State.answer_fmu (s : State) (p : Port) (b : Byte) (c : Code) (d : ResponseData) : (s.answer p b c d).fmu = s.fmu := rfl
@[simp] theorem State.answer_htu (s : State) (p : Port) (b : Byte) (c : Code) (d : ResponseData) : (s.answer p b c d).htu = s.htu := rfl
@[simp] theorem State.answer_fsu (s : State) (p : Port) (b : Byte) (c : Code) (d : ResponseData) : (s.answer p b c d).fsu = s.fsu := rfl
@[simp] theorem State.answer_sou (s : State) (p : Port) (b : Byte) (c : Code) (d : ResponseData) : (s.answer p b c d).sou = s.sou := rfl
@[simp] theorem State.answer_rcs (s : State) (p : Port) (b : Byte) (c : Code) (d : ResponseData) : (s.answer p b c d).rcs = s.rcs := rfl
@[simp] theorem State.answer_ehu (s : State) (p : Port) (b : Byte) (c : Code) (d : ResponseData) : (s.answer p b c d).ehu = s.ehu := rfl
@[simp] theorem State.answer_svu (s : State) (p : Port) (b : Byte) (c : Code) (d : ResponseData) : (s.answer p b c d).svu = s.svu := rfl

/-! ### taking -/

@[simp] theorem State.taking_pending (s : State) (p : Port) : (s.taking p).pending = s.pending := rfl
@[simp] theorem State.taking_draws (s : State) (p : Port) : (s.taking p).draws = s.draws := rfl
@[simp] theorem State.taking_lines (s : State) (p : Port) : (s.taking p).lines = s.lines := rfl
@[simp] theorem State.taking_fmu (s : State) (p : Port) : (s.taking p).fmu = s.fmu := rfl
@[simp] theorem State.taking_htu (s : State) (p : Port) : (s.taking p).htu = s.htu := rfl
@[simp] theorem State.taking_fsu (s : State) (p : Port) : (s.taking p).fsu = s.fsu := rfl
@[simp] theorem State.taking_sou (s : State) (p : Port) : (s.taking p).sou = s.sou := rfl
@[simp] theorem State.taking_rcs (s : State) (p : Port) : (s.taking p).rcs = s.rcs := rfl
@[simp] theorem State.taking_ehu (s : State) (p : Port) : (s.taking p).ehu = s.ehu := rfl
@[simp] theorem State.taking_svu (s : State) (p : Port) : (s.taking p).svu = s.svu := rfl

/-! ### The records of one switch, slot, district and port -/

theorem State.runtime_setRuntime (s : State) (k j : SwitchNo) (r : Runtime) :
    (s.setRuntime k r).runtime j = if k = j then r else s.runtime j := by
  simp [State.runtime, State.setRuntime, Vector.getElem_set, Fin.ext_iff]
@[simp] theorem State.runtime_setRuntime_same (s : State) (k : SwitchNo) (r : Runtime) : (s.setRuntime k r).runtime k = r := by
  simp [State.runtime_setRuntime]
@[simp] theorem State.runtime_setRuntime_other (s : State) {k j : SwitchNo} (r : Runtime) (h : j ≠ k) :
    (s.setRuntime k r).runtime j = s.runtime j := by
  simp [State.runtime_setRuntime, Ne.symm h]

theorem State.seq_putSeq (s : State) (k j : SwitchNo) (q : Sequence) :
    (s.putSeq k q).seq j = if k = j then q else s.seq j := by
  simp [State.seq, State.putSeq, Vector.getElem_set, Fin.ext_iff]
@[simp] theorem State.seq_putSeq_same (s : State) (k : SwitchNo) (q : Sequence) : (s.putSeq k q).seq k = q := by
  simp [State.seq_putSeq]
@[simp] theorem State.seq_putSeq_other (s : State) {k j : SwitchNo} (q : Sequence) (h : j ≠ k) :
    (s.putSeq k q).seq j = s.seq j := by
  simp [State.seq_putSeq, Ne.symm h]

theorem State.slot_setSlot (s : State) (i j : SlotNo) (v : Slot) : (s.setSlot i v).slot j = if i = j then v else s.slot j := by
  simp [State.slot, State.setSlot, Vector.getElem_set, Fin.ext_iff]
@[simp] theorem State.slot_setSlot_same (s : State) (i : SlotNo) (v : Slot) : (s.setSlot i v).slot i = v := by
  simp [State.slot_setSlot]
@[simp] theorem State.slot_setSlot_other (s : State) {i j : SlotNo} (v : Slot) (h : j ≠ i) :
    (s.setSlot i v).slot j = s.slot j := by
  simp [State.slot_setSlot, Ne.symm h]

theorem State.district_setDistrict (s : State) (d e : DistrictNo) (v : District) :
    (s.setDistrict d v).district e = if d = e then v else s.district e := by
  simp [State.district, State.setDistrict, Vector.getElem_set, Fin.ext_iff]
@[simp] theorem State.district_setDistrict_same (s : State) (d : DistrictNo) (v : District) :
    (s.setDistrict d v).district d = v := by
  simp [State.district_setDistrict]
@[simp] theorem State.district_setDistrict_other (s : State) {d e : DistrictNo} (v : District) (h : e ≠ d) :
    (s.setDistrict d v).district e = s.district e := by
  simp [State.district_setDistrict, Ne.symm h]

theorem State.port_setPort (s : State) (p q : Port) (v : PortRecord) :
    (s.setPort p v).port q = if p = q then v else s.port q := by
  cases p <;> cases q <;> rfl
@[simp] theorem State.port_setPort_same (s : State) (p : Port) (v : PortRecord) : (s.setPort p v).port p = v := by
  cases p <;> rfl
@[simp] theorem State.port_setPort_other (s : State) {p q : Port} (v : PortRecord) (h : q ≠ p) :
    (s.setPort p v).port q = s.port q := by
  simp [State.port_setPort, Ne.symm h]
@[simp] theorem State.setPort_setPort (s : State) (p : Port) (v w : PortRecord) :
    (s.setPort p v).setPort p w = s.setPort p w := by
  cases p <;> rfl
@[simp] theorem State.setPort_port (s : State) (p : Port) : s.setPort p (s.port p) = s := by
  cases p <;> rfl

/-- Every record read through a state that agrees on the block it stands in. -/
theorem State.runtime_congr {s t : State} (h : t.sou = s.sou) (k : SwitchNo) : t.runtime k = s.runtime k := by
  simp [State.runtime, h]
theorem State.seq_congr {s t : State} (h : t.rcs = s.rcs) (k : SwitchNo) : t.seq k = s.seq k := by simp [State.seq, h]
theorem State.slot_congr {s t : State} (h : t.htu = s.htu) (i : SlotNo) : t.slot i = s.slot i := by simp [State.slot, h]
theorem State.holdAt_congr {s t : State} (h : t.htu = s.htu) (i : SlotNo) : t.holdAt i = s.holdAt i := by
  simp [State.holdAt, State.slot, h]
theorem State.config_congr {s t : State} (h : t.fmu = s.fmu) (k : SwitchNo) : t.config k = s.config k := by
  simp [State.config, h]
theorem State.district_congr {s t : State} (h : t.fsu = s.fsu) (d : DistrictNo) : t.district d = s.district d := by
  simp [State.district, h]

/-- A notice set stands in both ports' sets, and the others are as they were. -/
theorem State.noticed_notify (s : State) (n : Notice) : (s.notify n).noticed n := by
  cases n <;> exact ⟨rfl, rfl⟩
theorem State.noticed_kept (s : State) (m n : Notice) (h : s.noticed m) : (s.notify n).noticed m := by
  obtain ⟨a, b⟩ := h
  cases m <;> cases n <;> constructor <;> first | rfl | exact a | exact b

end Sys2Proof.Machine
end

