-- ==== Sys2Proof/Laws/Holds.lean ====
section
/-! SUPPORT. What placement and departure do to the hold table, said once: the slot, the other slots, the counts, the notices, the
reservations, and the blocks left alone. -/

namespace Sys2Proof.Machine

/-! ## The counts (R19) -/

theorem LiveCounts.get_modify_same (c : LiveCounts) (f : Nat → Nat) (o : Origin) : (c.modify f o).get o = f (c.get o) := by
  cases o <;> rfl
theorem LiveCounts.get_modify_other (c : LiveCounts) (f : Nat → Nat) {o p : Origin} (h : p ≠ o) :
    (c.modify f o).get p = c.get p := by
  cases o <;> cases p <;> first | rfl | exact absurd rfl h

/-! ## The lowest empty slot (R25) -/

theorem State.lowestEmpty_spec {s : State} {i : SlotNo} (h : s.lowestEmpty = some i) :
    s.holdAt i = none ∧ ∀ j, j < i → (s.holdAt j).isSome = true := by
  unfold State.lowestEmpty allSlots at h
  constructor
  · have := List.find?_some h; simpa using this
  · intro j hj
    rw [List.find?_eq_some_iff_getElem] at h
    obtain ⟨_, n, hn, he, hb⟩ := h
    have hi : i.val = n := by rw [← he]; simp
    have hj' : j.val < i.val := hj
    have := hb j.val (by omega)
    cases e : s.holdAt j <;> simp_all

theorem State.lowestEmpty_of {s : State} {i : SlotNo} (h : s.holdAt i = none) (hl : ∀ j, j < i → (s.holdAt j).isSome = true) :
    s.lowestEmpty = some i := by
  unfold State.lowestEmpty allSlots
  rw [List.find?_eq_some_iff_getElem]
  refine ⟨by simp [h], i.val, by simp, by simp, ?_⟩
  intro j hj
  have := hl ⟨j, by omega⟩ hj
  cases e : s.holdAt ⟨j, by omega⟩ <;> simp_all

/-! ## Placement (R25, R27) -/

/-- Placement with an empty slot: the hold stands in the lowest one, with that slot's use count. -/
theorem State.placeHold_of {s : State} {i : SlotNo} (h : s.holdAt i = none) (hl : ∀ j, j < i → (s.holdAt j).isSome = true)
    (r : Hold) :
    s.placeHold r =
      ((({ s with htu.counts := s.htu.counts.modify (· + 1) r.origin }).setSlot i { s.slot i with hold := some r }).notify .hold,
        some ⟨i, (s.slot i).useCount⟩) := by
  unfold State.placeHold
  rw [State.lowestEmpty_of h hl]
  rfl

/-- Placement leaves every block but the hold table and the ports alone. -/
theorem State.placeHold_frame (s : State) (r : Hold) :
    (s.placeHold r).1.pending = s.pending ∧ (s.placeHold r).1.draws = s.draws ∧ (s.placeHold r).1.lines = s.lines
      ∧ (s.placeHold r).1.fmu = s.fmu ∧ (s.placeHold r).1.fsu = s.fsu ∧ (s.placeHold r).1.sou = s.sou
      ∧ (s.placeHold r).1.rcs = s.rcs ∧ (s.placeHold r).1.ehu = s.ehu ∧ (s.placeHold r).1.svu = s.svu := by
  unfold State.placeHold
  split <;> simp

/-- The slots after a placement. -/
theorem State.placeHold_slot {s : State} {i : SlotNo} (h : s.holdAt i = none) (hl : ∀ j, j < i → (s.holdAt j).isSome = true)
    (r : Hold) (j : SlotNo) :
    (s.placeHold r).1.slot j = if i = j then { s.slot i with hold := some r } else s.slot j := by
  rw [State.placeHold_of h hl]
  show (State.setSlot _ i _).slot j = _
  rw [State.slot_setSlot]
  rfl

/-! ## Departure (R35) -/

theorem State.loseReservations_port (s : State) (test : Reservation → Bool) (p : Port) :
    (s.loseReservations test).port p =
      if (s.port p).reservation.any test then { s.port p with reservation := none } else s.port p := by
  cases p <;> rfl

theorem State.dropHandle_htu (s : State) (o : Origin) (h : Handle) : (s.dropHandle o h).htu = s.htu := by
  unfold State.dropHandle; split <;> first | rfl | (split <;> rfl)

theorem State.dropHandle_rqi (s : State) (o : Origin) (h : Handle) : (s.dropHandle o h).rqi = s.rqi := by
  unfold State.dropHandle; split <;> first | rfl | (split <;> rfl)

/-- What a departure leaves before the owner drops its handle: the slot empty, its use count advanced, its reservations lost, the HOLD
notice set. -/
def State.emptied (s : State) (i : SlotNo) : State :=
  ((s.setSlot i ⟨none, (s.slot i).useCount + 1⟩).loseHold ⟨i, (s.slot i).useCount⟩).notify .hold

theorem State.vacate_empty {s : State} {i : SlotNo} (h : s.holdAt i = none) : s.vacate i = s.emptied i := by
  have h' : (s.slot i).hold = none := h
  unfold State.vacate State.emptied
  simp only [h']

theorem State.vacate_live {s : State} {i : SlotNo} {r : Hold} (h : s.holdAt i = some r) :
    s.vacate i = State.dropHandle { s.emptied i with htu.counts := (s.emptied i).htu.counts.modify (· - 1) r.origin } r.origin
      ⟨i, (s.slot i).useCount⟩ := by
  have h' : (s.slot i).hold = some r := h
  unfold State.vacate State.emptied
  simp only [h']

/-- The slot that empties has its use count advanced; the others stand. -/
theorem State.vacate_slot (s : State) (i j : SlotNo) :
    (s.vacate i).slot j = if i = j then ⟨none, (s.slot i).useCount + 1⟩ else s.slot j := by
  cases h : s.holdAt i with
  | none => rw [State.vacate_empty h]; exact State.slot_setSlot s i j _
  | some r =>
    rw [State.vacate_live h, State.slot_congr (State.dropHandle_htu _ _ _)]
    exact State.slot_setSlot s i j _

/-- The counts after the departure of a live hold. -/
theorem State.vacate_counts {s : State} {i : SlotNo} {r : Hold} (h : s.holdAt i = some r) :
    (s.vacate i).htu.counts = s.htu.counts.modify (· - 1) r.origin := by
  rw [State.vacate_live h, State.dropHandle_htu]
  rfl

/-- The HOLD notice is set at a departure. -/
theorem State.vacate_noticed (s : State) (i : SlotNo) : (s.vacate i).noticed .hold := by
  cases h : s.holdAt i with
  | none => rw [State.vacate_empty h]; exact State.noticed_notify _ _
  | some r =>
    rw [State.vacate_live h, State.noticed, State.dropHandle_rqi]
    exact State.noticed_notify _ _

/-- No register names a hold that has departed. -/
theorem State.vacate_reservation (s : State) (i : SlotNo) (p : Port) (v : Version) :
    ((s.vacate i).port p).reservation ≠ some (.hold ⟨i, (s.slot i).useCount⟩ v) := by
  have lost : ((s.emptied i).port p).reservation ≠ some (.hold ⟨i, (s.slot i).useCount⟩ v) := by
    have key : ((s.emptied i).port p).reservation
        = ((s.loseReservations (·.namesHold ⟨i, (s.slot i).useCount⟩)).port p).reservation := by cases p <;> rfl
    rw [key, State.loseReservations_port]
    split
    · simp
    · rename_i h
      intro e
      exact h (by simp [e, Reservation.namesHold])
  cases h : s.holdAt i with
  | none => rw [State.vacate_empty h]; exact lost
  | some r =>
    rw [State.vacate_live h, State.port, State.dropHandle_rqi]
    exact lost

/-- Each handle of the records names a FIRE hold of its district: as a test that can be evaluated. -/
theorem State.fireHandlesLive_of {s : State}
    (h : (allDistricts.all fun d => (s.district d).fire.all fun x =>
      (s.liveHold x).any fun r => r.origin == .fire && r.cause == some (.district d)) = true) : s.fireHandlesLive := by
  intro d x hx
  have := List.all_eq_true.mp h d (by simp [allDistricts])
  rw [hx] at this
  simpa [Option.any_eq_true] using this

end Sys2Proof.Machine
end

