-- ==== Sys2Proof/Laws/Counts.lean ====
section
/-! SUPPORT. The counts of live holds (R19, R23, R42): placement and departure keep them true, and the share of the ports. -/

namespace Sys2Proof.Machine

/-- Changing a test at one member of a list without repetitions moves its count by that member alone. -/
theorem length_filter_update {α : Type} (l : List α) (i : α) (hi : i ∈ l) (hn : l.Nodup) (p q : α → Bool)
    (h : ∀ j, j ≠ i → q j = p j) :
    (l.filter q).length + (p i).toNat = (l.filter p).length + (q i).toNat := by
  induction l with
  | nil => cases hi
  | cons x l ih =>
    rw [List.nodup_cons] at hn
    by_cases e : x = i
    · subst e
      have : l.filter q = l.filter p := by
        apply List.filter_congr
        intro j hj
        exact h j (fun e => hn.1 (e ▸ hj))
      cases hp : p x <;> cases hq : q x <;> simp [hp, hq, this]
    · have hi' : i ∈ l := by
        rcases List.mem_cons.1 hi with e' | h'
        · exact absurd e'.symm e
        · exact h'
      have := ih hi' hn.2
      have hx := h x e
      cases hp : p x <;> simp [hp, hx] <;> omega

/-- The number of live holds of an origin after one slot changed. -/
theorem State.liveOf_update {s t : State} (i : SlotNo) (h : ∀ j, j ≠ i → t.holdAt j = s.holdAt j) (o : Origin) :
    t.liveOf o + ((s.holdAt i).any (·.origin == o)).toNat = s.liveOf o + ((t.holdAt i).any (·.origin == o)).toNat := by
  unfold State.liveOf allSlots
  exact length_filter_update _ i (List.mem_finRange i) (List.nodup_finRange 64)
    (fun j => (s.holdAt j).any (·.origin == o)) (fun j => (t.holdAt j).any (·.origin == o)) (fun j hj => by simp only [h j hj])

theorem State.liveOf_congr {s t : State} (h : t.htu = s.htu) (o : Origin) : t.liveOf o = s.liveOf o := by
  unfold State.liveOf
  simp [State.holdAt_congr h]

theorem State.countsTrue_congr {s t : State} (h : t.htu = s.htu) : t.countsTrue ↔ s.countsTrue := by
  unfold State.countsTrue
  simp [State.liveOf_congr h, h]

/-- Placement keeps the counts true. -/
theorem State.placeHold_countsTrue {s : State} (r : Hold) (h : s.countsTrue) : (s.placeHold r).1.countsTrue := by
  cases e : s.lowestEmpty with
  | none => rw [show s.placeHold r = (s, none) by unfold State.placeHold; rw [e]]; exact h
  | some i =>
    obtain ⟨he, hl⟩ := State.lowestEmpty_spec e
    intro o
    have slot := State.placeHold_slot he hl r
    have other : ∀ j, j ≠ i → (s.placeHold r).1.holdAt j = s.holdAt j := by
      intro j hj
      simp [State.holdAt, slot, Ne.symm hj]
    have here : (s.placeHold r).1.holdAt i = some r := by simp [State.holdAt, slot]
    have live := State.liveOf_update i other o
    rw [he, here] at live
    have counts : (s.placeHold r).1.htu.counts = s.htu.counts.modify (· + 1) r.origin := by
      rw [State.placeHold_of he hl]; rfl
    have := h o
    rw [counts]
    by_cases eo : o = r.origin
    · subst eo
      rw [LiveCounts.get_modify_same]
      simp at live
      omega
    · rw [LiveCounts.get_modify_other _ _ eo]
      have : (r.origin == o) = false := by simpa using fun h => eo h.symm
      simp [this] at live
      omega

/-- Departure keeps the counts true. -/
theorem State.vacate_countsTrue {s : State} (i : SlotNo) (h : s.countsTrue) : (s.vacate i).countsTrue := by
  intro o
  have other : ∀ j, j ≠ i → (s.vacate i).holdAt j = s.holdAt j := by
    intro j hj
    simp [State.holdAt, State.vacate_slot, Ne.symm hj]
  have here : (s.vacate i).holdAt i = none := by simp [State.holdAt, State.vacate_slot]
  have live := State.liveOf_update i other o
  rw [here] at live
  have := h o
  cases e : s.holdAt i with
  | none =>
    rw [e] at live
    have counts : (s.vacate i).htu.counts = s.htu.counts := by rw [State.vacate_empty e]; rfl
    rw [counts]
    simp at live
    omega
  | some r =>
    rw [e] at live
    rw [State.vacate_counts e]
    by_cases eo : o = r.origin
    · subst eo
      rw [LiveCounts.get_modify_same]
      simp at live
      omega
    · rw [LiveCounts.get_modify_other _ _ eo]
      have : (r.origin == o) = false := by simpa using fun h => eo h.symm
      simp [this] at live
      omega

/-- A departure leaves no origin with more live holds. -/
theorem State.vacate_liveOf (s : State) (i : SlotNo) (o : Origin) : (s.vacate i).liveOf o ≤ s.liveOf o := by
  have other : ∀ j, j ≠ i → (s.vacate i).holdAt j = s.holdAt j := by
    intro j hj
    simp [State.holdAt, State.vacate_slot, Ne.symm hj]
  have here : (s.vacate i).holdAt i = none := by simp [State.holdAt, State.vacate_slot]
  have live := State.liveOf_update i other o
  rw [here] at live
  simp at live
  omega

/-- A placement adds a live hold of its origin alone. -/
theorem State.placeHold_liveOf (s : State) (r : Hold) (o : Origin) :
    (s.placeHold r).1.liveOf o ≤ s.liveOf o + (r.origin == o).toNat := by
  cases e : s.lowestEmpty with
  | none => rw [show s.placeHold r = (s, none) by unfold State.placeHold; rw [e]]; simp
  | some i =>
    obtain ⟨he, hl⟩ := State.lowestEmpty_spec e
    have slot := State.placeHold_slot he hl r
    have other : ∀ j, j ≠ i → (s.placeHold r).1.holdAt j = s.holdAt j := by
      intro j hj
      simp [State.holdAt, slot, Ne.symm hj]
    have here : (s.placeHold r).1.holdAt i = some r := by simp [State.holdAt, slot]
    have live := State.liveOf_update i other o
    rw [he, here] at live
    simp at live
    omega

/-- Counting afresh makes the counts true (R42). -/
theorem State.recount_true (s : State) : State.countsTrue { s with htu.counts := s.recount } := by
  intro o
  cases o <;> rfl

end Sys2Proof.Machine
end

