-- ==== Sys2Proof/Laws/Formats.lean ====
section
/-! SUPPORT. What the receiver makes of a frame that the framing built: the check is never unfolded. -/

namespace Sys2Proof.Machine

/-- A field-link frame around a body of fewer than 255 bytes passes the receiver's length and check tests. -/
theorem parseInbound_linkFrame (address type : Byte) (body : List Byte) (h : body.length < 255) :
    parseInbound (linkFrame address type body) = (inboundBody type body).map (address, ·) := by
  have hl : (BitVec.ofNat 8 (body.length + 1)).toNat = body.length + 1 := by
    simp only [BitVec.toNat_ofNat]; omega
  unfold linkFrame parseInbound
  generalize hc : crc16 (address :: BitVec.ofNat 8 (body.length + 1) :: type :: body) = check
  simp only [List.cons_append, hl, List.length_cons, List.length_append, hc]
  have hb : (be16 check.toNat).length = 2 := rfl
  have ht : (address :: BitVec.ofNat 8 (body.length + 1) :: type :: (body ++ be16 check.toNat)).take (body.length + 1 + 2)
      = address :: BitVec.ofNat 8 (body.length + 1) :: type :: body := by simp
  have hd : (address :: BitVec.ofNat 8 (body.length + 1) :: type :: (body ++ be16 check.toNat)).drop (body.length + 1 + 2)
      = be16 check.toNat := by simp
  have hr : (body ++ be16 check.toNat).take (body.length + 1 - 1) = body := by simp
  rw [ht, hd, hc, hr]
  have : body.length + (be16 check.toNat).length + 1 + 1 + 1 = body.length + 1 + 4 ∧ 1 ≤ body.length + 1 := by
    rw [hb]; omega
  rw [if_pos this, if_pos rfl]

/-- A 16-bit number is read back from its two bytes. -/
theorem be16_read (n : BitVec 16) : BitVec.ofNat 8 (n.toNat / 256) ++ BitVec.ofNat 8 n.toNat = n := by
  apply BitVec.eq_of_toNat_eq
  have := n.isLt
  rw [BitVec.toNat_append, Nat.shiftLeft_eq]
  simp only [BitVec.toNat_ofNat]
  rw [Nat.mod_eq_of_lt (by omega : n.toNat / 256 < 2 ^ 8), Nat.mul_comm,
    ← Nat.two_pow_add_eq_or_of_lt (i := 8) (b := n.toNat % 2 ^ 8) (Nat.mod_lt _ (by decide))]
  omega

end Sys2Proof.Machine
end

