-- ==== Sys2Proof/Laws/View.lean ====
section
/-! SUPPORT. What the operations of the blocks leave alone: the queue, the lines, the free-value counter, the setting groups, the
season, the FSU's TFB state and every district's declared level, effective level and version (`State.view`). One lemma per
operation, so that a proof about these never unfolds one. -/

set_option linter.unusedSimpArgs false
set_option linter.unusedTactic false
set_option linter.unreachableTactic false
set_option linter.unnecessarySeqFocus false

namespace Sys2Proof.Machine

/-- A district record without its FIRE handle. -/
def District.level (d : District) : Level × Level × Version := (d.declared, d.effective, d.version)

/-- The part of the FSU's records that only the FSU's own changes touch. -/
def Fsu.view (f : Fsu) : Groups × Season × Bool × Vector (Level × Level × Version) 8 :=
  (f.groups, f.season, f.tfb, Vector.ofFn fun d => f.districts[d].level)

/-- The view from its parts. -/
def viewOf (p : List Instr) (n : Nat) (l : Lines) (f : Fsu) := (p, n, l, f.view)

/-- The queue, the counter, the lines and the FSU's view. -/
def State.view (s : State) := viewOf s.pending s.draws s.lines s.fsu

@[simp] theorem view_mk (p n l fm h f so r e sv q) :
    State.view ⟨p, n, l, fm, h, f, so, r, e, sv, q⟩ = viewOf p n l f := rfl
@[simp] theorem viewOf_state (s : State) : viewOf s.pending s.draws s.lines s.fsu = s.view := rfl
theorem viewOf_staging (p n l) (f : Fsu) (g : Option Staging) : viewOf p n l { f with staging := g } = viewOf p n l f := rfl

/-- A fold of operations that keep the view keeps it. -/
theorem foldl_view {α : Type} (f : State → α → State) (h : ∀ s x, (f s x).view = s.view) (l : List α) (s : State) :
    (l.foldl f s).view = s.view := by
  induction l generalizing s with
  | nil => rfl
  | cons x l ih => rw [List.foldl_cons, ih, h]

@[simp] theorem State.setRuntime_view (s : State) (k : SwitchNo) (r : Runtime) :
    (s.setRuntime k r).view = s.view := by
  unfold State.setRuntime; try dsimp only
  (repeat' split) <;> simp_all [foldl_view]
@[simp] theorem State.putSeq_view (s : State) (k : SwitchNo) (q : Sequence) :
    (s.putSeq k q).view = s.view := by
  unfold State.putSeq; try dsimp only
  (repeat' split) <;> simp_all [foldl_view]
@[simp] theorem State.setSlot_view (s : State) (i : SlotNo) (v : Slot) :
    (s.setSlot i v).view = s.view := by
  unfold State.setSlot; try dsimp only
  (repeat' split) <;> simp_all [foldl_view]
@[simp] theorem State.setPort_view (s : State) (p : Port) (v : PortRecord) :
    (s.setPort p v).view = s.view := by
  unfold State.setPort; try dsimp only
  (repeat' split) <;> simp_all [foldl_view]
@[simp] theorem State.onPorts_view (s : State) (f : PortRecord → PortRecord) :
    (s.onPorts f).view = s.view := by
  unfold State.onPorts; try dsimp only
  (repeat' split) <;> simp_all [foldl_view]
@[simp] theorem State.notify_view (s : State) (n : Notice) :
    (s.notify n).view = s.view := by
  unfold State.notify; try dsimp only
  (repeat' split) <;> simp_all [foldl_view]
@[simp] theorem State.dropReservation_view (s : State) (p : Port) :
    (s.dropReservation p).view = s.view := by
  unfold State.dropReservation; try dsimp only
  (repeat' split) <;> simp_all [foldl_view]
@[simp] theorem State.loseReservations_view (s : State) (test : Reservation → Bool) :
    (s.loseReservations test).view = s.view := by
  unfold State.loseReservations; try dsimp only
  (repeat' split) <;> simp_all [foldl_view]
@[simp] theorem State.loseHold_view (s : State) (h : Handle) :
    (s.loseHold h).view = s.view := by
  unfold State.loseHold; try dsimp only
  (repeat' split) <;> simp_all [foldl_view]
@[simp] theorem State.loseDistrict_view (s : State) (d : DistrictNo) :
    (s.loseDistrict d).view = s.view := by
  unfold State.loseDistrict; try dsimp only
  (repeat' split) <;> simp_all [foldl_view]
@[simp] theorem State.recode_view (s : State) (r : RecordId) :
    (s.recode r).view = s.view := by
  unfold State.recode; try dsimp only
  (repeat' split) <;> simp_all [foldl_view]
@[simp] theorem State.corrupt_view (s : State) (rs : List RecordId) :
    (s.corrupt rs).view = s.view := by
  unfold State.corrupt; try dsimp only
  (repeat' split) <;> simp_all [foldl_view]
@[simp] theorem State.placeHold_view (s : State) (h : Hold) :
    (s.placeHold h).1.view = s.view := by
  unfold State.placeHold; try dsimp only
  (repeat' split) <;> simp_all [foldl_view]
@[simp] theorem State.dropHandle_view (s : State) (origin : Origin) (h : Handle) :
    (s.dropHandle origin h).view = s.view := by
  have h1 : ∀ d : DistrictNo, (s.fsu.districts[d].dropHandle h).level = s.fsu.districts[d].level := by
    intro d; unfold District.dropHandle; split <;> rfl
  unfold State.dropHandle
  split
  · simp only [State.view, viewOf, Fsu.view, Prod.mk.injEq, true_and]
    congr 1; funext d; simpa using h1 d
  · split <;> rfl
  · rfl
@[simp] theorem State.vacate_view (s : State) (i : SlotNo) :
    (s.vacate i).view = s.view := by
  unfold State.vacate; try dsimp only
  (repeat' split) <;> simp_all [foldl_view]
@[simp] theorem State.widen_view (s : State) (i : SlotNo) :
    (s.widen i).view = s.view := by
  unfold State.widen; try dsimp only
  (repeat' split) <;> simp_all [foldl_view]
@[simp] theorem State.widenAll_view (s : State) :
    (s.widenAll).1.view = s.view := by
  unfold State.widenAll; try dsimp only
  (repeat' split) <;> simp_all [foldl_view]
@[simp] theorem State.wantPoll_view (s : State) (k : SwitchNo) (c : PollClass) :
    (s.wantPoll k c).view = s.view := by
  unfold State.wantPoll; try dsimp only
  (repeat' split) <;> simp_all [foldl_view]
@[simp] theorem State.enterLocating_view (s : State) :
    (s.enterLocating).view = s.view := by
  unfold State.enterLocating; try dsimp only
  (repeat' split) <;> simp_all [foldl_view]
@[simp] theorem State.startCase_view (s : State) (origin : StartOrigin) (essential : Bool) :
    (s.startCase origin essential).view = s.view := by
  unfold State.startCase; try dsimp only
  (repeat' split) <;> simp_all [foldl_view]
@[simp] theorem State.attemptFailed_view (s : State) (r : StartRefusal) :
    (s.attemptFailed r).view = s.view := by
  unfold State.attemptFailed; try dsimp only
  (repeat' split) <;> simp_all [foldl_view]
@[simp] theorem State.attemptStart_view (s : State) :
    (s.attemptStart).view = s.view := by
  unfold State.attemptStart; try dsimp only
  (repeat' split) <;> simp_all [foldl_view]
@[simp] theorem State.retryStart_view (s : State) :
    (s.retryStart).view = s.view := by
  unfold State.retryStart; try dsimp only
  (repeat' split) <;> simp_all [foldl_view]
@[simp] theorem State.reportDeparture_view (s : State) (origin : Origin) :
    (s.reportDeparture origin).view = s.view := by
  unfold State.reportDeparture; try dsimp only
  (repeat' split) <;> simp_all [foldl_view]
@[simp] theorem State.departHold_view (s : State) (i : SlotNo) :
    (s.departHold i).view = s.view := by
  unfold State.departHold; try dsimp only
  (repeat' split) <;> simp_all [foldl_view]
@[simp] theorem State.expireHolds_view (s : State) :
    (s.expireHolds).view = s.view := by
  unfold State.expireHolds; try dsimp only
  (repeat' split) <;> simp_all [foldl_view]
@[simp] theorem State.concludeCase_view (s : State) (r : ResultKind) :
    (s.concludeCase r).view = s.view := by
  unfold State.concludeCase; try dsimp only
  (repeat' split) <;> simp_all [foldl_view]
@[simp] theorem State.concludeSelfCleared_view (s : State) :
    (s.concludeSelfCleared).view = s.view := by
  unfold State.concludeSelfCleared; try dsimp only
  (repeat' split) <;> simp_all [foldl_view]
@[simp] theorem State.concludeAbandoned_view (s : State) (r : AbandonReason) :
    (s.concludeAbandoned r).view = s.view := by
  unfold State.concludeAbandoned; try dsimp only
  (repeat' split) <;> simp_all [foldl_view]
@[simp] theorem State.pendAbandon_view (s : State) (r : AbandonReason) :
    (s.pendAbandon r).view = s.view := by
  unfold State.pendAbandon; try dsimp only
  (repeat' split) <;> simp_all [foldl_view]
@[simp] theorem State.abandonCase_view (s : State) (r : AbandonReason) :
    (s.abandonCase r).view = s.view := by
  unfold State.abandonCase; try dsimp only
  (repeat' split) <;> simp_all [foldl_view]
@[simp] theorem State.resumeCase_view (s : State) :
    (s.resumeCase).view = s.view := by
  unfold State.resumeCase; try dsimp only
  (repeat' split) <;> simp_all [foldl_view]
@[simp] theorem State.checkResume_view (s : State) :
    (s.checkResume).view = s.view := by
  unfold State.checkResume; try dsimp only
  (repeat' split) <;> simp_all [foldl_view]
@[simp] theorem State.suspendCase_view (s : State) (p : Suspension) :
    (s.suspendCase p).view = s.view := by
  unfold State.suspendCase; try dsimp only
  (repeat' split) <;> simp_all [foldl_view]
@[simp] theorem State.countReport_view (s : State) (n : Nat) :
    (s.countReport n).view = s.view := by
  unfold State.countReport; try dsimp only
  (repeat' split) <;> simp_all [foldl_view]
@[simp] theorem State.disturb_view (s : State) :
    (s.disturb).view = s.view := by
  unfold State.disturb; try dsimp only
  (repeat' split) <;> simp_all [foldl_view]
@[simp] theorem State.pendCause_view (s : State) (p : Suspension) :
    (s.pendCause p).view = s.view := by
  unfold State.pendCause; try dsimp only
  (repeat' split) <;> simp_all [foldl_view]
@[simp] theorem State.causeArises_view (s : State) (p : Suspension) :
    (s.causeArises p).view = s.view := by
  unfold State.causeArises; try dsimp only
  (repeat' split) <;> simp_all [foldl_view]
@[simp] theorem State.huntTrip_view (s : State) (k : SwitchNo) :
    (s.huntTrip k).view = s.view := by
  unfold State.huntTrip; try dsimp only
  (repeat' split) <;> simp_all [foldl_view]
@[simp] theorem State.conditionReport_view (s : State) (k : SwitchNo) :
    (s.conditionReport k).view = s.view := by
  unfold State.conditionReport; try dsimp only
  (repeat' split) <;> simp_all [foldl_view]
@[simp] theorem State.setCondition_view (s : State) (k : SwitchNo) (c : Condition) :
    (s.setCondition k c).view = s.view := by
  unfold State.setCondition; try dsimp only
  (repeat' split) <;> simp_all [foldl_view]
@[simp] theorem State.huntPosition_view (s : State) (k : SwitchNo) (p : Pole) (changed : Bool) :
    (s.huntPosition k p changed).view = s.view := by
  unfold State.huntPosition; try dsimp only
  (repeat' split) <;> simp_all [foldl_view]
@[simp] theorem State.huntOperateTaken_view (s : State) (k : SwitchNo) :
    (s.huntOperateTaken k).view = s.view := by
  unfold State.huntOperateTaken; try dsimp only
  (repeat' split) <;> simp_all [foldl_view]
@[simp] theorem State.watchMove_view (s : State) (before after : Bool) :
    (s.watchMove before after).view = s.view := by
  unfold State.watchMove; try dsimp only
  (repeat' split) <;> simp_all [foldl_view]
@[simp] theorem State.caseFlagCleared_view (s : State) :
    (s.caseFlagCleared).view = s.view := by
  unfold State.caseFlagCleared; try dsimp only
  (repeat' split) <;> simp_all [foldl_view]
@[simp] theorem State.observeHead_view (s : State) (c : ReportClass) :
    (s.observeHead c).view = s.view := by
  unfold State.observeHead; try dsimp only
  (repeat' split) <;> simp_all [foldl_view]
@[simp] theorem State.watchHead_view (s : State) (v : Nat) (q : Quality) (c : ReportClass) :
    (s.watchHead v q c).view = s.view := by
  unfold State.watchHead; try dsimp only
  (repeat' split) <;> simp_all [foldl_view]
@[simp] theorem State.headReport_view (s : State) (v : Nat) (q : Quality) :
    (s.headReport v q).view = s.view := by
  unfold State.headReport; try dsimp only
  (repeat' split) <;> simp_all [foldl_view]
@[simp] theorem State.locateReport_view (s : State) (t : SwitchNo) (v : Nat) (p : Pole) :
    (s.locateReport t v p).view = s.view := by
  unfold State.locateReport; try dsimp only
  (repeat' split) <;> simp_all [foldl_view]
@[simp] theorem State.residualReport_view (s : State) (k : SwitchNo) (v : Nat) (q : Quality) (p : Pole) :
    (s.residualReport k v q p).view = s.view := by
  unfold State.residualReport; try dsimp only
  (repeat' split) <;> simp_all [foldl_view]
@[simp] theorem State.rearmWatch_view (s : State) :
    (s.rearmWatch).view = s.view := by
  unfold State.rearmWatch; try dsimp only
  (repeat' split) <;> simp_all [foldl_view]
@[simp] theorem State.handThresholds_view (s : State) :
    (s.handThresholds).view = s.view := by
  unfold State.handThresholds; try dsimp only
  (repeat' split) <;> simp_all [foldl_view]
@[simp] theorem State.reviewProfile_view (s : State) (k : SwitchNo) :
    (s.reviewProfile k).view = s.view := by
  unfold State.reviewProfile; try dsimp only
  (repeat' split) <;> simp_all [foldl_view]
@[simp] theorem State.reviewProfiles_view (s : State) (ks : List SwitchNo) :
    (s.reviewProfiles ks).view = s.view := by
  unfold State.reviewProfiles; try dsimp only
  (repeat' split) <;> simp_all [foldl_view]
@[simp] theorem State.setSeq_view (s : State) (k : SwitchNo) (q : Sequence) :
    (s.setSeq k q).view = s.view := by
  unfold State.setSeq; try dsimp only
  (repeat' split) <;> simp_all [foldl_view]
@[simp] theorem State.settleSeq_view (s : State) (k : SwitchNo) (st : SeqState) :
    (s.settleSeq k st).view = s.view := by
  unfold State.settleSeq; try dsimp only
  (repeat' split) <;> simp_all [foldl_view]
@[simp] theorem State.lockOut_view (s : State) (k : SwitchNo) (r : LockoutReason) :
    (s.lockOut k r).view = s.view := by
  unfold State.lockOut; try dsimp only
  (repeat' split) <;> simp_all [foldl_view]
@[simp] theorem State.enterReclaim_view (s : State) (k : SwitchNo) (n : Nat) :
    (s.enterReclaim k n).view = s.view := by
  unfold State.enterReclaim; try dsimp only
  (repeat' split) <;> simp_all [foldl_view]
@[simp] theorem State.enterDeadTime_view (s : State) (k : SwitchNo) (n : Nat) (c : FaultClass) :
    (s.enterDeadTime k n c).view = s.view := by
  unfold State.enterDeadTime; try dsimp only
  (repeat' split) <;> simp_all [foldl_view]
@[simp] theorem State.judgeTrip_view (s : State) (k : SwitchNo) (used : Nat) (c : FaultClass) :
    (s.judgeTrip k used c).view = s.view := by
  unfold State.judgeTrip; try dsimp only
  (repeat' split) <;> simp_all [foldl_view]
@[simp] theorem State.rcsTrip_view (s : State) (k : SwitchNo) (c : FaultClass) :
    (s.rcsTrip k c).view = s.view := by
  unfold State.rcsTrip; try dsimp only
  (repeat' split) <;> simp_all [foldl_view]
@[simp] theorem State.rcsPosition_view (s : State) (k : SwitchNo) (p : Pole) :
    (s.rcsPosition k p).view = s.view := by
  unfold State.rcsPosition; try dsimp only
  (repeat' split) <;> simp_all [foldl_view]
@[simp] theorem State.settleByPosition_view (s : State) (k : SwitchNo) :
    (s.settleByPosition k).view = s.view := by
  unfold State.settleByPosition; try dsimp only
  (repeat' split) <;> simp_all [foldl_view]
@[simp] theorem State.cancelSeq_view (s : State) (k : SwitchNo) :
    (s.cancelSeq k).view = s.view := by
  unfold State.cancelSeq; try dsimp only
  (repeat' split) <;> simp_all [foldl_view]
@[simp] theorem State.recloseEnded_view (s : State) (k : SwitchNo) (n : Nat) (res : OpResult) :
    (s.recloseEnded k n res).view = s.view := by
  unfold State.recloseEnded; try dsimp only
  (repeat' split) <;> simp_all [foldl_view]
@[simp] theorem State.rcsCloseResult_view (s : State) (k : SwitchNo) (classes : Classes) (res : OpResult) :
    (s.rcsCloseResult k classes res).view = s.view := by
  unfold State.rcsCloseResult; try dsimp only
  (repeat' split) <;> simp_all [foldl_view]
@[simp] theorem State.rcsOpenResult_view (s : State) (k : SwitchNo) (res : OpResult) :
    (s.rcsOpenResult k res).view = s.view := by
  unfold State.rcsOpenResult; try dsimp only
  (repeat' split) <;> simp_all [foldl_view]
@[simp] theorem State.rcsResult_view (s : State) (k : SwitchNo) (action : SwitchAction) (classes : Classes) (res : OpResult) :
    (s.rcsResult k action classes res).view = s.view := by
  unfold State.rcsResult; try dsimp only
  (repeat' split) <;> simp_all [foldl_view]
@[simp] theorem State.rcsAccepted_view (s : State) (k : SwitchNo) (action : SwitchAction) :
    (s.rcsAccepted k action).view = s.view := by
  unfold State.rcsAccepted; try dsimp only
  (repeat' split) <;> simp_all [foldl_view]
@[simp] theorem State.reevaluate_view (s : State) (k : SwitchNo) :
    (s.reevaluate k).view = s.view := by
  unfold State.reevaluate; try dsimp only
  (repeat' split) <;> simp_all [foldl_view]
@[simp] theorem State.reevaluateAll_view (s : State) (ks : List SwitchNo) :
    (s.reevaluateAll ks).view = s.view := by
  unfold State.reevaluateAll; try dsimp only
  (repeat' split) <;> simp_all [foldl_view]
@[simp] theorem State.rcsEnterService_view (s : State) :
    (s.rcsEnterService).view = s.view := by
  unfold State.rcsEnterService; try dsimp only
  (repeat' split) <;> simp_all [foldl_view]
@[simp] theorem State.rcsLeave_view (s : State) (k : SwitchNo) :
    (s.rcsLeave k).view = s.view := by
  unfold State.rcsLeave; try dsimp only
  (repeat' split) <;> simp_all [foldl_view]
@[simp] theorem State.rcsLeaveService_view (s : State) :
    (s.rcsLeaveService).view = s.view := by
  unfold State.rcsLeaveService; try dsimp only
  (repeat' split) <;> simp_all [foldl_view]
@[simp] theorem State.recordResult_view (s : State) (k : SwitchNo) (q : OpRequest) (res : OpResult) :
    (s.recordResult k q res).view = s.view := by
  unfold State.recordResult; try dsimp only
  (repeat' split) <;> simp_all [foldl_view]
@[simp] theorem State.endInSlot_view (s : State) (k : SwitchNo) (q : OpRequest) (res : OpResult) :
    (s.endInSlot k q res).view = s.view := by
  unfold State.endInSlot; try dsimp only
  (repeat' split) <;> simp_all [foldl_view]
@[simp] theorem State.enterSlot_view (s : State) (k : SwitchNo) (q : OpRequest) :
    (s.enterSlot k q).1.view = s.view := by
  unfold State.enterSlot; try dsimp only
  (repeat' split) <;> simp_all [foldl_view]
@[simp] theorem State.requestSlot_view (s : State) (k : SwitchNo) (q : OpRequest) :
    (s.requestSlot k q).1.view = s.view := by
  unfold State.requestSlot; try dsimp only
  (repeat' split) <;> simp_all [foldl_view]
@[simp] theorem State.requestByBlock_view (s : State) (k : SwitchNo) (q : OpRequest) :
    (s.requestByBlock k q).1.view = s.view := by
  unfold State.requestByBlock; try dsimp only
  (repeat' split) <;> simp_all [foldl_view]
@[simp] theorem State.concludeWithHold_view (s : State) (r : ResultKind) (kind : HoldKind) (scope : ZoneSet) :
    (s.concludeWithHold r kind scope).view = s.view := by
  unfold State.concludeWithHold; try dsimp only
  (repeat' split) <;> simp_all [foldl_view]
@[simp] theorem State.concludeNarrowed_view (s : State) (r : ResultKind) :
    (s.concludeNarrowed r).view = s.view := by
  unfold State.concludeNarrowed; try dsimp only
  (repeat' split) <;> simp_all [foldl_view]
@[simp] theorem State.raiseSuspicion_view (s : State) (z : ZoneSet) :
    (s.raiseSuspicion z).view = s.view := by
  unfold State.raiseSuspicion; try dsimp only
  (repeat' split) <;> simp_all [foldl_view]
@[simp] theorem State.isolateFound_view (s : State) (k : SwitchNo) :
    (s.isolateFound k).view = s.view := by
  have h := s.requestByBlock_view k (.hunt .toOpen)
  unfold State.isolateFound
  (repeat' split) <;> simp_all
@[simp] theorem State.concludeFound_view (s : State) (k : SwitchNo) :
    (s.concludeFound k).view = s.view := by
  unfold State.concludeFound; try dsimp only
  (repeat' split) <;> simp_all [foldl_view]
@[simp] theorem State.concludeByCandidates_view (s : State) :
    (s.concludeByCandidates).view = s.view := by
  unfold State.concludeByCandidates; try dsimp only
  (repeat' split) <;> simp_all [foldl_view]
@[simp] theorem State.beginStep_view (s : State) (t : SwitchNo) :
    (s.beginStep t).view = s.view := by
  unfold State.beginStep; try dsimp only
  (repeat' split) <;> simp_all [foldl_view]
@[simp] theorem State.choose_view (s : State) :
    (s.choose).view = s.view := by
  unfold State.choose; try dsimp only
  (repeat' split) <;> simp_all [foldl_view]
@[simp] theorem State.afterStep_view (s : State) (t : SwitchNo) (o : StepOutcome) (own : OwnCourse) :
    (s.afterStep t o own).view = s.view := by
  unfold State.afterStep; try dsimp only
  (repeat' split) <;> simp_all [foldl_view]
@[simp] theorem State.endStep_view (s : State) (t : SwitchNo) (o : StepOutcome) (own : OwnCourse) :
    (s.endStep t o own).view = s.view := by
  unfold State.endStep; try dsimp only
  (repeat' split) <;> simp_all [foldl_view]
@[simp] theorem State.nameLeftOpen_view (s : State) (k : SwitchNo) (r : LeftOpenReason) :
    (s.nameLeftOpen k r).view = s.view := by
  unfold State.nameLeftOpen; try dsimp only
  (repeat' split) <;> simp_all [foldl_view]
@[simp] theorem State.closeBackHeld_view (s : State) (t : SwitchNo) (o : StepOutcome) (failed : Bool) :
    (s.closeBackHeld t o failed).view = s.view := by
  unfold State.closeBackHeld; try dsimp only
  (repeat' split) <;> simp_all [foldl_view]
@[simp] theorem State.askCloseBack_view (s : State) (t : SwitchNo) (o : StepOutcome) :
    (s.askCloseBack t o).view = s.view := by
  have h := State.requestByBlock_view { s with ehu.huntCase.step := some ⟨t, .closingBack, some o⟩ } t (.hunt .toClose)
  have h0 : State.view { s with ehu.huntCase.step := some ⟨t, .closingBack, some o⟩ } = s.view := rfl
  rw [h0] at h
  unfold State.askCloseBack; dsimp only
  split <;> rename_i heq <;> rw [heq] at h <;> simpa using h
@[simp] theorem State.applyOutcome_view (s : State) (t : SwitchNo) (o : StepOutcome) :
    (s.applyOutcome t o).view = s.view := by
  unfold State.applyOutcome; try dsimp only
  (repeat' split) <;> simp_all [foldl_view]
@[simp] theorem State.openEnded_view (s : State) (t : SwitchNo) (res : OpResult) :
    (s.openEnded t res).view = s.view := by
  unfold State.openEnded; try dsimp only
  (repeat' split) <;> simp_all [foldl_view]
@[simp] theorem State.closeBackEnded_view (s : State) (t : SwitchNo) (o : StepOutcome) (res : OpResult) :
    (s.closeBackEnded t o res).view = s.view := by
  unfold State.closeBackEnded; try dsimp only
  (repeat' split) <;> simp_all [foldl_view]
@[simp] theorem State.huntResult_view (s : State) (k : SwitchNo) (q : OpRequest) (res : OpResult) (changed : Bool) :
    (s.huntResult k q res changed).view = s.view := by
  unfold State.huntResult; try dsimp only
  (repeat' split) <;> simp_all [foldl_view]
@[simp] theorem State.endRequest_view (s : State) (k : SwitchNo) (q : OpRequest) (res : OpResult) :
    (s.endRequest k q res).view = s.view := by
  unfold State.endRequest; try dsimp only
  (repeat' split) <;> simp_all [foldl_view]
@[simp] theorem State.cancelClose_view (s : State) (k : SwitchNo) :
    (s.cancelClose k).view = s.view := by
  unfold State.cancelClose; try dsimp only
  (repeat' split) <;> simp_all [foldl_view]
@[simp] theorem State.endOperation_view (s : State) (k : SwitchNo) (q : OpRequest) (res : OpResult) (p : Position) :
    (s.endOperation k q res p).view = s.view := by
  unfold State.endOperation; try dsimp only
  (repeat' split) <;> simp_all [foldl_view]
@[simp] theorem State.reportPosition_view (s : State) (k : SwitchNo) (p : Pole) (changed : Bool) :
    (s.reportPosition k p changed).view = s.view := by
  unfold State.reportPosition; try dsimp only
  (repeat' split) <;> simp_all [foldl_view]
@[simp] theorem State.takeResidual_view (s : State) (k : SwitchNo) (p : Pole) (raw : Option (BitVec 16)) :
    (s.takeResidual k p raw).view = s.view := by
  unfold State.takeResidual; try dsimp only
  (repeat' split) <;> simp_all [foldl_view]
@[simp] theorem State.freeLink_view (s : State) :
    (s.freeLink).view = s.view := by
  unfold State.freeLink; try dsimp only
  (repeat' split) <;> simp_all [foldl_view]
@[simp] theorem State.transmit_view (s : State) (k : SwitchNo) (kind : AwaitedKind) (m : OutMessage) :
    (s.transmit k kind m).view = s.view := by
  unfold State.transmit; try dsimp only
  (repeat' split) <;> simp_all [foldl_view]
@[simp] theorem State.hear_view (s : State) (k : SwitchNo) :
    (s.hear k).view = s.view := by
  unfold State.hear; try dsimp only
  (repeat' split) <;> simp_all [foldl_view]
@[simp] theorem State.operateAnswered_view (s : State) (k : SwitchNo) (accepted : Bool) (reason : Byte) :
    (s.operateAnswered k accepted reason).view = s.view := by
  unfold State.operateAnswered; try dsimp only
  (repeat' split) <;> simp_all [foldl_view]
@[simp] theorem State.profileAnswered_view (s : State) (k : SwitchNo) (code : Nat) (accepted : Bool) :
    (s.profileAnswered k code accepted).view = s.view := by
  unfold State.profileAnswered; try dsimp only
  (repeat' split) <;> simp_all [foldl_view]
@[simp] theorem State.takeAnswer_view (s : State) (k : SwitchNo) (accepted : Bool) (reason : Byte) :
    (s.takeAnswer k accepted reason).view = s.view := by
  unfold State.takeAnswer; try dsimp only
  (repeat' split) <;> simp_all [foldl_view]
@[simp] theorem State.retryPush_view (s : State) (k : SwitchNo) :
    (s.retryPush k).view = s.view := by
  unfold State.retryPush; try dsimp only
  (repeat' split) <;> simp_all [foldl_view]
@[simp] theorem State.takeState_view (s : State) (k : SwitchNo) (p : Pole) (raw : Option (BitVec 16)) :
    (s.takeState k p raw).view = s.view := by
  unfold State.takeState; try dsimp only
  (repeat' split) <;> simp_all [foldl_view]
@[simp] theorem State.takeTrip_view (s : State) (k : SwitchNo) (c : FaultClass) :
    (s.takeTrip k c).view = s.view := by
  unfold State.takeTrip; try dsimp only
  (repeat' split) <;> simp_all [foldl_view]
@[simp] theorem State.fallSilent_view (s : State) (k : SwitchNo) :
    (s.fallSilent k).view = s.view := by
  unfold State.fallSilent; try dsimp only
  (repeat' split) <;> simp_all [foldl_view]
@[simp] theorem State.noReply_view (s : State) (a : Awaited) :
    (s.noReply a).view = s.view := by
  unfold State.noReply; try dsimp only
  (repeat' split) <;> simp_all [foldl_view]
@[simp] theorem State.noMove_view (s : State) (k : SwitchNo) :
    (s.noMove k).view = s.view := by
  unfold State.noMove; try dsimp only
  (repeat' split) <;> simp_all [foldl_view]
@[simp] theorem State.sendOperate_view (s : State) (k : SwitchNo) (q : OpRequest) :
    (s.sendOperate k q).view = s.view := by
  unfold State.sendOperate; try dsimp only
  (repeat' split) <;> simp_all [foldl_view]
@[simp] theorem State.pickOperation_view (s : State) (k : SwitchNo) (q : OpRequest) :
    (s.pickOperation k q).view = s.view := by
  unfold State.pickOperation; try dsimp only
  (repeat' split) <;> simp_all [foldl_view]
@[simp] theorem State.pickPush_view (s : State) (k : SwitchNo) :
    (s.pickPush k).view = s.view := by
  unfold State.pickPush; try dsimp only
  (repeat' split) <;> simp_all [foldl_view]
@[simp] theorem State.pickPoll_view (s : State) (k : SwitchNo) (c : PollClass) :
    (s.pickPoll k c).view = s.view := by
  unfold State.pickPoll; try dsimp only
  (repeat' split) <;> simp_all [foldl_view]
@[simp] theorem State.serveClaim_view (s : State) (c : Claim) : (s.serveClaim c).view = s.view := by
  cases c <;> simp [State.serveClaim]
@[simp] theorem State.arbitrateFor_view (n : Nat) (s : State) : (State.arbitrateFor n s).view = s.view := by
  induction n generalizing s with
  | zero => rfl
  | succ n ih => unfold State.arbitrateFor; (repeat' split) <;> simp_all
@[simp] theorem State.arbitrate_view (s : State) :
    (s.arbitrate).view = s.view := by
  unfold State.arbitrate
  split <;> simp
@[simp] theorem State.recloseAnswered_view (s : State) (k : SwitchNo) (n : Nat) (a : SlotAnswer) :
    (s.recloseAnswered k n a).view = s.view := by
  cases a <;> simp [State.recloseAnswered]
@[simp] theorem State.deadTimeExpired_view (s : State) (k : SwitchNo) :
    (s.deadTimeExpired k).view = s.view := by
  have h := s.requestByBlock_view k ⟨.toClose, { reclose := true }⟩
  unfold State.deadTimeExpired; dsimp only
  (repeat' split) <;> simp_all
/-- Writing a district's FIRE handle keeps the view. -/
@[simp] theorem State.setFire_view (s : State) (d : DistrictNo) (h : Option Handle) :
    (s.setDistrict d { s.district d with fire := h }).view = s.view := by
  simp only [State.setDistrict, State.view, viewOf, Fsu.view, State.district, Prod.mk.injEq, true_and]
  congr 1; funext e
  by_cases he : d = e
  · subst he; simp [District.level]
  · have : (d : Nat) ≠ e := fun h => he (Fin.ext h)
    simp [Vector.getElem_set, this, District.level]
@[simp] theorem State.placeFire_view (s : State) (d : DistrictNo) :
    (s.placeFire d).view = s.view := by
  have h := s.placeHold_view (s.deviceHold .noReclose .plain .fire (s.districtZones d) (.district d))
  unfold State.placeFire
  split
  rename_i heq; rw [heq] at h
  simpa using h
@[simp] theorem State.retireFire_view (s : State) (d : DistrictNo) :
    (s.retireFire d).view = s.view := by
  unfold State.retireFire
  split
  · rfl
  · rw [State.setFire_view]; split <;> simp
@[simp] theorem State.adjustFire_view (s : State) (d : DistrictNo) :
    (s.adjustFire d).view = s.view := by
  unfold State.adjustFire; try dsimp only
  (repeat' split) <;> simp_all [foldl_view]
@[simp] theorem State.reconcileFire_view (s : State) (d : DistrictNo) :
    (s.reconcileFire d).view = s.view := by
  unfold State.reconcileFire; try dsimp only
  (repeat' split) <;> simp_all [foldl_view]
@[simp] theorem State.rederiveFire_view (s : State) (d : DistrictNo) :
    (s.rederiveFire d).view = s.view := by
  unfold State.rederiveFire; try dsimp only
  (repeat' split) <;> simp_all [foldl_view]
@[simp] theorem State.clearSlot_view (s : State) (i : SlotNo) :
    (s.clearSlot i).view = s.view := by
  unfold State.clearSlot; try dsimp only
  (repeat' split) <;> simp_all [foldl_view]
@[simp] theorem State.cancelSlot_view (s : State) (k : SwitchNo) :
    (s.cancelSlot k).view = s.view := by
  unfold State.cancelSlot; try dsimp only
  (repeat' split) <;> simp_all [foldl_view]
@[simp] theorem State.stopPolls_view (s : State) :
    (s.stopPolls).view = s.view := by
  unfold State.stopPolls; try dsimp only
  (repeat' split) <;> simp_all [foldl_view]
@[simp] theorem State.leaveService_view (s : State) :
    (s.leaveService).view = s.view := by
  unfold State.leaveService; try dsimp only
  (repeat' split) <;> simp_all [foldl_view]
@[simp] theorem State.withdrawRuntime_view (s : State) (k : SwitchNo) :
    (s.withdrawRuntime k).view = s.view := by
  unfold State.withdrawRuntime; try dsimp only
  (repeat' split) <;> simp_all [foldl_view]
@[simp] theorem State.writeLink_view (s : State) (l : LinkSettings) :
    (s.writeLink l).view = s.view := by
  unfold State.writeLink; try dsimp only
  (repeat' split) <;> simp_all [foldl_view]
@[simp] theorem State.setTimeState_view (s : State) (t : TimeState) :
    (s.setTimeState t).view = s.view := by
  unfold State.setTimeState; try dsimp only
  (repeat' split) <;> simp_all [foldl_view]
@[simp] theorem State.restoreZone_view (s : State) (z : ZoneNo) :
    (s.restoreZone z).view = s.view := by
  unfold State.restoreZone; try dsimp only
  (repeat' split) <;> simp_all [foldl_view]
@[simp] theorem State.restoreSwitch_view (s : State) (k : SwitchNo) :
    (s.restoreSwitch k).view = s.view := by
  unfold State.restoreSwitch; try dsimp only
  (repeat' split) <;> simp_all [foldl_view]
@[simp] theorem State.restoreCase_view (s : State) :
    (s.restoreCase).view = s.view := by
  unfold State.restoreCase; try dsimp only
  (repeat' split) <;> simp_all [foldl_view]
@[simp] theorem State.restoreMinute_view (s : State) :
    (s.restoreMinute).view = s.view := by
  unfold State.restoreMinute; try dsimp only
  (repeat' split) <;> simp_all [foldl_view]
@[simp] theorem State.placeIntegrity_view (s : State) :
    (s.placeIntegrity).view = s.view := by
  unfold State.placeIntegrity; try dsimp only
  (repeat' split) <;> simp_all [foldl_view]
@[simp] theorem State.stopTimers_view (s : State) :
    (s.stopTimers).view = s.view := by
  unfold State.stopTimers; try dsimp only
  (repeat' split) <;> simp_all [foldl_view]
@[simp] theorem State.halt_view (s : State) :
    (s.halt).view = s.view := by
  unfold State.halt; try dsimp only
  (repeat' split) <;> simp_all [foldl_view]
@[simp] theorem State.firstFault_view (s : State) :
    (s.firstFault).view = s.view := by
  unfold State.firstFault; try dsimp only
  (repeat' split) <;> simp_all [foldl_view]
@[simp] theorem State.mendCause_view (s : State) :
    (s.mendCause).view = s.view := by
  unfold State.mendCause; try dsimp only
  (repeat' split) <;> rfl
@[simp] theorem State.secondFault_view (s : State) :
    (s.secondFault).view = s.view := by
  unfold State.secondFault; try dsimp only
  (repeat' split) <;> simp_all [foldl_view]
@[simp] theorem State.advanceMinute_view (s : State) :
    (s.advanceMinute).view = s.view := by
  unfold State.advanceMinute; try dsimp only
  (repeat' split) <;> simp_all [foldl_view]
@[simp] theorem State.countSecond_view (s : State) :
    (s.countSecond).view = s.view := by
  unfold State.countSecond; try dsimp only
  (repeat' split) <;> simp_all [foldl_view]
@[simp] theorem State.countPulse_view (s : State) (gap : Option Nat) :
    (s.countPulse gap).view = s.view := by
  unfold State.countPulse; try dsimp only
  (repeat' split) <;> simp_all [foldl_view]
@[simp] theorem State.losePulses_view (s : State) :
    (s.losePulses).view = s.view := by
  unfold State.losePulses; try dsimp only
  (repeat' split) <;> simp_all [foldl_view]

end Sys2Proof.Machine
end

