-- ==== Sys2Proof/Laws/Levels.lean ====
section
/-! SUPPORT. The danger levels and the setting groups: what an effective-level change and a change of the groups do to them, said once
(R63, R68, R73, R79). -/

namespace Sys2Proof.Machine

/-! ## Reading the view -/

theorem State.view_queue {s t : State} (h : t.view = s.view) : t.pending = s.pending := congrArg (·.1) h
theorem State.view_lines {s t : State} (h : t.view = s.view) : t.lines = s.lines := congrArg (·.2.2.1) h
theorem State.view_groups {s t : State} (h : t.view = s.view) : t.fsu.groups = s.fsu.groups := congrArg (·.2.2.2.1) h
theorem State.view_season {s t : State} (h : t.view = s.view) : t.fsu.season = s.fsu.season := congrArg (·.2.2.2.2.1) h
theorem State.view_tfb {s t : State} (h : t.view = s.view) : t.fsu.tfb = s.fsu.tfb := congrArg (·.2.2.2.2.2.1) h
theorem State.view_district {s t : State} (h : t.view = s.view) (d : DistrictNo) :
    (t.district d).level = (s.district d).level := by
  have := congrArg (fun v => v.2.2.2.2.2.2[d]) h
  simpa [State.view, viewOf, Fsu.view, State.district] using this

theorem State.groupsOrdered_of_view {s t : State} (h : t.view = s.view) : t.groupsOrdered ↔ s.groupsOrdered := by
  unfold State.groupsOrdered
  rw [State.view_groups h]

theorem State.levelsAgree_of_view {s t : State} (h : t.view = s.view) : t.levelsAgree ↔ s.levelsAgree := by
  unfold State.levelsAgree
  have hd := fun d => State.view_district h d
  simp only [District.level, Prod.mk.injEq] at hd
  simp [State.view_season h, State.view_tfb h, hd]

/-! ## The effective-level change -/

theorem effectiveOf_eq_levelGiven (f : Season) (b : Bool) (l : Level) : effectiveOf f b l = levelGiven f b l := by
  cases b <;> cases f <;> rfl

/-- The records with every effective level set, before the reservations are lost. -/
theorem State.setLevels_fsu (s : State) : s.setLevels.fsu =
    { s.fsu with districts := Vector.ofFn fun d => { s.fsu.districts[d] with effective := s.levelOfDistrict d } } := by
  have lose : ∀ (l : List DistrictNo) (t : State), (l.foldl State.loseDistrict t).fsu = t.fsu := by
    intro l
    induction l with
    | nil => intro t; rfl
    | cons d l ih => intro t; rw [List.foldl_cons, ih]; rfl
  exact lose _ _

@[simp] theorem State.levelConsequences_view (s : State) (l : List DistrictNo) : (s.levelConsequences l).view = s.view := by
  have fold : ∀ t : State, (l.foldl State.adjustFire t).view = t.view := foldl_view _ (fun t d => State.adjustFire_view t d) l
  unfold State.levelConsequences
  split
  · rfl
  · simp [fold]

/-- After an effective-level change no level disagrees with its inputs, whatever stood before. -/
theorem State.applyLevels_levelsAgree (s : State) : s.applyLevels.levelsAgree := by
  unfold State.applyLevels
  rw [State.levelsAgree_of_view (State.levelConsequences_view _ _)]
  intro d
  have h := State.setLevels_fsu s
  simp only [State.district, h]
  simp [State.levelOfDistrict, effectiveOf_eq_levelGiven, State.district]

/-- An effective-level change leaves the groups, the season and the TFB state alone. -/
theorem State.applyLevels_inputs (s : State) :
    s.applyLevels.fsu.groups = s.fsu.groups ∧ s.applyLevels.fsu.season = s.fsu.season ∧ s.applyLevels.fsu.tfb = s.fsu.tfb := by
  have h := State.levelConsequences_view s.setLevels s.changedDistricts
  have e := State.setLevels_fsu s
  unfold State.applyLevels
  exact ⟨by rw [State.view_groups h, e], by rw [State.view_season h, e], by rw [State.view_tfb h, e]⟩

/-- An effective-level change keeps every declared level and version. -/
theorem State.applyLevels_district (s : State) (d : DistrictNo) :
    (s.applyLevels.district d).declared = (s.district d).declared ∧ (s.applyLevels.district d).version = (s.district d).version
      ∧ (s.applyLevels.district d).effective = s.levelOfDistrict d := by
  have h := State.view_district (State.levelConsequences_view s.setLevels s.changedDistricts) d
  have e : s.setLevels.district d = { s.district d with effective := s.levelOfDistrict d } := by
    simp [State.district, State.setLevels_fsu]
  rw [e] at h
  simp only [District.level, Prod.mk.injEq] at h
  exact ⟨h.1, h.2.2, h.2.1⟩

/-! ## The groups -/

@[simp] theorem State.groupConsequences_view (s : State) (old : Groups) : (s.groupConsequences old).view = s.view := by
  unfold State.groupConsequences
  dsimp only
  split <;> simp

/-- The groups pass the checks of R63 exactly when they stand monotone. -/
theorem Groups.orderFault_none (g : Groups) : g.orderFault = none ↔ g.monotone := by
  have rise : ∀ f : Group → Nat, firstRise f g = none ↔ (f g.elevated ≤ f g.normal ∧ f g.severe ≤ f g.elevated
      ∧ f g.ban ≤ f g.severe) := by
    intro f
    unfold firstRise
    split
    · simp; omega
    · split
      · simp; omega
      · split
        · simp; omega
        · simp; omega
  unfold Groups.orderFault Groups.monotone
  cases h1 : firstRise (·.shots) g with
  | some p =>
    have : ¬ firstRise (·.shots) g = none := by rw [h1]; simp
    rw [rise] at this
    simp only [reduceCtorEq, false_iff]
    tauto
  | none =>
    have a := (rise _).1 h1
    cases h2 : firstRise (·.pickup) g with
    | some p =>
      have : ¬ firstRise (·.pickup) g = none := by rw [h2]; simp
      rw [rise] at this
      simp only [reduceCtorEq, false_iff]
      tauto
    | none =>
      have b := (rise _).1 h2
      simp only [ite_eq_left_iff, reduceCtorEq, imp_false, not_not]
      tauto

/-- The cold groups stand monotone (R59). -/
theorem Groups.cold_monotone : Groups.cold.monotone := by
  unfold Groups.monotone
  decide

end Sys2Proof.Machine
end

