-- ==== Sys2Proof/Laws/Motion.lean ====
section
/-! SUPPORT. What the watch, the hunt, the sequences and the operation slots leave alone: of every switch the position, the condition,
the operation in flight, the mechanism timer, the profile and the last residual; the awaited message, the timers of the link, its
settings and the last frame sent (`State.motion`). A slot, a poll wanted and a last result are not part of it. -/

set_option linter.unusedSimpArgs false
set_option linter.unusedTactic false
set_option linter.unreachableTactic false
set_option linter.unnecessarySeqFocus false

namespace Sys2Proof.Machine

/-- What moves at a switch only by the field link and the profile comparison. -/
def motionParts (p : Position) (c : Condition) (f : Option InFlight) (m : Timer) (n : Option Nat) (ps : ProfileState) (pw : Bool)
    (l : Option Residual) := (p, c, f, m, n, ps, pw, l)
def Runtime.motion (r : Runtime) :=
  motionParts r.position r.condition r.inFlight r.mechanism r.confirmed r.profileState r.pushWanted r.lastResidual

/-- The link's own records with the motion of every switch. -/
def motionOf (s : Sou) :=
  (Vector.ofFn fun k : SwitchNo => s.runtime[k].motion, s.awaited, s.answerTimer, s.routineTimer, s.headTimer, s.link, s.sent)
def State.motion (s : State) := motionOf s.sou

@[simp] theorem motion_mk (p n l fm h f so r e sv q) : State.motion ⟨p, n, l, fm, h, f, so, r, e, sv, q⟩ = motionOf so := rfl
@[simp] theorem motionOf_state (s : State) : motionOf s.sou = s.motion := rfl

/-- The motion of one switch, read from the whole. -/
theorem State.runtime_motion {s t : State} (h : t.motion = s.motion) (k : SwitchNo) :
    (t.runtime k).motion = (s.runtime k).motion := by
  have h' := congrArg Prod.fst h
  have := congrArg (fun v : Vector _ 16 => v[k]) h'
  simpa [State.motion, motionOf, State.runtime] using this

/-- Writing a runtime record that moves nothing. -/
theorem State.setRuntime_motion (s : State) (k : SwitchNo) (r : Runtime) (h : r.motion = (s.runtime k).motion) :
    (s.setRuntime k r).motion = s.motion := by
  have key : (Vector.ofFn fun j : SwitchNo => (s.setRuntime k r).sou.runtime[j].motion)
      = Vector.ofFn fun j : SwitchNo => s.sou.runtime[j].motion := by
    congr 1
    funext j
    show ((s.setRuntime k r).runtime j).motion = (s.runtime j).motion
    by_cases e : j = k
    · subst e; rw [State.runtime_setRuntime_same, h]
    · rw [State.runtime_setRuntime_other _ _ e]
  unfold State.motion motionOf
  rw [key]
  rfl

@[simp] theorem State.setSlotOf_motion (s : State) (k : SwitchNo) (o : Option OpRequest) :
    (s.setRuntime k { s.runtime k with slot := o }).motion = s.motion := State.setRuntime_motion _ _ _ rfl
@[simp] theorem State.setResult_motion (s : State) (k : SwitchNo) (o : Option LastResult) :
    (s.setRuntime k { s.runtime k with lastResult := o }).motion = s.motion := State.setRuntime_motion _ _ _ rfl
@[simp] theorem State.setPoll_motion (s : State) (k : SwitchNo) (c : PollClass) :
    (s.setRuntime k ((s.runtime k).wantPoll c)).motion = s.motion :=
  State.setRuntime_motion _ _ _ (by unfold Runtime.wantPoll; (repeat' split) <;> rfl)

theorem foldl_motion {α : Type} (f : State → α → State) (h : ∀ s x, (f s x).motion = s.motion) (l : List α) (s : State) :
    (l.foldl f s).motion = s.motion := by
  induction l generalizing s with
  | nil => rfl
  | cons x l ih => rw [List.foldl_cons, ih, h]

@[simp] theorem State.putSeq_motion (s : State) (k : SwitchNo) (q : Sequence) :
    (s.putSeq k q).motion = s.motion := by
  unfold State.putSeq; try dsimp only
  (repeat' split) <;> simp_all [foldl_motion]
@[simp] theorem State.setSlot_motion (s : State) (i : SlotNo) (v : Slot) :
    (s.setSlot i v).motion = s.motion := by
  unfold State.setSlot; try dsimp only
  (repeat' split) <;> simp_all [foldl_motion]
@[simp] theorem State.setPort_motion (s : State) (p : Port) (v : PortRecord) :
    (s.setPort p v).motion = s.motion := by
  unfold State.setPort; try dsimp only
  (repeat' split) <;> simp_all [foldl_motion]
@[simp] theorem State.onPorts_motion (s : State) (f : PortRecord → PortRecord) :
    (s.onPorts f).motion = s.motion := by
  unfold State.onPorts; try dsimp only
  (repeat' split) <;> simp_all [foldl_motion]
@[simp] theorem State.notify_motion (s : State) (n : Notice) :
    (s.notify n).motion = s.motion := by
  unfold State.notify; try dsimp only
  (repeat' split) <;> simp_all [foldl_motion]
@[simp] theorem State.loseReservations_motion (s : State) (test : Reservation → Bool) :
    (s.loseReservations test).motion = s.motion := by
  unfold State.loseReservations; try dsimp only
  (repeat' split) <;> simp_all [foldl_motion]
@[simp] theorem State.loseHold_motion (s : State) (h : Handle) :
    (s.loseHold h).motion = s.motion := by
  unfold State.loseHold; try dsimp only
  (repeat' split) <;> simp_all [foldl_motion]
@[simp] theorem State.placeHold_motion (s : State) (h : Hold) :
    (s.placeHold h).1.motion = s.motion := by
  unfold State.placeHold; try dsimp only
  (repeat' split) <;> simp_all [foldl_motion]
@[simp] theorem State.dropHandle_motion (s : State) (origin : Origin) (h : Handle) :
    (s.dropHandle origin h).motion = s.motion := by
  unfold State.dropHandle; (repeat' split) <;> simp
@[simp] theorem State.vacate_motion (s : State) (i : SlotNo) :
    (s.vacate i).motion = s.motion := by
  unfold State.vacate; try dsimp only
  (repeat' split) <;> simp_all [foldl_motion]
@[simp] theorem State.wantPoll_motion (s : State) (k : SwitchNo) (c : PollClass) :
    (s.wantPoll k c).motion = s.motion := by
  unfold State.wantPoll; try dsimp only
  (repeat' split) <;> simp_all [foldl_motion]
@[simp] theorem State.enterLocating_motion (s : State) :
    (s.enterLocating).motion = s.motion := by
  unfold State.enterLocating; try dsimp only
  (repeat' split) <;> simp_all [foldl_motion]
@[simp] theorem State.startCase_motion (s : State) (origin : StartOrigin) (essential : Bool) :
    (s.startCase origin essential).motion = s.motion := by
  unfold State.startCase; try dsimp only
  (repeat' split) <;> simp_all [foldl_motion]
@[simp] theorem State.attemptFailed_motion (s : State) (r : StartRefusal) :
    (s.attemptFailed r).motion = s.motion := by
  unfold State.attemptFailed; try dsimp only
  (repeat' split) <;> simp_all [foldl_motion]
@[simp] theorem State.attemptStart_motion (s : State) :
    (s.attemptStart).motion = s.motion := by
  unfold State.attemptStart; try dsimp only
  (repeat' split) <;> simp_all [foldl_motion]
@[simp] theorem State.retryStart_motion (s : State) :
    (s.retryStart).motion = s.motion := by
  unfold State.retryStart; try dsimp only
  (repeat' split) <;> simp_all [foldl_motion]
@[simp] theorem State.reportDeparture_motion (s : State) (origin : Origin) :
    (s.reportDeparture origin).motion = s.motion := by
  unfold State.reportDeparture; try dsimp only
  (repeat' split) <;> simp_all [foldl_motion]
@[simp] theorem State.departHold_motion (s : State) (i : SlotNo) :
    (s.departHold i).motion = s.motion := by
  unfold State.departHold; try dsimp only
  (repeat' split) <;> simp_all [foldl_motion]
@[simp] theorem State.expireHolds_motion (s : State) :
    (s.expireHolds).motion = s.motion := by
  unfold State.expireHolds; try dsimp only
  (repeat' split) <;> simp_all [foldl_motion]
@[simp] theorem State.concludeCase_motion (s : State) (r : ResultKind) :
    (s.concludeCase r).motion = s.motion := by
  unfold State.concludeCase; try dsimp only
  (repeat' split) <;> simp_all [foldl_motion]
@[simp] theorem State.concludeSelfCleared_motion (s : State) :
    (s.concludeSelfCleared).motion = s.motion := by
  unfold State.concludeSelfCleared; try dsimp only
  (repeat' split) <;> simp_all [foldl_motion]
@[simp] theorem State.concludeAbandoned_motion (s : State) (r : AbandonReason) :
    (s.concludeAbandoned r).motion = s.motion := by
  unfold State.concludeAbandoned; try dsimp only
  (repeat' split) <;> simp_all [foldl_motion]
@[simp] theorem State.pendAbandon_motion (s : State) (r : AbandonReason) :
    (s.pendAbandon r).motion = s.motion := by
  unfold State.pendAbandon; try dsimp only
  (repeat' split) <;> simp_all [foldl_motion]
@[simp] theorem State.abandonCase_motion (s : State) (r : AbandonReason) :
    (s.abandonCase r).motion = s.motion := by
  unfold State.abandonCase; try dsimp only
  (repeat' split) <;> simp_all [foldl_motion]
@[simp] theorem State.resumeCase_motion (s : State) :
    (s.resumeCase).motion = s.motion := by
  unfold State.resumeCase; try dsimp only
  (repeat' split) <;> simp_all [foldl_motion]
@[simp] theorem State.checkResume_motion (s : State) :
    (s.checkResume).motion = s.motion := by
  unfold State.checkResume; try dsimp only
  (repeat' split) <;> simp_all [foldl_motion]
@[simp] theorem State.suspendCase_motion (s : State) (p : Suspension) :
    (s.suspendCase p).motion = s.motion := by
  unfold State.suspendCase; try dsimp only
  (repeat' split) <;> simp_all [foldl_motion]
@[simp] theorem State.countReport_motion (s : State) (n : Nat) :
    (s.countReport n).motion = s.motion := by
  unfold State.countReport; try dsimp only
  (repeat' split) <;> simp_all [foldl_motion]
@[simp] theorem State.disturb_motion (s : State) :
    (s.disturb).motion = s.motion := by
  unfold State.disturb; try dsimp only
  (repeat' split) <;> simp_all [foldl_motion]
@[simp] theorem State.pendCause_motion (s : State) (p : Suspension) :
    (s.pendCause p).motion = s.motion := by
  unfold State.pendCause; try dsimp only
  (repeat' split) <;> simp_all [foldl_motion]
@[simp] theorem State.causeArises_motion (s : State) (p : Suspension) :
    (s.causeArises p).motion = s.motion := by
  unfold State.causeArises; try dsimp only
  (repeat' split) <;> simp_all [foldl_motion]
@[simp] theorem State.huntTrip_motion (s : State) (k : SwitchNo) :
    (s.huntTrip k).motion = s.motion := by
  unfold State.huntTrip; try dsimp only
  (repeat' split) <;> simp_all [foldl_motion]
@[simp] theorem State.conditionReport_motion (s : State) (k : SwitchNo) :
    (s.conditionReport k).motion = s.motion := by
  unfold State.conditionReport; try dsimp only
  (repeat' split) <;> simp_all [foldl_motion]
@[simp] theorem State.huntPosition_motion (s : State) (k : SwitchNo) (p : Pole) (changed : Bool) :
    (s.huntPosition k p changed).motion = s.motion := by
  unfold State.huntPosition; try dsimp only
  (repeat' split) <;> simp_all [foldl_motion]
@[simp] theorem State.huntOperateTaken_motion (s : State) (k : SwitchNo) :
    (s.huntOperateTaken k).motion = s.motion := by
  unfold State.huntOperateTaken; try dsimp only
  (repeat' split) <;> simp_all [foldl_motion]
@[simp] theorem State.watchMove_motion (s : State) (before after : Bool) :
    (s.watchMove before after).motion = s.motion := by
  unfold State.watchMove; try dsimp only
  (repeat' split) <;> simp_all [foldl_motion]
@[simp] theorem State.caseFlagCleared_motion (s : State) :
    (s.caseFlagCleared).motion = s.motion := by
  unfold State.caseFlagCleared; try dsimp only
  (repeat' split) <;> simp_all [foldl_motion]
@[simp] theorem State.observeHead_motion (s : State) (c : ReportClass) :
    (s.observeHead c).motion = s.motion := by
  unfold State.observeHead; try dsimp only
  (repeat' split) <;> simp_all [foldl_motion]
@[simp] theorem State.watchHead_motion (s : State) (v : Nat) (q : Quality) (c : ReportClass) :
    (s.watchHead v q c).motion = s.motion := by
  unfold State.watchHead; try dsimp only
  (repeat' split) <;> simp_all [foldl_motion]
@[simp] theorem State.headReport_motion (s : State) (v : Nat) (q : Quality) :
    (s.headReport v q).motion = s.motion := by
  unfold State.headReport; try dsimp only
  (repeat' split) <;> simp_all [foldl_motion]
@[simp] theorem State.locateReport_motion (s : State) (t : SwitchNo) (v : Nat) (p : Pole) :
    (s.locateReport t v p).motion = s.motion := by
  unfold State.locateReport; try dsimp only
  (repeat' split) <;> simp_all [foldl_motion]
@[simp] theorem State.residualReport_motion (s : State) (k : SwitchNo) (v : Nat) (q : Quality) (p : Pole) :
    (s.residualReport k v q p).motion = s.motion := by
  unfold State.residualReport; try dsimp only
  (repeat' split) <;> simp_all [foldl_motion]
@[simp] theorem State.rearmWatch_motion (s : State) :
    (s.rearmWatch).motion = s.motion := by
  unfold State.rearmWatch; try dsimp only
  (repeat' split) <;> simp_all [foldl_motion]
@[simp] theorem State.setSeq_motion (s : State) (k : SwitchNo) (q : Sequence) :
    (s.setSeq k q).motion = s.motion := by
  unfold State.setSeq; try dsimp only
  (repeat' split) <;> simp_all [foldl_motion]
@[simp] theorem State.settleSeq_motion (s : State) (k : SwitchNo) (st : SeqState) :
    (s.settleSeq k st).motion = s.motion := by
  unfold State.settleSeq; try dsimp only
  (repeat' split) <;> simp_all [foldl_motion]
@[simp] theorem State.lockOut_motion (s : State) (k : SwitchNo) (r : LockoutReason) :
    (s.lockOut k r).motion = s.motion := by
  unfold State.lockOut; try dsimp only
  (repeat' split) <;> simp_all [foldl_motion]
@[simp] theorem State.enterReclaim_motion (s : State) (k : SwitchNo) (n : Nat) :
    (s.enterReclaim k n).motion = s.motion := by
  unfold State.enterReclaim; try dsimp only
  (repeat' split) <;> simp_all [foldl_motion]
@[simp] theorem State.enterDeadTime_motion (s : State) (k : SwitchNo) (n : Nat) (c : FaultClass) :
    (s.enterDeadTime k n c).motion = s.motion := by
  unfold State.enterDeadTime; try dsimp only
  (repeat' split) <;> simp_all [foldl_motion]
@[simp] theorem State.judgeTrip_motion (s : State) (k : SwitchNo) (used : Nat) (c : FaultClass) :
    (s.judgeTrip k used c).motion = s.motion := by
  unfold State.judgeTrip; try dsimp only
  (repeat' split) <;> simp_all [foldl_motion]
@[simp] theorem State.rcsTrip_motion (s : State) (k : SwitchNo) (c : FaultClass) :
    (s.rcsTrip k c).motion = s.motion := by
  unfold State.rcsTrip; try dsimp only
  (repeat' split) <;> simp_all [foldl_motion]
@[simp] theorem State.rcsPosition_motion (s : State) (k : SwitchNo) (p : Pole) :
    (s.rcsPosition k p).motion = s.motion := by
  unfold State.rcsPosition; try dsimp only
  (repeat' split) <;> simp_all [foldl_motion]
@[simp] theorem State.settleByPosition_motion (s : State) (k : SwitchNo) :
    (s.settleByPosition k).motion = s.motion := by
  unfold State.settleByPosition; try dsimp only
  (repeat' split) <;> simp_all [foldl_motion]
@[simp] theorem State.cancelSeq_motion (s : State) (k : SwitchNo) :
    (s.cancelSeq k).motion = s.motion := by
  unfold State.cancelSeq; try dsimp only
  (repeat' split) <;> simp_all [foldl_motion]
@[simp] theorem State.recloseEnded_motion (s : State) (k : SwitchNo) (n : Nat) (res : OpResult) :
    (s.recloseEnded k n res).motion = s.motion := by
  unfold State.recloseEnded; try dsimp only
  (repeat' split) <;> simp_all [foldl_motion]
@[simp] theorem State.rcsCloseResult_motion (s : State) (k : SwitchNo) (classes : Classes) (res : OpResult) :
    (s.rcsCloseResult k classes res).motion = s.motion := by
  unfold State.rcsCloseResult; try dsimp only
  (repeat' split) <;> simp_all [foldl_motion]
@[simp] theorem State.rcsOpenResult_motion (s : State) (k : SwitchNo) (res : OpResult) :
    (s.rcsOpenResult k res).motion = s.motion := by
  unfold State.rcsOpenResult; try dsimp only
  (repeat' split) <;> simp_all [foldl_motion]
@[simp] theorem State.rcsResult_motion (s : State) (k : SwitchNo) (action : SwitchAction) (classes : Classes) (res : OpResult) :
    (s.rcsResult k action classes res).motion = s.motion := by
  unfold State.rcsResult; try dsimp only
  (repeat' split) <;> simp_all [foldl_motion]
@[simp] theorem State.rcsAccepted_motion (s : State) (k : SwitchNo) (action : SwitchAction) :
    (s.rcsAccepted k action).motion = s.motion := by
  unfold State.rcsAccepted; try dsimp only
  (repeat' split) <;> simp_all [foldl_motion]
@[simp] theorem State.reevaluate_motion (s : State) (k : SwitchNo) :
    (s.reevaluate k).motion = s.motion := by
  unfold State.reevaluate; try dsimp only
  (repeat' split) <;> simp_all [foldl_motion]
@[simp] theorem State.reevaluateAll_motion (s : State) (ks : List SwitchNo) :
    (s.reevaluateAll ks).motion = s.motion := by
  unfold State.reevaluateAll; try dsimp only
  (repeat' split) <;> simp_all [foldl_motion]
@[simp] theorem State.rcsEnterService_motion (s : State) :
    (s.rcsEnterService).motion = s.motion := by
  unfold State.rcsEnterService; try dsimp only
  (repeat' split) <;> simp_all [foldl_motion]
@[simp] theorem State.rcsLeave_motion (s : State) (k : SwitchNo) :
    (s.rcsLeave k).motion = s.motion := by
  unfold State.rcsLeave; try dsimp only
  (repeat' split) <;> simp_all [foldl_motion]
@[simp] theorem State.rcsLeaveService_motion (s : State) :
    (s.rcsLeaveService).motion = s.motion := by
  unfold State.rcsLeaveService; try dsimp only
  (repeat' split) <;> simp_all [foldl_motion]
@[simp] theorem State.recordResult_motion (s : State) (k : SwitchNo) (q : OpRequest) (res : OpResult) :
    (s.recordResult k q res).motion = s.motion := by
  unfold State.recordResult; try dsimp only
  (repeat' split) <;> simp_all [foldl_motion]
@[simp] theorem State.endInSlot_motion (s : State) (k : SwitchNo) (q : OpRequest) (res : OpResult) :
    (s.endInSlot k q res).motion = s.motion := by
  unfold State.endInSlot; try dsimp only
  (repeat' split) <;> simp_all [foldl_motion]
@[simp] theorem State.enterSlot_motion (s : State) (k : SwitchNo) (q : OpRequest) :
    (s.enterSlot k q).1.motion = s.motion := by
  unfold State.enterSlot; try dsimp only
  (repeat' split) <;> simp_all [foldl_motion]
@[simp] theorem State.requestSlot_motion (s : State) (k : SwitchNo) (q : OpRequest) :
    (s.requestSlot k q).1.motion = s.motion := by
  unfold State.requestSlot; try dsimp only
  (repeat' split) <;> simp_all [foldl_motion]
@[simp] theorem State.requestByBlock_motion (s : State) (k : SwitchNo) (q : OpRequest) :
    (s.requestByBlock k q).1.motion = s.motion := by
  unfold State.requestByBlock; try dsimp only
  (repeat' split) <;> simp_all [foldl_motion]
@[simp] theorem State.concludeWithHold_motion (s : State) (r : ResultKind) (kind : HoldKind) (scope : ZoneSet) :
    (s.concludeWithHold r kind scope).motion = s.motion := by
  unfold State.concludeWithHold; try dsimp only
  (repeat' split) <;> simp_all [foldl_motion]
@[simp] theorem State.concludeNarrowed_motion (s : State) (r : ResultKind) :
    (s.concludeNarrowed r).motion = s.motion := by
  unfold State.concludeNarrowed; try dsimp only
  (repeat' split) <;> simp_all [foldl_motion]
@[simp] theorem State.raiseSuspicion_motion (s : State) (z : ZoneSet) :
    (s.raiseSuspicion z).motion = s.motion := by
  unfold State.raiseSuspicion; try dsimp only
  (repeat' split) <;> simp_all [foldl_motion]
@[simp] theorem State.isolateFound_motion (s : State) (k : SwitchNo) :
    (s.isolateFound k).motion = s.motion := by
  have h := s.requestByBlock_motion k (.hunt .toOpen)
  unfold State.isolateFound
  (repeat' split) <;> simp_all
@[simp] theorem State.concludeFound_motion (s : State) (k : SwitchNo) :
    (s.concludeFound k).motion = s.motion := by
  unfold State.concludeFound; try dsimp only
  (repeat' split) <;> simp_all [foldl_motion]
@[simp] theorem State.concludeByCandidates_motion (s : State) :
    (s.concludeByCandidates).motion = s.motion := by
  unfold State.concludeByCandidates; try dsimp only
  (repeat' split) <;> simp_all [foldl_motion]
@[simp] theorem State.beginStep_motion (s : State) (t : SwitchNo) :
    (s.beginStep t).motion = s.motion := by
  unfold State.beginStep; try dsimp only
  (repeat' split) <;> simp_all [foldl_motion]
@[simp] theorem State.choose_motion (s : State) :
    (s.choose).motion = s.motion := by
  unfold State.choose; try dsimp only
  (repeat' split) <;> simp_all [foldl_motion]
@[simp] theorem State.afterStep_motion (s : State) (t : SwitchNo) (o : StepOutcome) (own : OwnCourse) :
    (s.afterStep t o own).motion = s.motion := by
  unfold State.afterStep; try dsimp only
  (repeat' split) <;> simp_all [foldl_motion]
@[simp] theorem State.endStep_motion (s : State) (t : SwitchNo) (o : StepOutcome) (own : OwnCourse) :
    (s.endStep t o own).motion = s.motion := by
  unfold State.endStep; try dsimp only
  (repeat' split) <;> simp_all [foldl_motion]
@[simp] theorem State.nameLeftOpen_motion (s : State) (k : SwitchNo) (r : LeftOpenReason) :
    (s.nameLeftOpen k r).motion = s.motion := by
  unfold State.nameLeftOpen; try dsimp only
  (repeat' split) <;> simp_all [foldl_motion]
@[simp] theorem State.closeBackHeld_motion (s : State) (t : SwitchNo) (o : StepOutcome) (failed : Bool) :
    (s.closeBackHeld t o failed).motion = s.motion := by
  unfold State.closeBackHeld; try dsimp only
  (repeat' split) <;> simp_all [foldl_motion]
@[simp] theorem State.askCloseBack_motion (s : State) (t : SwitchNo) (o : StepOutcome) :
    (s.askCloseBack t o).motion = s.motion := by
  have h := State.requestByBlock_motion { s with ehu.huntCase.step := some ⟨t, .closingBack, some o⟩ } t (.hunt .toClose)
  have h0 : State.motion { s with ehu.huntCase.step := some ⟨t, .closingBack, some o⟩ } = s.motion := rfl
  rw [h0] at h
  unfold State.askCloseBack; dsimp only
  split <;> rename_i heq <;> rw [heq] at h <;> simpa using h
@[simp] theorem State.applyOutcome_motion (s : State) (t : SwitchNo) (o : StepOutcome) :
    (s.applyOutcome t o).motion = s.motion := by
  unfold State.applyOutcome; try dsimp only
  (repeat' split) <;> simp_all [foldl_motion]
@[simp] theorem State.openEnded_motion (s : State) (t : SwitchNo) (res : OpResult) :
    (s.openEnded t res).motion = s.motion := by
  unfold State.openEnded; try dsimp only
  (repeat' split) <;> simp_all [foldl_motion]
@[simp] theorem State.closeBackEnded_motion (s : State) (t : SwitchNo) (o : StepOutcome) (res : OpResult) :
    (s.closeBackEnded t o res).motion = s.motion := by
  unfold State.closeBackEnded; try dsimp only
  (repeat' split) <;> simp_all [foldl_motion]
@[simp] theorem State.huntResult_motion (s : State) (k : SwitchNo) (q : OpRequest) (res : OpResult) (changed : Bool) :
    (s.huntResult k q res changed).motion = s.motion := by
  unfold State.huntResult; try dsimp only
  (repeat' split) <;> simp_all [foldl_motion]
@[simp] theorem State.endRequest_motion (s : State) (k : SwitchNo) (q : OpRequest) (res : OpResult) :
    (s.endRequest k q res).motion = s.motion := by
  unfold State.endRequest; try dsimp only
  (repeat' split) <;> simp_all [foldl_motion]

end Sys2Proof.Machine
end

