-- ==== Sys2Proof/Laws/Sequences.lean ====
section
/-! SUPPORT. The reclose sequences: what the writing of a sequence does, said once, and what a report and the end of an operation make
of a sequence, as Safety.lean puts it (`Sequence.reported`, `Sequence.ended`). -/

namespace Sys2Proof.Machine

/-! ## Writing a sequence (R106) -/

theorem State.seq_of_rcs {s t : State} (h : t.rcs = s.rcs) (k : SwitchNo) : t.seq k = s.seq k := by
  simp [State.seq, h]

theorem State.putSeq_seq (s : State) (k j : SwitchNo) (q : Sequence) :
    (s.putSeq k q).seq j = if j = k then q else s.seq j := by
  simp only [State.putSeq, State.seq]
  by_cases h : j = k
  · subst h; simp
  · have : k.val ≠ j.val := fun e => h (Fin.ext e.symm)
    simp [h, this]

theorem foldl_wantPoll_rcs (l : List SwitchNo) (c : PollClass) (s : State) :
    (l.foldl (fun u k => u.wantPoll k c) s).rcs = s.rcs := by
  induction l generalizing s with
  | nil => rfl
  | cons k l ih => rw [List.foldl_cons, ih]; rfl

/-- The report of the running sequences writes no sequence, though it may resume a case. -/
theorem State.countReport_rcs (s : State) (n : Nat) : (s.countReport n).rcs = s.rcs := by
  unfold State.countReport State.checkResume
  split
  · split
    · rfl
    · simp only [State.resumeCase, State.enterLocating, foldl_wantPoll_rcs]
  · rfl

/-- Writing a sequence writes that sequence alone. -/
theorem State.setSeq_seq (s : State) (k j : SwitchNo) (q : Sequence) :
    (s.setSeq k q).seq j = if j = k then q else s.seq j := by
  unfold State.setSeq
  dsimp only
  split
  · rw [State.seq_of_rcs (State.countReport_rcs _ _), State.putSeq_seq]
  · rw [State.putSeq_seq]

/-- A sequence settles in OPEN, CLOSED or UNCERTAIN. -/
theorem State.settleSeq_seq (s : State) (k j : SwitchNo) {st : SeqState} (h : st = .opened ∨ st = .closed ∨ st = .uncertain) :
    (s.settleSeq k st).seq j = if j = k then (s.seq k).settled st else s.seq j := by
  unfold State.settleSeq
  rw [State.setSeq_seq]
  rcases h with rfl | rfl | rfl <;> rfl

/-- A sequence locks out. -/
theorem State.lockOut_seq (s : State) (k j : SwitchNo) (r : LockoutReason) :
    (s.lockOut k r).seq j = if j = k then (s.seq k).lockedOut r s.svu.minute else s.seq j := by
  unfold State.lockOut
  rw [State.seq_of_rcs (State.notify_rcs _ _), State.setSeq_seq]
  rfl

/-- A lockout sets its notice. -/
theorem State.lockOut_noticed (s : State) (k : SwitchNo) (r : LockoutReason) : (s.lockOut k r).noticed .lockout := by
  unfold State.lockOut
  exact ⟨rfl, rfl⟩

/-- A sequence enters RECLAIM(n). -/
theorem State.enterReclaim_seq {s : State} {k : SwitchNo} {g : Group} (h : s.effectiveGroup k = some g) (j : SwitchNo) (n : Nat) :
    (s.enterReclaim k n).seq j = if j = k then (s.seq k).reclaiming n g.reclaim else s.seq j := by
  unfold State.enterReclaim
  rw [State.setSeq_seq, h]
  rfl

/-! ## Reports and results (R107, R112, R115, R116) -/

/-- A STATE report moves the sequence by the table of R107, and no other. -/
theorem State.rcsPosition_seq {s : State} {k : SwitchNo} {g : Group} (h : s.effectiveGroup k = some g) (j : SwitchNo) (p : Pole) :
    (s.rcsPosition k p).seq j = if j = k then (s.seq k).reported p g.reclaim else s.seq j := by
  unfold State.rcsPosition Sequence.reported
  cases e : (s.seq k).state <;> cases p <;>
    simp [State.settleSeq_seq, State.enterReclaim_seq h] <;> (intro hj; rw [hj])

/-- The results an operation in flight can end with (R85, R86). -/
def OpResult.ofFlight : OpResult → Bool
  | .done | .refusedByUnit _ | .noAnswer | .noMove => true
  | _ => false

/-- The end of an operation in flight moves the sequence of its switch as `Sequence.ended` says, and no other; `judged` is the reason
of the lockout that a noted trip ends in. -/
theorem State.rcsResult_seq {s : State} {k : SwitchNo} {g : Group} (h : s.effectiveGroup k = some g) (e : OpRequest)
    {res : OpResult} (hr : res.ofFlight = true) {judged : LockoutReason}
    (hj : ∀ n c, (s.seq k).state = .reclosing n → (s.seq k).note = some c → s.recloseCheck k n c = some judged) (j : SwitchNo) :
    (s.rcsResult k e.action e.classes res).seq j =
      if j = k then (s.seq k).ended e res (s.runtime k).position g.reclaim judged s.svu.minute else s.seq j := by
  have same : s.seq j = if j = k then s.seq k else s.seq j := by by_cases x : j = k <;> simp [x]
  unfold State.rcsResult Sequence.ended
  cases ha : e.action with
  | toOpen =>
    simp only [State.rcsOpenResult, State.settleByPosition]
    cases hq : (s.seq k).state <;> cases hp : (s.runtime k).position <;> cases hc : (s.seq k).cancel <;>
      cases res <;> simp_all [State.settleSeq_seq, OpResult.ofFlight, stateAt]
  | toClose =>
    simp only [State.rcsCloseResult]
    cases hq : (s.seq k).state <;> cases hc : e.classes.reclose <;> cases hcan : (s.seq k).cancel <;>
      cases res <;> simp_all [State.settleSeq_seq, OpResult.ofFlight, State.recloseEnded, State.enterReclaim_seq h,
        State.lockOut_seq]
    rename_i n
    cases hn : (s.seq k).note with
    | none => simp [State.lockOut_seq]
    | some c =>
      cases hp : (s.runtime k).position <;> simp [State.lockOut_seq]
      simp only [State.judgeTrip, hj n c rfl hn, State.lockOut_seq]
      rfl

end Sys2Proof.Machine
end

