-- ==== Sys2Proof/Laws/Steps.lean ====
section
/-! SUPPORT. What a command does around the work of the blocks, said once: a request on a port that takes it, an event of the blocks, a
frame from a unit, a timer's expiry, and the arbiter on a link that is not free. -/

namespace Sys2Proof.Machine

/-- Nothing to verify: every record matches its check code. -/
theorem State.verify_sound (s : State) (reads : RecordId → Bool) (h : s.svu.badCodes = []) : s.verify reads = s := by
  simp [State.verify, h]

/-- Nothing to verify before a command or the picks that end it. -/
theorem State.verifyReads_sound (s : State) (reads : RecordId → Bool) (h : s.svu.badCodes = []) : s.verifyReads reads = s := by
  simp [State.verifyReads, State.verify_sound, h]

/-- No failing start-cause record to mend. -/
theorem State.mendCause_sound (s : State) (h : s.svu.badCodes = []) : s.mendCause = s := by
  simp [State.mendCause, h]

/-- A restore whose failures its own writes have mended takes no further fault. -/
theorem State.takeFaultWhole_sound (s : State) (r : RecordId) (h : (s.takeFault r).svu.badCodes = []) :
    s.takeFaultWhole r = s.takeFault r := by
  unfold State.takeFaultWhole
  induction scanOrder.filter (s.readByFault r) with
  | nil => rfl
  | cons x l ih => rw [List.foldl_cons, show (s.takeFault r).verifyOne x = s.takeFault r from by simp [State.verifyOne, h]]; exact ih

/-- Every retained record is scanned (R157). -/
theorem mem_scanOrder (r : RecordId) : r ∈ scanOrder := by
  cases r with
  | group l => cases l <;> simp [scanOrder, allLevels]
  | _ => simp [scanOrder, allSlots, allZones, allSwitches]

/-- A pass over every record in which one fails, whose taking mends it, is the taking of that fault. -/
theorem State.verify_one {s : State} {r : RecordId} (hb : s.svu.badCodes = [r]) (hh : s.svu.halted = false)
    (hr : (s.takeFault r).svu.badCodes = []) : s.verify (fun _ => true) = s.takeFault r := by
  have rest : ∀ l : List RecordId, l.foldl
      (fun t x => if t.svu.badCodes.contains x && !t.svu.halted then t.takeFaultWhole x else t) (s.takeFault r)
        = s.takeFault r := by
    intro l
    induction l with
    | nil => rfl
    | cons x l ih => rw [List.foldl_cons]; simpa [hr] using ih
  have all : ∀ l : List RecordId, r ∈ l → l.foldl
      (fun t x => if t.svu.badCodes.contains x && !t.svu.halted then t.takeFaultWhole x else t) s = s.takeFault r := by
    intro l hl
    induction l with
    | nil => cases hl
    | cons x l ih =>
      rw [List.foldl_cons]
      by_cases e : x = r
      · subst e
        simpa [hb, hh, State.takeFaultWhole_sound s x hr] using rest l
      · have : (if s.svu.badCodes.contains x && !s.svu.halted then s.takeFaultWhole x else s) = s := by simp [hb, e]
        rw [this]
        exact ih ((List.mem_cons.mp hl).resolve_left (Ne.symm e))
  have f : scanOrder.filter (fun _ => true) = scanOrder := by simp
  unfold State.verify
  rw [f, all _ (mem_scanOrder r)]
  simp [hb]

/-- An event of the time base outside the hold in reset, with nothing to verify. -/
theorem State.timeEvent_sound {s : State} (hr : s.inReset = false) (hb : s.svu.badCodes = []) (expires : Bool) (f : State → State) :
    s.timeEvent expires f = (f s).arbitrate := by
  simp [State.timeEvent, hr, State.verifyReads_sound _ _ hb]

/-- The state after a request's owning block is done, with its register emptied when conditional, the response built and the arbiter's
picks made. -/
def State.finishRequest (p : Port) (r : Request) (x : State × Completion) : State :=
  let u := (if isConditional r then x.1.dropReservation p else x.1).respond p (requestCode r) x.2
  if isReading r then u else u.arbitrate

/-- A request command is the arrival of its request. -/
theorem exec_request {c : Instr} {p : Port} {r : Request} (h : asRequest c = some (p, r)) (s : State) :
    exec c s = .next (s.requestArrives p r) := by
  cases c <;> simp [asRequest] at h <;> obtain ⟨rfl, rfl⟩ := h <;> rfl

/-- A port that takes a frame at once. -/
theorem State.frameArrives_open {s : State} {p : Port} (h : s.portOpen p) (f : Frame) :
    s.frameArrives p f = (s.taking p).takeFrame p f := by
  obtain ⟨a, b, c⟩ := h
  unfold State.frameArrives State.taking
  simp only [a, b, Option.isSome_none, Bool.false_eq_true, if_false]
  split
  · rename_i h; simp only [Bool.and_eq_true, beq_iff_eq] at h; simp [c h.1] at h
  · rfl

@[simp] theorem State.inReset_taking (s : State) (p : Port) : (s.taking p).inReset = s.inReset := rfl

/-- A request that its owning block judges: neither HALTED, nor on the wrong port, nor with a record that fails its check. -/
theorem exec_ready {c : Instr} {p : Port} {r : Request} {s : State} (hc : asRequest c = some (p, r)) (h : s.ready p)
    (hp : p = .maintenance → controllerOnly r = false) :
    exec c s = .next (State.finishRequest p r ((s.taking p).carryOut p r)) := by
  obtain ⟨ho, hh, hb⟩ := h
  rw [exec_request hc, State.requestArrives, State.frameArrives_open ho]
  have hr : (p == Port.maintenance && controllerOnly r) = false := by
    cases p with
    | controller => rfl
    | maintenance => simpa using hp rfl
  simp [State.takeFrame, State.takeRequest, State.judge, State.finishRequest, hb, hh, hr, State.verifyReads_sound]

/-- An event of the blocks of a part that works. -/
theorem State.event_working {s : State} (h : s.working) (reads : RecordId → Bool) (f : State → State) :
    s.event reads f = (f s).arbitrate := by
  obtain ⟨a, b, c⟩ := h
  simp [State.event, State.live, a, b, State.verifyReads_sound, c]

/-- An event of the blocks of a part that does not work changes nothing. -/
theorem State.event_idle {s : State} (h : s.live = false) (reads : RecordId → Bool) (f : State → State) : s.event reads f = s := by
  simp [State.event, h]

theorem State.configured_of_owner {s : State} {a : Byte} {k : SwitchNo} (h : s.ownerOf a = some k) : s.configured k = true := by
  have := List.find?_some h
  simp only [Option.any_eq_true] at this
  obtain ⟨c, hc, _⟩ := this
  simp [State.configured, hc]

/-- A frame from a configured switch of a part that works. -/
theorem State.fromUnit_working {s : State} (h : s.working) {a : Byte} {k : SwitchNo} (ho : s.ownerOf a = some k)
    (f : State → SwitchNo → State) : s.fromUnit a f = (f s k).arbitrate := by
  have hk := State.configured_of_owner ho
  obtain ⟨x, y, z⟩ := h
  simp [State.fromUnit, State.live, x, y, State.verifyReads_sound, z, ho, hk]

/-- A running timer of a part that works expires. -/
theorem State.expiry_working {s : State} (h : s.working) (timer : State → Timer) (reads : RecordId → Bool) (f : State → State)
    (ht : timer s ≠ .stopped) : s.expiry timer reads f = (f s).arbitrate := by
  have : (timer s).isRunning = true := by cases e : timer s <;> simp_all [Timer.isRunning]
  simp [State.expiry, this, State.event_working h]

/-- While a message is awaited the arbiter picks nothing. -/
theorem State.arbitrate_awaited {s : State} (h : s.sou.awaited.isSome = true) : s.arbitrate = s := by
  unfold State.arbitrate
  split
  · simp [State.arbitrateFor, h]
  · rfl

/-- The arbiter of a part that does not work picks nothing. -/
theorem State.arbitrate_idle {s : State} (h : s.live = false) : s.arbitrate = s := by simp [State.arbitrate, h]

/-- A response built on a port, as the statements write it. -/
theorem State.respond_eq_answer (s : State) (p : Port) (b : Byte) (c : Completion) :
    s.respond p b c = s.answer p b c.code c.data := rfl

/-- The response to a taken request replaces whatever response stood on the port. -/
theorem State.answer_taking (s : State) (p : Port) (b : Byte) (c : Code) (d : ResponseData) :
    (s.taking p).answer p b c d = s.answer p b c d := by
  cases p <;> rfl

/-- The answer to a request that neither reads only nor is conditional, followed by the arbiter's picks. -/
theorem State.finishRequest_answer (p : Port) {r : Request} (t : State) (c : Completion) (h1 : isConditional r = false)
    (h2 : isReading r = false) :
    State.finishRequest p r (t, c) = (t.answer p (requestCode r) c.code c.data).arbitrate := by
  simp [State.finishRequest, h1, h2, State.respond_eq_answer]

/-- The answer to a request that only reads. -/
theorem State.finishRequest_read (p : Port) {r : Request} (t : State) (c : Completion) (h1 : isConditional r = false)
    (h2 : isReading r = true) :
    State.finishRequest p r (t, c) = t.answer p (requestCode r) c.code c.data := by
  simp [State.finishRequest, h1, h2, State.respond_eq_answer]

/-- A change of the records that leaves the ports alone commutes with the response. -/
theorem State.answer_of_rqi {s t : State} (h : t.rqi = (s.taking p).rqi) (b : Byte) (c : Code) (d : ResponseData) :
    t.answer p b c d = State.answer { t with rqi := s.rqi } p b c d := by
  cases p <;> simp [State.answer, State.setPort, State.port, h, Rqi.port, Rqi.setPort, State.taking, PortRecord.answered]

end Sys2Proof.Machine
end

