-- ==== Sys2Proof/Tests/Slice0.lean ====
section
/-! SUPPORT. The model's own tests: ill-formed terms that the check refuses, one step of each command on a small state, and for each
statement a state and operands that meet its hypotheses. -/


namespace Sys2Proof.Tests

set_option Elab.async false
set_option maxRecDepth 4000

open Sys2Proof.Machine

/-! ## The feeder the tests stand on: three zones in a row, a head breaker, a recloser, a load-break switch -/

def testZone (parent : Option ZoneNo) (k : SwitchNo) (d : DistrictNo) : ZoneEntry := ⟨some ⟨parent, .switched k, d, false⟩, 0⟩
def testSwitch (cls : SwitchClass) (address : Byte) (z : ZoneNo) (sensing : Bool) : Option SwitchConfig :=
  some ⟨cls, address, z, sensing, 1, 0, 30⟩
def testFmu : Fmu :=
  { mode := .commissioning
    zones := (((Vector.replicate 32 ZoneEntry.cold).set 0 (testZone none 0 0)).set 1 (testZone (some 0) 1 1)).set 2
      (testZone (some 1) 2 1)
    switches := (((Vector.replicate 16 none).set 0 (testSwitch .headBreaker 10 0 true)).set 1
      (testSwitch .recloser 11 1 true)).set 2 (testSwitch .loadBreakSwitch 12 2 false)
    reachTable := none }
def testRuntime : Runtime := { Runtime.start with position := .closed, confirmed := some 0, profileState := .confirmed }

/-- COMMISSIONING, no hold, the three switches closed with their profiles confirmed. -/
def shop : State :=
  { State.reset with
    fmu := testFmu
    htu := ⟨Vector.replicate 64 .cold, .zero⟩
    sou := { Sou.start .default with
      runtime := (((Vector.replicate 16 Runtime.start).set 0 testRuntime).set 1 testRuntime).set 2 testRuntime }
    rqi := ⟨.start, .start, none⟩ }

/-- The same in SERVICE, every sequence CLOSED. -/
def home : State :=
  { shop with
    fmu := { testFmu with mode := .service, reachTable := some testFmu.buildReach }
    rcs := ⟨Vector.replicate 16 { Sequence.start none with state := .closed }⟩ }

def after (c : Instr) (s : State) : Option State :=
  match exec c s with
  | .next t => some t
  | _ => none
/-- A test on the state a command leaves. -/
def leaves (c : Instr) (s : State) (test : State → Bool) : Bool := (after c s).any test
/-- The completion code a request is answered with. -/
def answers (c : Instr) (p : Port) (s : State) (code : Code) : Bool :=
  leaves c s fun t => (t.port p).response.any (·.code == code)

abbrev C : Port := .controller
abbrev M : Port := .maintenance

def homeWith (k : SwitchNo) (f : Runtime → Runtime) : State := home.setRuntime k (f (home.runtime k))
/-- The given hold alone, in slot 3 with use count 5, its origin counted. -/
def withHold (s : State) (h : Hold) : State :=
  { s.setSlot 3 ⟨some h, 5⟩ with htu.counts := LiveCounts.zero.modify (· + 1) h.origin }
def ownedHold : Hold :=
  { kind := .noClose, strength := .owned, origin := .controller, scope := 2, tag := some 7, expiry := none, reason := 1
    cause := none, placed := 0, version := 4 }
def plainHold : Hold := { ownedHold with strength := .plain, tag := none }
def fireHold : Hold := { plainHold with kind := .noReclose, origin := .fire, cause := some (.district 1) }
def systemHold : Hold := Hold.continuity 0
/-- The handle of the hold. -/
def theHandle : HandleField := ⟨3, 5⟩
/-- In season. -/
def season (s : State) : State := { s with fsu.season := .inSeason }
/-- The staging record open on group SEVERE for the controller port. -/
def staged : State := { home with fsu.staging := some ⟨.severe, .controller, Groups.cold.severe⟩ }
/-- Switch 1 awaited for a message of a kind. -/
def awaiting (kind : AwaitedKind) (s : State) : State :=
  { s with sou.awaited := some ⟨1, kind, false⟩, sou.answerTimer := .start 20 }
/-- Switch 1 with an operation in flight. -/
def flying (a : SwitchAction) (cs : Classes) (phase : Phase) (s : State) : State :=
  s.setRuntime 1 { s.runtime 1 with inFlight := some ⟨⟨a, cs⟩, phase⟩, mechanism := .start 30 }
/-- Switch 1 with its sequence in a state. -/
def sequenced (st : SeqState) (s : State) : State :=
  s.putSeq 1 { s.seq 1 with
    state := st, deadTimer := .start 10, reclaimTimer := .start 300, tripClass := some .phase, marker := some 1 }
/-- A case in a state, its listen window running in LOCATING, and the step timers. -/
def hunting (st : CaseState) : State :=
  { home with
    ehu.huntCase := { HuntCase.cold with
      number := 4, state := st, candidates := [0, 1, 2], listen := if st = .locating then .start 200 else .stopped }
    ehu.settleTimer := .start 50, ehu.observeTimer := .start 100
    ehu.watch := { Watch.start with state := .hunting, episode := true } }
def stepping (phase : StepPhase) : State :=
  { hunting .stepping with ehu.huntCase := { (hunting .stepping).ehu.huntCase with step := some ⟨1, phase, none⟩ } }
/-- The step of switch 1 in OBSERVING, its switch open, with a deciding report. -/
def observing (c : Option ReportClass) : State :=
  let s := (stepping .observing).setRuntime 1 { testRuntime with position := .opened }
  { s with ehu.deciding := c }

/-- District 1 at BAN with its FIRE hold in slot 0. -/
def burning : State := (home.setDistrict 1 { District.cold with declared := .ban, effective := .ban }).placeFire 1
/-- The same with zone 0 moved to district 1, so that the hold's scope is no longer that of the district's present zones. -/
def burningElsewhere : State := { burning with fmu.zones := burning.fmu.zones.set 0 (testZone none 0 1) }
/-- The same in season and COMMISSIONING. -/
def burningShop : State := { season burning with fmu := testFmu }

/-! ## The check refuses ill-formed commands -/

theorem test_refuses_byte_numbers :
    ([.readZone C 256, .readSwitch C 256, .reserveLevel C 256, .clearSwitchFailure C 256, .retryProfile C 256,
      .checkClose C 256 .unnamed, .operateSwitch C 256 .unnamed, .declareLevel C 256 .unnamed false,
      .configureSwitchRemoval C 256, .listHolds C 256 none none, .listHolds C 0 (some 256) none,
      .configureSwitch C 256 ⟨.named .recloser, 0, 0, .named false, 0, 0, none⟩,
      .configureSwitch C 0 ⟨.named .recloser, 256, 0, .named false, 0, 0, none⟩,
      .configureSwitch C 0 ⟨.named .recloser, 0, 256, .named false, 0, 0, none⟩,
      .configureSwitch C 0 ⟨.named .recloser, 0, 0, .named false, 65536, 0, none⟩,
      .configureSwitch C 0 ⟨.named .recloser, 0, 0, .named false, 0, 256, none⟩] : List Instr).all (!·.wellFormed) := by decide
theorem test_refuses_handles :
    ([.readHold C ⟨256, 0⟩, .reserveHold C ⟨0, 65536⟩, .releaseHold C ⟨⟨256, 0⟩, false, none⟩,
      .amendHold C ⟨⟨0, 65536⟩, false, none, .keep, none, none, none⟩,
      .amendHold C ⟨⟨0, 0⟩, false, none, .keep, none, some [1, 1], none⟩,
      .placeHold C ⟨.unnamed, .unnamed, [1, 1], none, none, 0⟩] : List Instr).all (!·.wellFormed) := by decide
theorem test_refuses_long_zone_lists :
    (Instr.loadZones C (List.replicate 256 ⟨0, none, .fixed, 0, .named false⟩)).wellFormed = false := by decide +kernel
theorem test_refuses_frames :
    ([.refusedFormatFrame C [] true, .refusedFormatFrame C [2, 0x14, 0xEA] false, .maintenanceByteTimeout [],
      .maintenanceByteTimeout [1, 2], .answerFrame 0 true 0, .answerFrame 255 true 0, .answerFrame 1 true 1,
      .stateFrame 0 .opened none, .tripFrame 255 .phase, .fieldByteTimeout [], .fieldByteTimeout [1, 0, 1, 1],
      .inboundFrameDiscarded [1], .inboundFrameDiscarded [1, 1, 1]] : List Instr).all (!·.wellFormed) := by decide
theorem test_refuses_repeated_records :
    ([.scanPass [.huntCase, .huntCase], .resetAssert [.huntCase, .huntCase], .supplyFall [.huntCase, .huntCase],
      .powerUp true [.huntCase, .huntCase]] : List Instr).all (!·.wellFormed) := by decide

/-! ## One step of each command -/

theorem test_step_takes_the_front : (match step { home with pending := [.lkeyChange true, .readTime C] } with
    | .next t => t.lines.lkey && t.pending == [.readTime C] | _ => false) = true := by decide +kernel
theorem test_step_idles : (match step (awaiting .operate home) with
    | .next t => t.sou.answerTimer == .running 20 19 | _ => false) = true := by decide +kernel
theorem test_reads_answer :
    ([.readZone C 0, .readSwitch C 1, .readHold C theHandle, .listHolds C 0 none none, .checkClose C 1 (.named .deliberate),
      .reserveHold C theHandle, .reserveLevel C 7, .readLevels C, .readGroup C (.named .ban) true, .readHunt C, .readTime C,
      .readStartCause C (.named true), .readStatus C, .readNotices C, .clearNotices C [.named .trip] none,
      .identify C] : List Instr).all (answers · C (withHold home plainHold) .done) := by decide +kernel
theorem test_reads_refuse :
    ([.readZone C 32, .readSwitch C 16, .readHold C ⟨64, 0⟩, .listHolds C 64 none none, .checkClose C 16 (.named .automatic),
      .reserveHold C ⟨0, 1024⟩, .reserveLevel C 8, .readGroup C .unnamed false, .readStartCause C .unnamed,
      .clearNotices C [.unnamed] none] : List Instr).all (answers · C home .refusedRange) := by decide +kernel
/-- A switch that is not configured returns start values, whatever its record holds (R18; log entry 44). -/
theorem test_readSwitchUnconfigured :
    leaves (.readSwitch C 15) (homeWith 15 fun r => { r with pollWanted := some .hunt }) (fun t =>
      (t.port C).response.any fun a => match a.data with
        | .switch r => r.runtime == Runtime.start && r.seqState == .outOfService
        | _ => false) = true := by decide +kernel
theorem test_loadZones : leaves (.loadZones C [⟨0, none, .switched 0, 3, .named true⟩]) shop fun t =>
    (t.zone 0).info == some ⟨none, .switched 0, 3, true⟩ && (t.zone 1).info.isNone := by decide +kernel
theorem test_configureSwitch : leaves (.configureSwitch C 5 ⟨.named .recloser, 15, 2, .named false, 1, 0, none⟩) shop fun t =>
    t.config 5 == some ⟨.recloser, 15, 2, false, 1, 0, 30⟩ := by decide +kernel
theorem test_configureSwitchRemoval : leaves (.configureSwitchRemoval C 2) shop fun t => (t.config 2).isNone := by decide +kernel
/-- A field that is none of the named ones, or finer than its stored unit, passes framing and is refused for its range (R12, R170; log
entries 32 and 40). -/
theorem test_unnamed_fields :
    ([.loadZones C [⟨0, none, .unnamed, 3, .named true⟩], .loadZones C [⟨0, none, .switched 0, 3, .unnamed⟩],
      .configureSwitch C 0 ⟨.unnamed, 15, 2, .named false, 1, 0, none⟩,
      .configureSwitch C 5 ⟨.named .recloser, 15, 2, .unnamed, 1, 0, none⟩,
      .configureSwitch C 5 ⟨.named .recloser, 15, 2, .named false, 1, 0, some ⟨30, true⟩⟩,
      .setHuntParameters C ⟨none, some ⟨10, true⟩, none, none, none, none⟩] : List Instr).all (answers · C shop .refusedRange) := by
  decide +kernel
theorem test_enterService : leaves (.enterService C) shop fun t =>
    t.fmu.mode == .service && t.segment 1 == 2 && t.subtree 1 == 6 && (t.seq 1).state == .uncertain := by decide +kernel
theorem test_enterCommissioning :
    leaves (.enterCommissioning C) { home with lines.lkey := true } fun t => t.fmu.mode == .commissioning := by decide +kernel
theorem test_placeHold : leaves (.placeHold M ⟨.named .noClose, .named .plain, [1, 2], none, none, 9⟩) home fun t =>
    (t.holdAt 0).any (fun h => h.scope == 6 && h.origin == .maintenance) && !t.closePermitted 1 .deliberate
      && !t.closePermitted 0 .deliberate := by decide +kernel
theorem test_amendHold :
    leaves (.amendHold C ⟨theHandle, false, some 7, .keep, none, none, some (.named .noReclose)⟩) (withHold home ownedHold) fun t =>
      (t.holdAt 3).any (fun h => h.kind == .noReclose && h.version == 5) := by decide +kernel
theorem test_releaseHold : leaves (.releaseHold C ⟨theHandle, false, some 7⟩) (withHold home ownedHold) fun t =>
    t.slot 3 == ⟨none, 6⟩ && t.htu.counts == .zero := by decide +kernel
theorem test_groupEdit : leaves (.openGroupEdit C (.named .severe)) home (fun t => t == { staged with rqi := t.rqi })
    && leaves (.editGroup C (.named .residualPickup) (.quantity ⟨25, false⟩)) staged (fun t =>
      t.fsu.staging == some ⟨.severe, .controller, { Groups.cold.severe with pickup := 25 }⟩)
    && leaves (.discardGroupEdit C) staged (fun t => t.fsu.staging.isNone) := by decide +kernel
theorem test_commitGroup : leaves (.commitGroup C)
    { home with fsu.staging := some ⟨.severe, .controller, { Groups.cold.severe with pickup := 25 }⟩ } fun t =>
      t.fsu.groups.severe.pickup == 25 && t.fsu.staging.isNone := by decide +kernel
theorem test_declareLevel : leaves (.declareLevel C 1 (.named .severe) false) (season home) fun t =>
    (t.district 1).effective == .severe && (t.district 1).version == 1 && (t.runtime 1).profileState == .pending
      && t.ehu.thresholds == ⟨30, 80⟩ := by decide +kernel
theorem test_declareLevel_already : leaves (.declareLevel C 1 (.named .ban) false) burning fun t =>
    t.rqi.controller.response.any (·.data == .district (burning.district 1)) && (burning.district 1).fire.isSome := by decide +kernel
theorem test_setSeason : leaves (.setSeason C (.named .inSeason)) home fun t => t.fsu.season == .inSeason := by decide +kernel
theorem test_tfbEdge : leaves (.tfbEdge true) home fun t =>
    (t.holdAt 0).any (fun h => h.origin == .fire && h.scope == 1) && (t.holdAt 1).any (fun h => h.scope == 6)
      && !t.closePermitted 1 .automatic && t.closePermitted 1 .deliberate := by decide +kernel
theorem test_operateSwitch : leaves (.operateSwitch C 1 (.named .toOpen)) home fun t =>
    t.sou.sent == some ⟨11, .operate .toOpen⟩ && (t.runtime 1).inFlight == some ⟨⟨.toOpen, .ofPort C⟩, .awaitAnswer⟩ := by decide +kernel
theorem test_clearSwitchFailure :
    leaves (.clearSwitchFailure C 1) (homeWith 1 fun r => { r with condition := .failed }) fun t =>
      (t.runtime 1).condition == .sound && t.sou.sent == some ⟨11, .poll⟩ := by decide +kernel
theorem test_retryProfile :
    leaves (.retryProfile C 1) (homeWith 1 fun r => { r with profileState := .refused }) fun t =>
      t.sou.sent == some ⟨11, .setProfile 0⟩ := by decide +kernel
theorem test_setLinkSettings :
    leaves (.setLinkSettings C ⟨some ⟨30, false⟩, none, none, none, none, none, none, none, some 3⟩) home fun t =>
      t.sou.link == { LinkSettings.default with answerTime := 30, poll := 3 } := by decide +kernel
theorem test_setHuntParameters :
    leaves (.setHuntParameters C ⟨some (.named false), some ⟨10, false⟩, none, none, none, none⟩) home fun t =>
      t.ehu.params == { HuntParams.default with autoStart := false, confirm := 10 } := by decide +kernel
theorem test_startHunt : leaves (.startHunt C none) home fun t =>
    t.ehu.huntCase.state == .locating && t.ehu.huntCase.candidates == [0, 1, 2] && t.sou.sent == some ⟨10, .poll⟩ := by decide +kernel
theorem test_resumeHunt : leaves (.resumeHunt C)
    { hunting .suspended with ehu.huntCase := { (hunting .suspended).ehu.huntCase with suspension := some ⟨.switchFailed, 1⟩ } }
    fun t => t.ehu.huntCase.state == .locating := by decide +kernel
theorem test_abandonHunt :
    leaves (.abandonHunt C) (hunting .locating) (fun t => t.ehu.huntCase.abandon == some .port)
      && leaves (.abandonHunt C) (stepping .opening) (fun t => t.ehu.pendingAbandon == some .port) := by decide +kernel
theorem test_closeHuntCase : leaves (.closeHuntCase C) (hunting .concluded) fun t =>
    t.ehu.huntCase.state == .idle && t.ehu.watch.state == .watching := by decide +kernel
theorem test_setTime : leaves (.setTime C 77) home fun t => t.svu.minute == 77 && t.svu.timeSet := by decide +kernel
theorem test_port_frames :
    answers (.refusedFormatFrame C [9, 0x10] true) C home .refusedFormat
      && answers (.maintenanceByteTimeout [9, 0x10]) M home .refusedFormat
      && leaves (.frameDiscarded C) home (fun t => t.rqi.controller.discardMark) := by decide +kernel
def answered : State := (home.answer C 0x10 .done .empty).answer M 0x10 .done .empty
theorem test_responses_go :
    leaves (.readTransaction true) answered (fun t => t.rqi.controller.response.isNone && t.rqi.lastRead.isSome)
      && leaves (.readTransaction false) answered (fun t => t.rqi.controller.response.isSome)
      && leaves .responseSent answered (fun t => t.rqi.maintenance.response.isNone)
      && leaves (.readTime M) answered (fun t => t.rqi.maintenance.request == some (.request .readTime)) := by decide +kernel
theorem test_answerFrame :
    leaves (.answerFrame 11 true 0) (awaiting .operate (flying .toOpen {} .awaitAnswer home)) (fun t =>
      t.sou.awaited.isNone && (t.runtime 1).inFlight == some ⟨⟨.toOpen, {}⟩, .awaitMove⟩)
      && leaves (.answerFrame 11 false 3) (awaiting (.setProfile 0) home) (fun t => (t.runtime 1).profileState == .refused) := by decide +kernel
theorem test_stateFrame : leaves (.stateFrame 11 .opened (some 12)) (flying .toOpen {} .awaitMove home) fun t =>
    (t.runtime 1).position == .opened && (t.runtime 1).inFlight.isNone
      && (t.runtime 1).lastResidual == some ⟨12, .good, 0⟩
      && (t.runtime 1).lastResult == some ⟨.toOpen, {}, .done⟩ := by decide +kernel
theorem test_tripFrame : leaves (.tripFrame 11 .phase) home fun t =>
    t.seq 1 == { Sequence.start (some 1) with state := .deadTime 1, deadTimer := .start 10, tripClass := some .phase }
      && t.ehu.runningCount == 1 := by decide +kernel
theorem test_discarded_frames : leaves (.fieldByteTimeout [11, 3]) home (· == home)
    && leaves (.inboundFrameDiscarded [11, 1, 0x83, 0, 0]) home (· == home) := by decide +kernel
theorem test_answerTimerExpiry : leaves .answerTimerExpiry (awaiting .operate (flying .toOpen {} .awaitAnswer home)) fun t =>
    (t.runtime 1).condition == .failed && (t.runtime 1).position == .unknown := by decide +kernel
theorem test_mechanismTimerExpiry : leaves (.mechanismTimerExpiry 1) (flying .toOpen {} .awaitMove home) fun t =>
    (t.runtime 1).lastResult == some ⟨.toOpen, {}, .noMove⟩ := by decide +kernel
/-- R86, R112: a reclose with a note whose switch is found OPEN locks out for CONDITION, whatever else its checks find. -/
theorem test_noted_reclose_ends_unmoved :
    let s := (flying .toClose { reclose := true } .awaitMove home).putSeq 1
      { Sequence.start (some 1) with state := .reclosing 1, shotsUsed := 1, note := some .phase }
    leaves (.stateFrame 11 .opened none) s fun t =>
      (t.seq 1).lastLockout == some ⟨.condition, 0⟩ && (t.runtime 1).condition == .failed := by decide +kernel
theorem test_pollTimers :
    leaves .routineTimerExpiry { home with sou.routineTimer := .start 3000 } (fun t =>
      t.sou.sent == some ⟨10, .poll⟩ && (t.runtime 2).pollWanted == some .routine)
      && leaves .headTimerExpiry { home with sou.headTimer := .start 50 } (fun t => t.sou.sent == some ⟨10, .poll⟩) := by decide +kernel
def recloseDue : State := (sequenced (.deadTime 1) home).setRuntime 1 { testRuntime with position := .opened }
theorem test_deadTimeExpiry : leaves (.deadTimeExpiry 1) recloseDue fun t =>
    (t.seq 1).state == .reclosing 1 && t.sou.sent == some ⟨11, .operate .toClose⟩ := by decide +kernel
theorem test_reclaimExpiry : leaves (.reclaimExpiry 1) (sequenced (.reclaim 1) home) fun t =>
    (t.seq 1).state == .closed && (t.seq 1).reclaimTimer == .stopped := by decide +kernel
def watching : State := { home with ehu.watch := { Watch.start with state := .watching, episode := true, confirmTimer := .start 600 } }
theorem test_confirmTimerExpiry : leaves .confirmTimerExpiry watching fun t =>
    t.ehu.huntCase.state == .locating && t.ehu.huntCase.startOrigin == some .auto := by decide +kernel
theorem test_listenWindowExpiry : leaves .listenWindowExpiry (hunting .locating) fun t =>
    t.ehu.huntCase.step == some ⟨1, .opening, none⟩ && t.sou.sent == some ⟨11, .operate .toOpen⟩ := by decide +kernel
theorem test_settleTimerExpiry : leaves .settleTimerExpiry (stepping .settling) fun t =>
    t.ehu.huntCase.step == some ⟨1, .observing, none⟩ && t.sou.sent == some ⟨10, .poll⟩ := by decide +kernel
theorem test_observeTimerExpiry : leaves .observeTimerExpiry (observing (some .above)) fun t =>
    t.ehu.huntCase.candidates == [0] && t.ehu.huntCase.cleared == [1, 2]
      && t.ehu.huntCase.step == some ⟨1, .closingBack, some .notDownstream⟩ := by decide +kernel
theorem test_scanPass : leaves (.scanPass [.slot 3]) (withHold home ownedHold) fun t =>
    (t.slot 3).useCount == 6 && (t.holdAt 0).any (·.cause == some .integrity) && t.rqi.controller.notices.integrity := by decide +kernel
/-- R156, R160: an expiry whose timer the fault it finds has stopped finds nothing that expires. -/
theorem test_faults_stop_timers :
    leaves .listenWindowExpiry { hunting .locating with svu.badCodes := [.huntCase] } (fun t =>
      t.ehu.huntCase == HuntCase.cold && t.integrityExists)
      && leaves .listenWindowExpiry { hunting .locating with svu.badCodes := [.huntParameters] } (fun t =>
        t.ehu.huntCase.result == some .abandoned && t.ehu.huntCase.abandon == some .integrity)
      && leaves .headTimerExpiry { home with sou.headTimer := .start 50, svu.badCodes := [.switch 0] } (fun t =>
        t.sou.headTimer == .stopped && t.runtime 0 == .start && t.fmu.mode == .commissioning) := by decide +kernel
/-- R156: where the restore of a narrow read leaves pushes to pick, the link settings are verified before they are read. -/
theorem test_faults_verify_the_picks :
    answers (.reserveLevel C 0) C { home with svu.badCodes := [.seasonDistrict, .linkSettings] } .refusedHalted
      && leaves (.reserveLevel C 0) { home with svu.badCodes := [.seasonDistrict, .linkSettings] } (fun t =>
        t.svu.halted && t.svu.badCodes == [])
      && leaves (.reserveHold C theHandle) { withHold home plainHold with svu.badCodes := [.slot 3, .linkSettings] } (fun t =>
        !t.svu.halted && t.svu.badCodes == [.linkSettings]) := by decide +kernel
theorem test_time :
    leaves (.trefPulse (some 1000)) { home with svu.source := .tref, svu.pulseRun := 2, svu.timeSet := true } (fun t =>
      t.svu.pulseRun == 3 && t.svu.timeState == .good && t.svu.second == 1)
      && leaves .trefLoss { home with svu.source := .tref, svu.timeState := .good } (fun t =>
        t.svu.source == .oscillator && t.svu.timeState == .degraded)
      && leaves .oscillatorSecond { home with svu.second := 59 } (fun t => t.svu.minute == 1) := by decide +kernel
/-- R156: a pulse that makes the time state GOOD verifies the slots whose holds it may end. -/
theorem test_pulse_verifies_what_it_expires :
    let s := withHold home { plainHold with expiry := some 0 }
    leaves (.trefPulse (some 1000))
      { s with svu.source := .tref, svu.pulseRun := 2, svu.timeSet := true, svu.badCodes := [.slot 3] } fun t =>
        t.svu.badCodes == [] && t.integrityExists && t.svu.timeState == .good && (t.slot 3).useCount == 6 := by decide +kernel
theorem test_lines :
    leaves (.lkeyChange true) home (fun t => t == { home with lines.lkey := true })
      && leaves (.resetAssert [.huntCase]) home (fun t => t.inReset && t.svu.badCodes == [.huntCase])
      && leaves (.supplyFall []) home (fun t => t.lines.fell && t.inReset) := by decide +kernel
theorem test_starts :
    leaves .resetRelease { home with lines.reset := true } (fun t =>
      t.svu.startCause.last == some .resetLine && (t.seq 1).state == .uncertain && t.sou.sent.isSome)
      && leaves .supplyRecovery { home with lines.supplyLow := true, lines.fell := true } (fun t =>
        t.svu.startCause.last == some .supply) := by decide +kernel
/-- R168: a warm start that finds its start-cause record failing keeps its own cause. R167: a marker that the restore of a zone entry
clears makes no RESTART lockout. -/
theorem test_starts_on_failing_records :
    leaves .resetRelease { home with lines.reset := true, svu.badCodes := [.startCause] } (fun t =>
      t.svu.startCause.last == some .resetLine && t.integrityExists && t.svu.badCodes == [])
      && leaves .resetRelease { sequenced (.deadTime 1) home with lines.reset := true, svu.badCodes := [.zone 2] } (fun t =>
        t.fmu.mode == .commissioning && (t.seq 1).lastLockout.isNone) := by decide +kernel
theorem test_powerUp : leaves (.powerUp true []) home (· == State.reset) := by decide +kernel

/-! ## A state and operands for each statement -/

theorem witness_StepRunsFrontCommand : ({ home with pending := [.readTime C] } : State).pending = .readTime C :: [] := rfl
theorem witness_StepOnEmptyQueueTicks :
    home.pending = [] ∧ home.live = true ∧ ({ home with lines.reset := true } : State).live = false := by decide +kernel
theorem witness_StepKeepsGroupsMonotone : home.groupsOrdered ∧ step home = .next home.idle := by
  refine ⟨?_, rfl⟩
  unfold State.groupsOrdered Groups.monotone
  decide +kernel
theorem witness_StepKeepsLevelsAgreed : home.levelsAgree ∧ step home = .next home.idle := by
  refine ⟨?_, rfl⟩
  unfold State.levelsAgree
  decide +kernel
theorem witness_StepKeepsPortShare : (withHold home ownedHold).portShareKept ∧ step home = .next home.idle := by
  refine ⟨⟨?_, ?_⟩, rfl⟩
  · intro o; cases o <;> decide +kernel
  · decide +kernel
theorem witness_StepKeepsCaseAndFireSettled : home.settled ∧ (stepping .opening).settled ∧ (hunting .locating).settled
    ∧ burning.fireHandlesLive ∧ (burning.district 1).fire = some ⟨0, 0⟩ ∧ home.runningCounted ∧ step home = .next home.idle := by
  refine ⟨?_, ?_, ?_, State.fireHandlesLive_of (by decide +kernel), by decide +kernel,
    (by unfold State.runningCounted; decide +kernel), rfl⟩ <;>
    (unfold State.settled; decide +kernel)
/-- The ports of the test states take requests at once. -/
theorem witness_ready : home.ready C ∧ home.ready M ∧ shop.ready C ∧ staged.ready C ∧ staged.ready M
    ∧ (withHold home ownedHold).ready C ∧ (hunting .locating).ready C := by
  unfold State.ready State.portOpen; decide +kernel
/-- The test states take events. -/
theorem witness_working : home.working ∧ recloseDue.working ∧ watching.working ∧ (hunting .locating).working
    ∧ (awaiting .operate (flying .toOpen {} .awaitAnswer home)).working ∧ (observing none).working
    ∧ (stepping .settling).working := by
  unfold State.working; decide +kernel
theorem witness_ClassAMovesNothing : asRequest (.readTime C) = some (C, .readTime) ∧ isReading .readTime = true ∧ M ≠ C
    ∧ home.ready C := by
  unfold State.ready State.portOpen; decide +kernel
theorem witness_HoldReadsAnswer : (withHold home ownedHold).ready C
    ∧ (withHold home ownedHold).holdAt 3 = some ownedHold ∧ (withHold home ownedHold).holdAt 63 = none
    ∧ ((withHold home ownedHold).slot 3).useCount ≠ 1023 := by
  unfold State.ready State.portOpen; decide +kernel
theorem witness_CheckCloseAnswers : home.ready C ∧ home.configured 0 = true ∧ home.configured 15 = false := by
  unfold State.ready State.portOpen; decide +kernel
theorem witness_ReservingReadsFillTheRegister : (withHold home plainHold).ready C
    ∧ (withHold home plainHold).holdAt 3 = some plainHold ∧ (withHold home plainHold).holdAt 0 = none
    ∧ asRequest (.releaseHold C ⟨theHandle, true, none⟩) = some (C, .releaseHold ⟨theHandle, true, none⟩)
    ∧ isConditional (.releaseHold ⟨theHandle, true, none⟩) = true ∧ home.portOpen C := by
  unfold State.ready State.portOpen; decide +kernel
theorem witness_RecordReadsAnswer : home.ready C ∧ home.fmu.reachTable.isSome = true ∧ home.configured 15 = false := by
  unfold State.ready State.portOpen; decide +kernel
/-- HALTED, with the status kept. -/
def halted : State := (home.secondFault)
theorem witness_StartCauseAndStatusAnswer : halted.portOpen C ∧ halted.svu.halted = true ∧ halted.svu.badCodes = []
    ∧ halted.svu.haltStatus = some { home.status with halted := true }
    ∧ ({ halted with svu.badCodes := [.startCause] } : State).svu.badCodes = [.startCause] ∧ home.svu.halted = false := by
  unfold State.portOpen; decide +kernel
theorem witness_NoticesReadAndCleared : home.ready M ∧ Choice.unnamed ∈ [(Choice.unnamed : Choice Notice)] := by
  unfold State.ready State.portOpen; decide +kernel
theorem witness_IdentifyAnswers : home.ready C := by unfold State.ready State.portOpen; decide +kernel
theorem witness_RequestsTurnedAway :
    asRequest (.reserveLevel M 0) = some (M, .reserveLevel 0) ∧ halted.portOpen M ∧ halted.svu.halted = true
      ∧ takenHalted (.reserveLevel 0) = false
      ∧ asRequest (.declareLevel M 0 (.named .ban) true) = some (M, .declareLevel 0 (.named .ban) true) ∧ home.ready M
      ∧ controllerOnly (.declareLevel 0 (.named .ban) true) = true := by
  unfold State.ready State.portOpen; decide +kernel
/-- The maintenance port READY-HELD, with a frame held. -/
def readyHeld (f : Frame) : State := answered.setPort M { answered.port M with request := some f }
theorem witness_PortBuffersWork : home.portOpen C ∧ home.portOpen M ∧ answered.inReset = false ∧ (answered.port M).response.isSome = true
    ∧ (answered.port M).request = none ∧ ((readyHeld (.malformed 0x10)).port M).request = some (.malformed 0x10)
    ∧ ((readyHeld (.malformed 0x10)).port M).response.isSome = true
    ∧ asRequest (.readTime M) = some (M, .readTime)
    ∧ ((readyHeld (.request .readTime)).port M).request = some (.request .readTime) := by
  unfold State.portOpen; decide +kernel
theorem witness_LoadZonesReplacesTheTable : shop.ready C ∧ shop.fmu.mode = .commissioning ∧ shop.ehu.huntCase.step = none
    ∧ (⟨31, some 0, .unnamed, 7, .named true⟩ : ZoneLoad).boundary = .unnamed
    ∧ [(⟨31, some 0, .switched 15, 7, .named true⟩ : ZoneLoad)].mapM zoneLoad? = some [(31, ⟨some 0, .switched 15, 7, true⟩)]
    ∧ home.ready C ∧ home.fmu.mode = .service ∧ (stepping .opening).ready C
    ∧ ({ stepping .opening with fmu := testFmu } : State).fmu.mode = .commissioning
    ∧ ({ stepping .opening with fmu := testFmu } : State).ehu.huntCase.step.isSome = true := by
  unfold State.ready State.portOpen; decide +kernel
/-- A reservation that names a hold to be widened. -/
theorem witness_LoadZonesLosesReservations :
    let s := (withHold shop ownedHold).setPort M { shop.port M with reservation := some (.hold ⟨3, 5⟩ 4) }
    s.ready C ∧ s.fmu.mode = .commissioning ∧ (s.port M).reservation = some (.hold ⟨3, (s.slot 3).useCount⟩ 4)
      ∧ (s.holdAt 3).any (·.scope != wholeFeeder) = true := by
  unfold State.ready State.portOpen; decide +kernel
theorem witness_ConfigureSwitchWritesTheEntry : shop.ready M ∧ shop.fmu.mode = .commissioning ∧ (shop.runtime 15).slot = none
    ∧ (shop.runtime 15).inFlight = none ∧ shop.configured 15 = false ∧ shop.configured 2 = true
    ∧ ((0 : SwitchNo) = 0 ↔ SwitchClass.headBreaker = .headBreaker) ∧ ((15 : SwitchNo) = 0 ↔ SwitchClass.recloser = .headBreaker)
    ∧ ((15 : SwitchNo) = 0 ↔ (Choice.named SwitchClass.recloser) = .named .headBreaker)
    ∧ (∀ m, some (⟨100, false⟩ : Amount) = some m → m.finer = false ∧ 5 ≤ m.units ∧ m.units ≤ 100)
    ∧ home.ready M ∧ home.fmu.mode = .service
    ∧ (let s := flying .toOpen {} .awaitAnswer shop
      s.ready M ∧ s.fmu.mode = .commissioning ∧ (s.runtime 1).inFlight.isSome = true) := by
  refine ⟨?_, ?_, ?_, ?_, ?_, ?_, ?_, ?_, ?_, ?_, ?_, ?_, ?_⟩
  case refine_10 => rintro _ ⟨⟩; decide
  all_goals first | decide +kernel | (unfold State.ready State.portOpen; decide +kernel)
theorem witness_EnterServiceCompletes : shop.ready C ∧ shop.fmu.mode = .commissioning ∧ shop.fmu.failedCheck = none
    ∧ State.reset.ready C ∧ State.reset.fmu.mode = .commissioning ∧ State.reset.fmu.failedCheck = some (1, .zone 0)
    ∧ home.fmu.mode = .service ∧ shop.requiredProfile 1 = some 0 := by
  unfold State.ready State.portOpen; decide +kernel
/-- R75: a hold kept, one replaced, one placed, one retired. -/
theorem witness_EnterServiceDerivesFireHolds : burningShop.fireHandlesLive ∧ burningShop.emptySlots 8
    ∧ (burningShop.district 1).effective = .ban ∧ (burningShop.liveHold ⟨0, 0⟩).map (·.scope) = some (burningShop.districtZones 1)
    ∧ burningElsewhere.districtZones 1 ≠ 0 ∧ (burningElsewhere.liveHold ⟨0, 0⟩).map (·.scope) ≠ some (burningElsewhere.districtZones 1)
    ∧ burningElsewhere.emptySlots 8 ∧ (burningShop.setDistrict 0 { District.cold with effective := .ban }).districtZones 0 ≠ 0
    ∧ ((burningShop.setDistrict 0 { District.cold with effective := .ban }).district 0).fire = none
    ∧ ({ burningShop with fmu.zones := Vector.replicate 32 .cold } : State).districtZones 1 = 0 := by
  refine ⟨State.fireHandlesLive_of (by decide +kernel), ?_⟩
  unfold State.emptySlots; decide +kernel
/-- The step of switch 1 in OPENING, its OPEN still in the slot, and a reclose of switch 2 owed. -/
def leaving : State :=
  let s := (stepping .opening).setRuntime 1 { testRuntime with slot := some ⟨.toOpen, { hunt := true }⟩ }
  { s.putSeq 2 { s.seq 2 with state := .deadTime 1 } with lines.lkey := true }
theorem witness_EnterCommissioningCompletes : leaving.ready C ∧ leaving.fmu.mode = .service ∧ leaving.lines.lkey = true
    ∧ leaving.settled ∧ leaving.ehu.huntCase.step = some ⟨1, .opening, none⟩
    ∧ (leaving.runtime 1).slot = some ⟨.toOpen, { hunt := true }⟩ ∧ leaving.ehu.huntCase.leftOpen = []
    ∧ (leaving.seq 2).state.owes = true ∧ (leaving.runtime 2).slot = none ∧ (leaving.seq 0).state.owes = false
    ∧ home.ready C ∧ home.lines.lkey = false ∧ shop.ready C ∧ shop.fmu.mode = .commissioning
    ∧ (hunting .locating).settled ∧ (hunting .locating).ehu.huntCase.state = .locating := by
  unfold State.ready State.portOpen State.settled; decide +kernel
theorem witness_PlaceHoldPlaces : home.ready M ∧ home.holdAt 0 = none ∧ home.htu.counts.controller + home.htu.counts.maintenance < 48
    ∧ (withHold home plainHold).holdAt 0 = none ∧ home.svu.minute < 1
    ∧ (home.placement? M ⟨.named .noClose, .named .owned, [31], some 65535, some 1, 0⟩).isSome = true
    ∧ 48 ≤ ({ home with htu.counts.controller := 48 } : State).htu.counts.controller := by
  unfold State.ready State.portOpen; decide +kernel
theorem witness_AmendHoldApplies :
    let s := withHold home ownedHold
    let b : AmendBody := ⟨theHandle, false, some 7, .give 1, none, none, some (.named .noReclose)⟩
    let c : AmendChanges := ⟨.give 1, none, none, some .noReclose⟩
    s.ready C ∧ s.holdAt 3 = some ownedHold ∧ amendChanges? b = some c
      ∧ ownedHold.authority b.tag s.lines.lkey = .ok () ∧ (c.against ownedHold).isEmpty = false
      ∧ ownedHold.tag.isSome = true ∧ ownedHold.expiry ≠ some 1 ∧ ownedHold.strength ≠ .pinned ∧ s.svu.minute < 1 := by
  refine ⟨?_, by decide +kernel, by decide +kernel, rfl, by decide +kernel, by decide +kernel, by decide +kernel,
    by decide +kernel, by decide +kernel⟩
  unfold State.ready State.portOpen; decide +kernel
/-- Every carried value as the hold has it; an expiry minute that is not later than the minute count. -/
theorem witness_AmendHoldUnchangedOrRefused :
    let s := withHold home ownedHold
    let same : AmendBody := ⟨theHandle, false, none, .remove, some (.named .owned), some [1], some (.named .noClose)⟩
    let late : AmendBody := ⟨theHandle, false, none, .give 0, none, none, none⟩
    s.ready C ∧ s.holdAt 3 = some ownedHold ∧ ownedHold.origin ≠ .fire ∧ ownedHold.origin ≠ .system
      ∧ amendChanges? same = some ⟨.remove, some .owned, some ownedHold.scope, some .noClose⟩ ∧ ownedHold.expiry = none
      ∧ ownedHold.strength = .owned ∧ ownedHold.kind = .noClose
      ∧ amendChanges? late = some ⟨.give 0, none, none, none⟩ ∧ ¬ s.svu.minute < 0 := by
  unfold State.ready State.portOpen; decide +kernel
theorem witness_HoldChangesNeedAuthority : (withHold home ownedHold).ready C
    ∧ (withHold home ownedHold).holdAt 3 = some ownedHold ∧ (some 8 : Option OwnerTag) ≠ ownedHold.tag
    ∧ (withHold home fireHold).holdAt 3 = some fireHold ∧ fireHold.origin = .fire
    ∧ (withHold home systemHold).holdAt 3 = some systemHold ∧ systemHold.origin = .system ∧ home.lines.lkey = false
    ∧ (withHold home { plainHold with strength := .pinned }).holdAt 3 = some { plainHold with strength := .pinned } := by
  unfold State.ready State.portOpen; decide +kernel
/-- Handles at the edges of their range, and a stale one. -/
theorem witness_HandlesOutsideAndStale : (withHold home ownedHold).ready C
    ∧ 64 ≤ (⟨64, 0⟩ : HandleField).slot ∧ 1024 ≤ (⟨63, 1024⟩ : HandleField).useCount
    ∧ (⟨63, 1023⟩ : HandleField) = ⟨(63 : SlotNo).val, (1023 : UseCount).toNat⟩ ∧ (withHold home ownedHold).holdAt 63 = none
    ∧ ((withHold home ownedHold).slot 3).useCount ≠ 6
    ∧ amendChanges? ⟨⟨63, 1023⟩, false, none, .keep, none, some [31], none⟩ = some ⟨.keep, none, some 0x80000000, none⟩ := by
  unfold State.ready State.portOpen; decide +kernel
theorem witness_ReleaseHoldReleases : (withHold home ownedHold).ready C
    ∧ (withHold home ownedHold).holdAt 3 = some ownedHold ∧ (some 7 : Option OwnerTag) = ownedHold.tag
    ∧ ((withHold home ownedHold).slot 3).useCount.toNat = theHandle.useCount := by
  unfold State.ready State.portOpen; decide +kernel
/-- A HUNT hold named by the case; a watch whose start was deferred for six HUNT holds, and one whose start then passes or fails. -/
theorem witness_DepartureOfAHuntHold :
    let s : State := { withHold home { plainHold with origin := .hunt } with
      ehu.huntCase.holdHandle := some ⟨3, 5⟩
      ehu.watch := { Watch.start with state := .watching, episode := true, confirmed := true, lastRefusal := some .full } }
    s.ready C ∧ s.holdAt 3 = some { plainHold with origin := .hunt } ∧ s.ehu.params.autoStart = true
      ∧ s.fmu.mode = .service ∧ s.ehu.huntCase.state = .idle ∧ (s.config 0).any (·.sensing) = true
      ∧ (s.runtime 0).position = .closed ∧ (s.runtime 0).condition = .sound ∧ s.htu.counts.hunt - 1 < 6
      ∧ (s.setRuntime 0 { s.runtime 0 with position := .opened }).ready C := by
  unfold State.ready State.portOpen; decide +kernel
theorem witness_OpenAndDiscardGroupEdit : home.ready C ∧ home.fsu.staging = none ∧ staged.ready M
    ∧ staged.fsu.staging = some ⟨.severe, .controller, Groups.cold.severe⟩ := by
  unfold State.ready State.portOpen; decide +kernel
theorem witness_EditGroupEditsStaging : staged.ready C ∧ staged.ready M
    ∧ staged.fsu.staging = some ⟨.severe, .controller, Groups.cold.severe⟩ ∧ C ≠ M ∧ 5 ≤ (⟨5, false⟩ : Amount).units
    ∧ 500 < (⟨501, false⟩ : Amount).units := by
  unfold State.ready State.portOpen; decide +kernel
theorem witness_CommitGroupWritesTheGroup : staged.ready C
    ∧ (staged.fsu.groups.put Groups.cold.severe .severe).monotone
    ∧ ¬ (staged.fsu.groups.put { Groups.cold.severe with shots := 3 } .severe).monotone
    ∧ (home.district 0).effective = .normal ∧ (∀ d, (home.district d).effective ≠ .severe)
    ∧ (home.fsu.groups.put { Groups.cold.normal with shots := 2, profile := 15 } .normal).monotone
    ∧ home.districtOf 1 = some 1 ∧ (recloseDue.seq 1).state = .deadTime 1
    ∧ ((sequenced (.deadTime 3) home).seq 1).state = .deadTime 3 ∧ 2 < 3 := by
  unfold State.ready State.portOpen Groups.monotone; decide +kernel
theorem witness_DeclareLevelDeclares : (season home).ready C ∧ (season home).levelsAgree
    ∧ Level.severe ≠ ((season home).district 7).declared ∧ Level.normal = ((season home).district 7).declared
    ∧ (home.fillRegister C (.district 7 0)).ready C
    ∧ ((home.fillRegister C (.district 7 0)).port C).reservation = some (.district 7 ((home.district 7).version))
    ∧ (home.port C).reservation ≠ some (.district 7 (home.district 7).version)
    ∧ (season home).settled ∧ (season home).emptySlots 8 ∧ (season home).districtOf 1 = some 1
    ∧ ((sequenced (.deadTime 2) (season home)).seq 1).state = .deadTime 2 ∧ Groups.cold.severe.shots < 2 := by
  unfold State.ready State.portOpen State.levelsAgree State.settled State.emptySlots; decide +kernel
theorem witness_SetSeasonSets : home.ready C ∧ home.levelsAgree ∧ home.fsu.season ≠ .inSeason ∧ home.fsu.season = .outOfSeason
    ∧ home.settled ∧ home.emptySlots 8 := by
  unfold State.ready State.portOpen State.levelsAgree State.settled State.emptySlots; decide +kernel
theorem witness_FireBanLineMovesTheLevels : home.working ∧ home.levelsAgree ∧ home.lines.tfb ≠ true
    ∧ ((home.setDistrict 1 { District.cold with effective := .ban }).district 1).effective = .ban
    ∧ home.districtZones 1 ≠ 0 ∧ home.holdAt 0 = none ∧ home.settled ∧ home.emptySlots 8
    ∧ ({ home with lines.reset := true } : State).live = false := by
  unfold State.working State.levelsAgree State.settled State.emptySlots; decide +kernel
/-- Switch 1 with a request standing in its slot. -/
def waiting (a : SwitchAction) : State := homeWith 1 fun r => { r with slot := some ⟨a, {}⟩ }
theorem witness_OperateSwitchFillsTheSlot : home.ready M ∧ home.configured 1 = true ∧ home.underTest 1 = false
    ∧ (home.runtime 1).position = .closed ∧ (home.runtime 1).slot = none ∧ (home.seq 1).state.owes = false
    ∧ home.closePermitted 1 .deliberate = true ∧ (homeWith 1 fun r => { r with position := .opened }).ready C
    ∧ (recloseDue.seq 1).state.owes = true ∧ recloseDue.ready C
    ∧ (waiting .toOpen).ready C ∧ ((waiting .toOpen).runtime 1).slot = some ⟨.toOpen, {}⟩
    ∧ (waiting .toClose).ready C ∧ ((waiting .toClose).runtime 1).slot = some ⟨.toClose, {}⟩
    ∧ (withHold home ownedHold).closePermitted 1 .deliberate = false
    ∧ ((homeWith 1 fun r => { r with condition := .failed }).runtime 1).condition = .failed
    ∧ (stepping .opening).ready C ∧ (stepping .opening).underTest 1 = true ∧ home.configured 15 = false := by
  unfold State.ready State.portOpen; decide +kernel
/-- An OPEN that merges while the sequence owes a reclose, and one that finds the switch OPEN and a CLOSE waiting. -/
theorem witness_OpensOfOwingSequences :
    let merging := (waiting .toOpen).putSeq 1 (recloseDue.seq 1)
    let met := (waiting .toClose).setRuntime 1 { (waiting .toClose).runtime 1 with position := .opened }
    merging.ready C ∧ merging.underTest 1 = false ∧ (merging.runtime 1).slot = some ⟨.toOpen, {}⟩
      ∧ (merging.seq 1).state.owes = true ∧ met.ready C ∧ met.underTest 1 = false ∧ met.configured 1 = true
      ∧ (met.runtime 1).slot = some ⟨.toClose, {}⟩ ∧ (met.runtime 1).inFlight = none ∧ (met.runtime 1).position = .opened
      ∧ ((met.putSeq 1 (sequenced (.reclosing 1) home |>.seq 1)).seq 1).state = .reclosing 1 := by
  unfold State.ready State.portOpen; decide +kernel
theorem witness_FailureClearedAndProfileRetried : home.ready C ∧ home.configured 1 = true ∧ home.configured 15 = false
    ∧ ((homeWith 1 fun r => { r with condition := .failed }).runtime 1).condition = .failed
    ∧ (homeWith 1 fun r => { r with condition := .failed }).ready C ∧ home.requiredProfile 1 = some 0
    ∧ (home.runtime 1).profileState = .confirmed ∧ (home.runtime 1).confirmed = some 0
    ∧ ({ home with fmu.zones := Vector.replicate 32 .cold } : State).requiredProfile 1 = none := by
  unfold State.ready State.portOpen; decide +kernel
theorem witness_SetLinkSettingsWrites : home.ready C
    ∧ (∀ a, (some ⟨2, false⟩ : Option Amount) = some a → a.finer = false ∧ 2 ≤ a.units ∧ a.units ≤ 50)
    ∧ ({ LinkSettings.default with answerTime := 2 } : LinkSettings) ≠ home.sou.link := by
  refine ⟨by unfold State.ready State.portOpen; decide +kernel, ?_, by decide +kernel⟩
  rintro _ ⟨⟩
  decide
theorem witness_AnswerFrameTaken : home.ownerOf 11 = some 1 ∧ home.awaitedFrom 1 = none
    ∧ (awaiting .operate (flying .toOpen {} .awaitAnswer home)).awaitedFrom 1 = some .operate
    ∧ ((awaiting .operate (flying .toOpen {} .awaitAnswer home)).runtime 1).inFlight = some ⟨⟨.toOpen, {}⟩, .awaitAnswer⟩
    ∧ (awaiting (.setProfile 0) home).awaitedFrom 1 = some (.setProfile 0) ∧ (awaiting (.setProfile 0) home).working
    ∧ home.requiredProfile 1 = some 0 ∧ (awaiting (.setProfile 3) home).awaitedFrom 1 = some (.setProfile 3) := by
  unfold State.working; decide +kernel
/-- The states that the ends of operations are stated over: a reclose with its sequence in RECLOSING(n), noted or not, an OPEN with a
cancelled sequence, a deliberate CLOSE with the sequence OPEN, and the hunt's two operations, each in both phases. -/
theorem witness_OperationsEnd : ([.awaitAnswer, .awaitMove] : List Phase).all (fun phase =>
    let reclose := sequenced (.reclosing 1) (flying .toClose { reclose := true } phase home)
    let noted := reclose.putSeq 1 { reclose.seq 1 with note := some .phase }
    let opening := flying .toOpen { controller := true } phase (sequenced (.deadTime 1) home)
    let closing := flying .toClose { controller := true } phase (sequenced .opened home)
    let step := flying .toOpen { hunt := true } phase (stepping .opening)
    let back := flying .toClose { hunt := true } phase
      { stepping .closingBack with ehu.huntCase.step := some ⟨1, .closingBack, some .downstream⟩ }
    [reclose, noted, opening, closing, step, back].all (fun s =>
      (s.runtime 1).inFlight.any (·.phase == phase) && (s.runtime 1).slot.isNone && s.ownerOf 11 == some 1
        && (s.effectiveGroup 1).isSome && !s.inReset && !s.svu.halted && s.svu.badCodes == [])
    && (reclose.seq 1).state == .reclosing 1 && !(reclose.seq 1).cancel
    && (noted.setRuntime 1 { noted.runtime 1 with
          position := .opened, inFlight := none, mechanism := .stopped, condition := .failed }).recloseCheck 1 1 .phase
        == some .condition
    && step.ehu.huntCase.state == .stepping && step.ehu.huntCase.leftOpen == []
    && step.ehu.runningCount == step.runningSequences) = true := by decide +kernel
theorem witness_StateFrameTaken : (flying .toOpen {} .awaitMove home).working ∧ (flying .toOpen {} .awaitMove home).ownerOf 11 = some 1
    ∧ home.config 1 = some ⟨.recloser, 11, 1, true, 1, 0, 30⟩
    ∧ ((flying .toOpen {} .awaitMove home).runtime 1).inFlight = some ⟨⟨.toOpen, {}⟩, .awaitMove⟩
    ∧ ((flying .toClose {} .awaitAnswer home).runtime 1).inFlight = some ⟨⟨.toClose, {}⟩, .awaitAnswer⟩
    ∧ home.ownerOf 12 = some 2 := by
  unfold State.working; decide +kernel
theorem witness_StateFrameRetriesAPush :
    let s := (awaiting (.poll .head) home).setRuntime 1 { testRuntime with profileState := .noAnswer }
    s.working ∧ s.ownerOf 11 = some 1 ∧ s.awaitedFrom 1 = some (.poll .head) ∧ (s.requiredProfile 1).isSome = true
      ∧ (s.runtime 1).profileState = .noAnswer := by
  unfold State.working; decide +kernel
theorem witness_StateReportMovesTheSequence :
    ([.uncertain, .closed, .opened, .lockout, .deadTime 1, .deadTime 3, .reclaim 3, .reclosing 1, .outOfService] : List SeqState).all
      (fun st => let s := sequenced st home
        !s.inReset && !s.svu.halted && s.svu.badCodes == [] && s.ownerOf 11 == some 1 && (s.runtime 1).inFlight.isNone && (s.seq 1).state == st
          && (s.effectiveGroup 1).isSome) = true := by decide +kernel
theorem witness_ResidualReportsMoveTheWatchAndTheCandidates :
    watching.working ∧ watching.ownerOf 10 = some 0 ∧ watching.config 0 = some ⟨.headBreaker, 10, 0, true, 1, 0, 30⟩
      ∧ (watching.runtime 0).inFlight = none ∧ watching.fmu.mode = .service ∧ watching.ehu.watch.confirmed = false
      ∧ home.ehu.watch.state = .idle ∧ shop.fmu.mode = .commissioning
      ∧ (∀ raw ∈ [80, 65, 64, 0], (if home.ehu.thresholds.pickup ≤ raw then ReportClass.above
          else if 100 * raw ≤ home.ehu.thresholds.pickup * home.ehu.thresholds.dropoff then .below else .band)
            = if raw = 80 then .above else if raw = 65 then .band else .below)
      ∧ (hunting .locating).working ∧ (hunting .locating).ehu.huntCase.listen ≠ .stopped
      ∧ (hunting .locating).ownerOf 11 = some 1 ∧ (hunting .locating).ehu.watch.episode = true
      ∧ (observing none).ehu.huntCase.step = some ⟨1, .observing, none⟩
      ∧ (hunting .suspended).ehu.huntCase.state = .suspended ∧ (hunting .suspended).ehu.huntCase.suspension = none := by
  unfold State.working; decide +kernel
theorem witness_TripFrameTaken : home.working ∧ home.ownerOf 11 = some 1 ∧ (home.seq 1).state = .closed
    ∧ (home.runtime 1).inFlight = none ∧ ((sequenced (.reclaim 2) home).seq 1).state = .reclaim 2
    ∧ ((sequenced .uncertain home).seq 1).state = .uncertain
    ∧ ((sequenced (.reclosing 1) home).seq 1).cancel = false
    ∧ ((sequenced (.reclosing 1) (flying .toClose { reclose := true } .awaitAnswer home)).runtime 1).inFlight
        = some ⟨⟨.toClose, { reclose := true }⟩, .awaitAnswer⟩
    ∧ ((sequenced (.reclosing 1) (flying .toClose { reclose := true } .awaitMove home)).runtime 1).inFlight
        = some ⟨⟨.toClose, { reclose := true }⟩, .awaitMove⟩
    ∧ ((sequenced (.deadTime 1) (flying .toOpen {} .awaitMove home)).runtime 1).inFlight = some ⟨⟨.toOpen, {}⟩, .awaitMove⟩
    ∧ (flying .toOpen { hunt := true } .awaitMove (stepping .opening)).ehu.huntCase.step = some ⟨1, .opening, none⟩
    ∧ ((sequenced .lockout home).seq 1).state = .lockout ∧ (hunting .locating).working
    ∧ (hunting .locating).ehu.huntCase.state = .locating ∧ (stepping .settling).working
    ∧ (stepping .settling).ehu.huntCase.step = some ⟨1, .settling, none⟩ ∧ home.ehu.huntCase.state = .idle := by
  unfold State.working; decide +kernel
/-- A CLOSED and a RECLAIM(n) sequence whose switch has an operation in AWAIT ANSWER. -/
theorem witness_TripInAwaitAnswer :
    let s := flying .toOpen { controller := true } .awaitAnswer home
    s.working ∧ s.ownerOf 11 = some 1 ∧ (s.seq 1).state = .closed ∧ ((sequenced (.reclaim 2) s).seq 1).state = .reclaim 2
      ∧ (sequenced (.reclaim 2) s).working
      ∧ (s.runtime 1).inFlight = some ⟨⟨.toOpen, { controller := true }⟩, .awaitAnswer⟩ := by
  unfold State.working; decide +kernel
theorem witness_CommandsWithNothingToActOn : halted.svu.halted = true ∧ isBlockEvent .routineTimerExpiry = true
    ∧ ({ home with lines.reset := true } : State).inReset = true ∧ isLineEvent (.readTime C) = false
    ∧ home.sou.answerTimer = .stopped ∧ home.svu.badCodes = [] ∧ home.ownerOf 254 = none ∧ parseInbound [1] = none := by
  decide +kernel
theorem witness_UnansweredMessagesAndMoves :
    let s := awaiting .operate (flying .toOpen {} .awaitAnswer home)
    s.working ∧ s.sou.answerTimer ≠ .stopped ∧ s.sou.awaited = some ⟨1, .operate, false⟩
      ∧ (s.runtime 1).inFlight = some ⟨⟨.toOpen, {}⟩, .awaitAnswer⟩ ∧ (s.runtime 1).slot = none
      ∧ ({ s with sou.awaited := some ⟨1, .operate, true⟩ } : State).working
      ∧ ((flying .toOpen {} .awaitMove home).runtime 1).mechanism ≠ .stopped
      ∧ ((flying .toOpen {} .awaitMove home).runtime 1).inFlight = some ⟨⟨.toOpen, {}⟩, .awaitMove⟩ := by
  unfold State.working; decide +kernel
theorem witness_PollTimersExpire :
    ({ home with sou.routineTimer := .start 3000, sou.headTimer := .start 50 } : State).working
      ∧ Timer.start 3000 ≠ .stopped ∧ (home.runtime 0).pollWanted = none := by
  unfold State.working; decide +kernel
theorem witness_ArbiterPicksByR94 : (awaiting .operate home).sou.awaited.isSome = true ∧ home.claims = []
    ∧ (waiting .toOpen).pickClaim = some (.operation 1 ⟨.toOpen, {}⟩)
    ∧ (homeWith 2 fun r => { r with pushWanted := true }).pickClaim = some (.push 2)
    ∧ (waiting .toOpen).live = true ∧ (waiting .toOpen).sou.awaited = none
    ∧ ((waiting .toOpen).serveClaim (.operation 1 ⟨.toOpen, {}⟩)).sou.awaited.isSome = true
    ∧ ({ home with lines.reset := true } : State).live = false := by decide +kernel
theorem witness_NoCloseLeavesAgainstTheGate :
    let s := (waiting .toClose).setRuntime 1 { (waiting .toClose).runtime 1 with position := .opened }
    s.sou.awaited = none ∧ s.arbitrate.sou.awaited = some ⟨1, .operate, false⟩ := by decide +kernel
theorem witness_InboundFramesReadBack : ∀ reason, Inbound.answer true 0 = .answer true reason → reason = 0 := by
  rintro _ ⟨⟩; rfl
theorem witness_DeadTimeAndReclaimExpire : (recloseDue.seq 1).deadTimer ≠ .stopped ∧ (recloseDue.seq 1).state = .deadTime 1
    ∧ (recloseDue.seq 1).tripClass = some .phase ∧ recloseDue.recloseCheck 1 0 .phase = none
    ∧ recloseDue.recloseCheck 1 3 .phase = some .shots ∧ (recloseDue.config 1).isSome = true
    ∧ recloseDue.effectiveGroup 1 = some Groups.cold.normal ∧ (sequenced (.reclaim 1) home).working
    ∧ ((sequenced (.reclaim 1) home).seq 1).reclaimTimer ≠ .stopped := by
  unfold State.working; decide +kernel
theorem witness_SetHuntParametersWrites : home.ready C
    ∧ ({ HuntParams.default with confirm := 10 } : HuntParams) ≠ home.ehu.params
    ∧ (∀ a, some (⟨10, false⟩ : Amount) = some a → a.finer = false ∧ 10 ≤ a.units ∧ a.units ≤ 600) := by
  refine ⟨by unfold State.ready State.portOpen; decide +kernel, by decide +kernel, ?_⟩
  rintro _ ⟨⟩
  decide
theorem witness_StartHuntOpensACase : home.ready C ∧ home.fmu.mode = .service ∧ home.ehu.huntCase.state = .idle
    ∧ (home.config 0).any (·.sensing) = true ∧ (home.runtime 0).position = .closed ∧ (home.runtime 0).condition = .sound
    ∧ home.htu.counts.hunt < 6 ∧ shop.fmu.mode = .commissioning ∧ (hunting .suspended).ehu.huntCase.state = .suspended
    ∧ (hunting .locating).ehu.huntCase.state ≠ .idle
    ∧ ((homeWith 0 fun r => { r with condition := .silent }).runtime 0).condition ≠ .sound
    ∧ 6 ≤ ({ home with htu.counts.hunt := 6 } : State).htu.counts.hunt := by
  unfold State.ready State.portOpen; decide +kernel
theorem witness_HuntCaseRequests : (hunting .locating).ready C ∧ (hunting .concluded).ready C ∧ (stepping .opening).ready C
    ∧ (stepping .opening).ehu.huntCase.state = .stepping
    ∧ (stepping .opening).ehu.huntCase.step = some ⟨1, .opening, none⟩ ∧ (stepping .opening).ehu.pendingAbandon = none
    ∧ (hunting .suspended).ready C ∧ (hunting .suspended).ehu.runningCount = 0 := by
  unfold State.ready State.portOpen; decide +kernel
theorem witness_ConfirmTimerExpires : watching.ehu.watch.confirmTimer ≠ .stopped ∧ watching.ehu.params.autoStart = true
    ∧ watching.fmu.mode = .service ∧ watching.ehu.huntCase.state = .idle ∧ (watching.config 0).any (·.sensing) = true
    ∧ (watching.runtime 0).position = .closed ∧ (watching.runtime 0).condition = .sound ∧ watching.htu.counts.hunt < 6 := by
  decide +kernel
theorem witness_ListenWindowExpires : (hunting .locating).ehu.huntCase.listen ≠ .stopped ∧ (hunting .locating).holdAt 0 = none
    ∧ (hunting .locating).ehu.huntCase.clearedInWindow = false ∧ (hunting .locating).ehu.watch.episode = true
    ∧ (hunting .locating).ehu.huntCase.stepsTaken < 32 ∧ (hunting .locating).testable 1 = true
    ∧ (∀ k, (hunting .locating).ehu.huntCase.candidates ≠ [k])
    ∧ ({ (hunting .locating) with ehu.huntCase.candidates := [2] } : State).ehu.huntCase.candidates = [2] := by
  decide +kernel
/-- FOUND with the segment isolated, its slot empty, holding an OPEN, holding a CLOSE, or its switch OPEN already; and not isolated. -/
theorem witness_FoundIsolates :
    let group := { Groups.cold.normal with isolate := true }
    let found : State := { hunting .locating with
      ehu.huntCase.candidates := [1], ehu.huntCase.essential := true, fsu.groups := ⟨group, group, group, group⟩ }
    found.working ∧ found.ehu.huntCase.listen ≠ .stopped ∧ found.holdAt 0 = none ∧ found.ehu.huntCase.clearedInWindow = false
      ∧ found.ehu.watch.episode = true ∧ (found.effectiveGroup 1).any (·.isolate) = true
      ∧ (found.runtime 1).slot = none ∧ (found.runtime 1).position = .closed
      ∧ (home.effectiveGroup 1).any (fun g => !g.isolate) = true
      ∧ leaves .listenWindowExpiry found (fun t =>
          t.ehu.huntCase.leftOpen == [⟨1, .foundIsolate⟩] && t.sou.sent == some ⟨11, .operate .toOpen⟩) = true
      ∧ ([.toOpen, .toClose] : List SwitchAction).all (fun a =>
          (found.setRuntime 1 { found.runtime 1 with slot := some ⟨a, {}⟩ }).svu.badCodes == []) = true := by
  unfold State.working; decide +kernel
theorem witness_StepTimersExpire : (stepping .settling).ehu.settleTimer ≠ .stopped
    ∧ (stepping .settling).ehu.huntCase.step = some ⟨1, .settling, none⟩
    ∧ (observing none).ehu.observeTimer ≠ .stopped ∧ (observing none).ehu.huntCase.step = some ⟨1, .observing, none⟩
    ∧ (observing none).fmu.reachTable.isSome = true ∧ (observing none).configured 1 = true
    ∧ ((observing none).runtime 1).condition ≠ .failed ∧ ((observing none).runtime 1).slot = none
    ∧ ((observing none).runtime 1).position = .opened := by decide +kernel
theorem witness_ScanPassFindsFaults : home.working ∧ home.holdAt 0 = none ∧ home.integrityExists = false
    ∧ home.ehu.huntCase.state = .idle ∧ home.placeIntegrity.integrityExists = true ∧ home.placeIntegrity.working := by
  unfold State.working; decide +kernel
theorem witness_FirstFaultRestoresTheRecord : burning.working ∧ burning.integrityExists = false ∧ burning.settled
    ∧ burning.emptySlots 9 ∧ (burning.district 1).fire = some (burning.handleAt 0)
    ∧ (burning.holdAt 0).map (·.origin) = some .fire ∧ burning.districtZones 1 ≠ 0
    ∧ (∀ e, e ≠ (1 : DistrictNo) → (burning.district e).fire ≠ some (burning.handleAt 0))
    ∧ (hunting .locating).integrityExists = false ∧ (hunting .locating).settled ∧ (hunting .locating).emptySlots 9
    ∧ (stepping .opening).integrityExists = false ∧ (stepping .opening).settled ∧ (stepping .opening).emptySlots 9
    ∧ home.placeIntegrity.integrityExists = true ∧ home.placeIntegrity.working := by
  unfold State.working State.settled State.emptySlots; decide +kernel
theorem witness_FirstFaultOfTheSeason : leaves (.scanPass [.seasonDistrict]) home (fun t =>
    (t.district 1).effective == .ban && (t.holdAt 0).any (·.origin == .fire) && t.integrityExists) = true := by decide +kernel
theorem witness_TimeBaseCounts : home.inReset = false ∧ home.svu.badCodes = [] ∧ home.svu.source = .oscillator
    ∧ ({ home with svu.source := .tref } : State).svu.source = .tref
    ∧ (∀ g, some 1100 = some g → 900 ≤ g)
    ∧ (let s : State := { withHold home { plainHold with expiry := some 1 } with svu.second := 59, svu.timeState := .good }
      s.svu.second = 59 ∧ s.svu.timeState = .good ∧ s.svu.halted = false
        ∧ (s.holdAt 3).any (fun h => h.expiry.any fun m => m.toNat ≤ (s.svu.minute + 1).toNat) = true)
    ∧ (let s : State := { home with svu.source := .tref, svu.pulseRun := 2, svu.timeSet := true }
      s.svu.timeState ≠ .good ∧ s.svu.pulseRun = 2 ∧ s.svu.timeSet = true) := by
  refine ⟨by decide +kernel, by decide +kernel, by decide +kernel, by decide +kernel, ?_, by decide +kernel, by decide +kernel⟩
  rintro _ ⟨⟩
  decide
theorem witness_SetTimeSets : home.ready C ∧ (4294967295 : Nat) ≤ 4294967295 := by
  unfold State.ready State.portOpen; decide +kernel
theorem witness_LinesHoldThePart : home.inReset = false ∧ ({ home with lines.reset := true } : State).lines.reset = true
    ∧ ({ home with lines.supplyLow := true } : State).lines.supplyLow = true := by decide +kernel
theorem witness_WarmStartCompletes : home.svu.validity = true ∧ home.svu.badCodes = [] ∧ home.svu.startCause.haltMark = false
    ∧ ({ home with lines.reset := true } : State).lines.supplyLow = false
    ∧ ({ home with lines.supplyLow := true, lines.fell := true } : State).lines.reset = false
    ∧ burning.fireHandlesLive ∧ burning.emptySlots 8 ∧ (burning.district 1).fire = some ⟨0, 0⟩
    ∧ (stepping .opening).ehu.huntCase.leftOpen = [] := by
  refine ⟨by decide +kernel, by decide +kernel, by decide +kernel, by decide +kernel, by decide +kernel,
    State.fireHandlesLive_of (by decide +kernel), ?_⟩
  unfold State.emptySlots; decide +kernel
theorem witness_ColdPowerUpBlocksEveryClose : home.lines.reset = false ∧ home.lines.tfb = false := by decide +kernel

end Sys2Proof.Tests
end

section
/-! The reading requests of the hold table: READ HOLD, LIST HOLDS and CHECK CLOSE (R28, R29, R41). First what a taken request of class A
leaves, then the operands in and out of range, then each request's cases over any state, then the two statements. -/

namespace Sys2Proof.Machine

/-! ### A request of class A that is taken -/

theorem isConditional_of_isReading {r : Request} (h : isReading r = true) : isConditional r = false := by
  cases r <;> simp [isReading] at h <;> rfl

theorem controllerOnly_of_isReading {r : Request} (h : isReading r = true) : controllerOnly r = false := by
  cases r <;> simp [isReading] at h <;> rfl

/-- A ready port's request of class A whose owning block leaves the state as it stands moves nothing but the response (R173, R174). -/
theorem exec_reading {c : Instr} {p : Port} {r : Request} {s : State} {d : Completion} (hc : asRequest c = some (p, r))
    (hs : s.ready p) (hr : isReading r = true) (hd : (s.taking p).carryOut p r = (s.taking p, d)) :
    exec c s = .next (s.answer p (requestCode r) d.code d.data) := by
  rw [exec_ready hc hs fun _ => controllerOnly_of_isReading hr, hd,
    State.finishRequest_read p _ _ (isConditional_of_isReading hr) hr, State.answer_taking]

@[simp] theorem State.handleAt_taking (s : State) (p : Port) : (s.taking p).handleAt = s.handleAt := rfl
@[simp] theorem State.reach_taking (s : State) (p : Port) (k : SwitchNo) : (s.taking p).reach k = s.reach k := rfl

/-! ### Operands in and out of range -/

@[simp] theorem slotNo?_val (i : SlotNo) : slotNo? i.val = some i := by simp [slotNo?]
@[simp] theorem zoneNo?_val (z : ZoneNo) : zoneNo? z.val = some z := by simp [zoneNo?]
@[simp] theorem switchNo?_val (k : SwitchNo) : switchNo? k.val = some k := by simp [switchNo?]
theorem slotNo?_eq_none {n : Nat} (h : 64 ≤ n) : slotNo? n = none := by simpa [slotNo?] using h
theorem zoneNo?_eq_none {n : Nat} (h : 32 ≤ n) : zoneNo? n = none := by simpa [zoneNo?] using h
theorem switchNo?_eq_none {n : Nat} (h : 16 ≤ n) : switchNo? n = none := by simpa [switchNo?] using h

@[simp] theorem optZone?_val (z : Option ZoneNo) : optZone? (z.map (·.val)) = some z := by
  cases z <;> simp [optZone?]
@[simp] theorem optNamed?_named {α : Type} (o : Option α) : optNamed? (o.map .named) = some o := by
  cases o <;> rfl

/-- The operand of a handle names that handle (R21). -/
@[simp] theorem handle?_of_handle (i : SlotNo) (u : UseCount) : handle? ⟨i.val, u.toNat⟩ = some ⟨i, u⟩ := by
  have hu : u.toNat < 1024 := u.isLt
  simp [handle?, hu]

theorem handle?_eq_none {n m : Nat} (h : 64 ≤ n ∨ 1024 ≤ m) : handle? ⟨n, m⟩ = none := by
  unfold handle?
  by_cases hn : 64 ≤ n
  · simp [slotNo?_eq_none hn]
  · have hm : ¬ m < 1024 := by omega
    cases slotNo? n <;> simp [hm]

/-! ### READ HOLD (R21, R28) -/

theorem State.liveHold_current (s : State) (i : SlotNo) : s.liveHold ⟨i, (s.slot i).useCount⟩ = s.holdAt i := by
  simp [State.liveHold]

theorem State.liveHold_stale {s : State} {i : SlotNo} {u : UseCount} (h : s.holdAt i = none ∨ (s.slot i).useCount ≠ u) :
    s.liveHold ⟨i, u⟩ = none := by
  obtain empty | advanced := h
  · simp [State.liveHold, empty]
  · simp [State.liveHold, advanced]

theorem State.readHold_live {s : State} {i : SlotNo} {h : Hold} (hi : s.holdAt i = some h) :
    s.readHold ⟨i.val, (s.slot i).useCount.toNat⟩ = (s, .done (.hold ⟨i, (s.slot i).useCount⟩ h)) := by
  simp [State.readHold, State.findHold, State.liveHold_current, hi]

theorem State.readHold_stale {s : State} {i : SlotNo} {u : UseCount} (h : s.holdAt i = none ∨ (s.slot i).useCount ≠ u) :
    s.readHold ⟨i.val, u.toNat⟩ = (s, .refuse .refusedStale) := by
  simp [State.readHold, State.findHold, State.liveHold_stale h]

theorem State.readHold_outOfRange (s : State) {n m : Nat} (h : 64 ≤ n ∨ 1024 ≤ m) :
    s.readHold ⟨n, m⟩ = (s, .refuse .refusedRange) := by
  simp [State.readHold, State.findHold, handle?_eq_none h]

theorem exec_readHold {s : State} {p : Port} {f : HandleField} {d : Completion} (hs : s.ready p)
    (hd : (s.taking p).readHold f = (s.taking p, d)) : exec (.readHold p f) s = .next (s.answer p 0x21 d.code d.data) :=
  exec_reading (r := .readHold f) rfl hs rfl hd

/-! ### LIST HOLDS (R29) -/

/-- The slots from a start slot whose live hold passes the filters, ascending. -/
def State.listedFrom (s : State) (i : SlotNo) (zone : Option ZoneNo) (origin : Option Origin) : List SlotNo :=
  allSlots.filter fun j => decide (i.val ≤ j.val) && (s.holdAt j).any (·.listed zone origin)

@[simp] theorem State.listedFrom_taking (s : State) (p : Port) : (s.taking p).listedFrom = s.listedFrom := rfl

theorem State.slotsWhere_listed_filter (s : State) (i : SlotNo) (zone : Option ZoneNo) (origin : Option Origin) :
    (s.slotsWhere (·.listed zone origin)).filter (i.val ≤ ·.val) = s.listedFrom i zone origin :=
  List.filter_filter

/-- Past its first twelve members a list goes on from the twelfth: the continuation of R29, as the table takes it from the slots it
returns and as the statement reads it from all that pass. -/
theorem continuation_eq {α β : Type} (l : List α) (f : α → Option β) :
    (if (l.drop 12).isEmpty then none else (l.take 12).getLast?.bind f) = if 12 < l.length then l[11]?.bind f else none := by
  by_cases h : 12 < l.length
  · have more : (l.drop 12).isEmpty = false := by simpa using h
    have last : (l.take 12).getLast? = l[11]? := by
      simp [List.getLast?_take, List.getElem?_eq_getElem (show 11 < l.length by omega)]
    simp [h, more, last]
  · have done : l.drop 12 = [] := List.drop_eq_nil_of_le (by omega)
    simp [h, done]

theorem State.listHolds_inRange (s : State) (i : SlotNo) (zone : Option ZoneNo) (origin : Option Origin) :
    s.listHolds i.val (zone.map (·.val)) (origin.map .named)
      = (s, .done (.holds (((s.listedFrom i zone origin).take 12).map s.handleAt)
          (if 12 < (s.listedFrom i zone origin).length then
            (s.listedFrom i zone origin)[11]?.bind fun j => slotNo? (j.val + 1) else none))) := by
  simp only [State.listHolds, slotNo?_val, optZone?_val, optNamed?_named, State.slotsWhere_listed_filter, Config.listedHandles,
    continuation_eq]

theorem State.listHolds_outOfRange (s : State) {n : Nat} {zone : Option Nat} {origin : Option (Choice Origin)}
    (h : 64 ≤ n ∨ (∃ z, zone = some z ∧ 32 ≤ z) ∨ origin = some .unnamed) :
    s.listHolds n zone origin = (s, .refuse .refusedRange) := by
  unfold State.listHolds
  obtain start | ⟨z, rfl, filter⟩ | rfl := h
  · simp [slotNo?_eq_none start]
  · cases slotNo? n <;> simp [optZone?, zoneNo?_eq_none filter]
  · cases slotNo? n <;> cases optZone? zone <;> simp [optNamed?, named?]

theorem exec_listHolds {s : State} {p : Port} {n : Nat} {zone : Option Nat} {origin : Option (Choice Origin)} {d : Completion}
    (hs : s.ready p) (hd : (s.taking p).listHolds n zone origin = (s.taking p, d)) :
    exec (.listHolds p n zone origin) s = .next (s.answer p 0x22 d.code d.data) :=
  exec_reading (r := .listHolds n zone origin) rfl hs rfl hd

/-! ### CHECK CLOSE (R39, R41) -/

/-- R39: a hold blocks when its scope meets the reach and it is NO_CLOSE, or NO_RECLOSE against an AUTOMATIC close. -/
theorem Hold.blocks_eq (h : Hold) (kind : CloseKind) (reach : ZoneSet) :
    h.blocks kind reach
      = (h.scope.meets reach && (h.kind == .noClose || (h.kind == .noReclose && kind == .automatic))) := by
  unfold Hold.blocks
  cases h.kind <;> rfl

@[simp] theorem State.blockers_taking (s : State) (p : Port) (k : SwitchNo) (kind : CloseKind) :
    (s.taking p).blockers k kind = s.blockers k kind := rfl

theorem State.blockers_eq (s : State) (k : SwitchNo) (kind : CloseKind) :
    s.blockers k kind = allSlots.filter fun i => (s.holdAt i).any fun h =>
      h.scope.meets (s.reach k) && (h.kind == .noClose || (h.kind == .noReclose && kind == .automatic)) := by
  simp only [State.blockers, State.slotsWhere, Hold.blocks_eq]

theorem State.checkClose_configured {s : State} {k : SwitchNo} (h : s.configured k = true) (kind : CloseKind) :
    s.checkClose k.val (.named kind)
      = (s, .done (.permission (s.blockers k kind).isEmpty (s.blockers k kind).length
          (((s.blockers k kind).take 8).map s.handleAt) (s.reach k))) := by
  simp [State.checkClose, named?, h, Config.blockingHandles]

theorem State.checkClose_unconfigured {s : State} {k : SwitchNo} (h : s.configured k = false) (kind : CloseKind) :
    s.checkClose k.val (.named kind) = (s, .refuse .refusedState) := by
  simp [State.checkClose, named?, h]

theorem State.checkClose_outOfRange (s : State) {n : Nat} {kind : Choice CloseKind} (h : 16 ≤ n ∨ kind = .unnamed) :
    s.checkClose n kind = (s, .refuse .refusedRange) := by
  unfold State.checkClose
  obtain switch | rfl := h
  · simp [switchNo?_eq_none switch]
  · cases switchNo? n <;> simp [named?]

theorem exec_checkClose {s : State} {p : Port} {n : Nat} {kind : Choice CloseKind} {d : Completion} (hs : s.ready p)
    (hd : (s.taking p).checkClose n kind = (s.taking p, d)) :
    exec (.checkClose p n kind) s = .next (s.answer p 0x25 d.code d.data) :=
  exec_reading (r := .checkClose n kind) rfl hs rfl hd

/-! ### The statements -/

/-- Settles O11: the cases of the two requests over the state that takes them, each answered as a request of class A. -/
theorem holdReadsAnswer : Obligations.HoldReadsAnswer := by
  unfold Obligations.HoldReadsAnswer
  refine ⟨fun s p hs => ⟨fun i h hi => ?live, fun i u stale => ?stale, fun n m out => ?range⟩,
    fun s p hs => ⟨fun i zone origin => ?listed, fun n zone origin out => ?listRange⟩⟩
  case live => exact exec_readHold hs (State.readHold_live (s := s.taking p) hi)
  case stale => exact exec_readHold hs (State.readHold_stale (s := s.taking p) stale)
  case range => exact exec_readHold hs (State.readHold_outOfRange _ out)
  case listed =>
    have answered := exec_listHolds hs (State.listHolds_inRange (s.taking p) i zone origin)
    rwa [State.listedFrom_taking, State.handleAt_taking] at answered
  case listRange => exact exec_listHolds hs (State.listHolds_outOfRange _ out)

/-- Settles O12: the cases of the request over the state that takes it, the blocking holds of the table being those of R39. -/
theorem checkCloseAnswers : Obligations.CheckCloseAnswers := by
  unfold Obligations.CheckCloseAnswers
  intro s p hs
  refine ⟨fun k kind configured => ?answer, fun k kind unconfigured => ?state, fun n kind out => ?range⟩
  case answer =>
    have answered := exec_checkClose hs (State.checkClose_configured (s := s.taking p) configured kind)
    rwa [State.blockers_taking, State.handleAt_taking, State.reach_taking, State.blockers_eq] at answered
  case state => exact exec_checkClose hs (State.checkClose_unconfigured (s := s.taking p) unconfigured kind)
  case range => exact exec_checkClose hs (State.checkClose_outOfRange _ out)

end Sys2Proof.Machine
end

section
/-! IDENTIFY (R180): the owning block answers the table of 12.5 and leaves the state that takes the request as it stands. -/

namespace Sys2Proof.Machine

/-- The 15 bytes of 12.5: the vendor code, the part code and the revision, then the ten capacities in the order of R180. -/
theorem identifyTable_eq :
    identifyTable = [0x3A, 0x61, 0x12, 0xE0, 0x01] ++ [32, 16, 8, 64, 48, 16, 4, 16, 6, 32] := rfl

theorem State.carryOut_identify (s : State) (p : Port) :
    s.carryOut p .identify = (s, .done (.identity identifyTable)) := rfl

theorem exec_identify {s : State} {p : Port} (hs : s.ready p) :
    exec (.identify p) s = .next (s.answer p 0x73 .done (.identity identifyTable)) :=
  exec_reading (r := .identify) rfl hs rfl (State.carryOut_identify _ p)

/-- Settles O16: IDENTIFY is answered as a request of class A, with the vendor code, part code, revision and capacities of 12.5. -/
theorem identifyAnswers : Obligations.IdentifyAnswers := by
  unfold Obligations.IdentifyAnswers
  intro s p hs
  have answered := exec_identify hs
  rwa [identifyTable_eq] at answered

end Sys2Proof.Machine
end

section
/-! What the RCS's own operations can do, said once (chapter 6): each writes the sequence of one switch, reports the running sequences to
the EHU where they change, and sets notices (`State.Told`). What such a course leaves alone is shown by induction over it. -/

namespace Sys2Proof.Machine

/-! ### The resumption that a report of the running sequences can bring (R148, R149) -/

/-- The records that the sequences, the watch and the hunt leave alone while they place no hold. -/
def State.others (s : State) := (s.pending, s.draws, s.lines, s.fmu, s.htu, s.fsu, s.svu)

theorem Runtime.wantPoll_eq (r : Runtime) (c : PollClass) : r.wantPoll c = { r with pollWanted := (r.wantPoll c).pollWanted } := by
  unfold Runtime.wantPoll
  (repeat' split) <;> rfl

/-- Polls wanted of some switches change the polls wanted alone. -/
def State.Polled (s t : State) : Prop :=
  t.others = s.others ∧ t.rcs = s.rcs ∧ t.rqi = s.rqi ∧ t.sou = { s.sou with runtime := t.sou.runtime } ∧
    ∀ k, t.runtime k = { s.runtime k with pollWanted := (t.runtime k).pollWanted }

theorem State.Polled.refl (s : State) : s.Polled s := ⟨rfl, rfl, rfl, rfl, fun _ => rfl⟩

theorem State.Polled.trans {s t u : State} (a : s.Polled t) (b : t.Polled u) : s.Polled u := by
  obtain ⟨ao, ar, aq, as, ak⟩ := a
  obtain ⟨bo, br, bq, bs, bk⟩ := b
  exact ⟨bo.trans ao, br.trans ar, bq.trans aq, by rw [bs, as], fun k => by rw [bk k, ak k]⟩

theorem State.wantPoll_polled (s : State) (k : SwitchNo) (c : PollClass) : s.Polled (s.wantPoll k c) := by
  refine ⟨rfl, rfl, rfl, rfl, fun j => ?_⟩
  by_cases e : j = k
  · subst e
    rw [State.wantPoll, State.runtime_setRuntime_same]
    exact Runtime.wantPoll_eq _ _
  · rw [State.wantPoll, State.runtime_setRuntime_other _ _ e]

theorem foldl_wantPoll_polled (l : List SwitchNo) (c : PollClass) (s : State) :
    s.Polled (l.foldl (fun u k => u.wantPoll k c) s) ∧ (l.foldl (fun u k => u.wantPoll k c) s).ehu = s.ehu := by
  induction l generalizing s with
  | nil => exact ⟨.refl s, rfl⟩
  | cons k l ih => exact ⟨(State.wantPoll_polled s k c).trans (ih _).1, (ih _).2⟩

theorem State.enterLocating_polled (s : State) : s.Polled s.enterLocating :=
  (foldl_wantPoll_polled _ .hunt s).1

/-- What entering LOCATING makes of the EHU's records. -/
theorem State.enterLocating_ehu (s : State) : s.enterLocating.ehu =
    { s.ehu with huntCase := { s.ehu.huntCase with
        state := .locating, clearedInWindow := false, listen := .start (10 * s.ehu.params.listen) } } := by
  have e := (foldl_wantPoll_polled (allSwitches.filter s.locatingPolls) .hunt s).2
  simp only [State.enterLocating, e]

/-- A resumption changes the case and the polls wanted; none comes unless the case is suspended. -/
theorem State.checkResume_polled (s : State) : s.Polled s.checkResume := by
  unfold State.checkResume
  split
  · split
    · exact .refl s
    · exact State.enterLocating_polled _
  · exact .refl s

theorem State.checkResume_ehu (s : State) : s.checkResume.ehu = { s.ehu with huntCase := s.checkResume.ehu.huntCase } := by
  unfold State.checkResume
  split
  · split
    · rfl
    · simp only [State.resumeCase, State.enterLocating_ehu]
  · rfl

theorem State.checkResume_step (s : State) : s.checkResume.ehu.huntCase.step = s.ehu.huntCase.step := by
  unfold State.checkResume
  split
  · split
    · rfl
    · simp only [State.resumeCase, State.enterLocating_ehu]
  · rfl

theorem State.checkResume_quiet {s : State} (h : s.ehu.huntCase.state ≠ .suspended) : s.checkResume = s := by
  unfold State.checkResume
  split
  next e _ => exact absurd e h
  next => rfl

/-! ### Notices -/

theorem State.noticed_of_rqi {s t : State} (h : t.rqi = s.rqi) {n : Notice} (hn : s.noticed n) : t.noticed n := by
  rwa [State.noticed, h]

/-! ### Writing one sequence -/

/-- A sequence written: the running sequences are told where one starts or stops running, and a case suspended for TRIP may resume. -/
theorem State.setSeq_cases (s : State) (k : SwitchNo) (q : Sequence) :
    ∃ n, s.setSeq k q = State.checkResume { s.putSeq k q with ehu.runningCount := n } ∨ s.setSeq k q = s.putSeq k q := by
  unfold State.setSeq State.countReport
  dsimp only
  split
  · exact ⟨_, .inl rfl⟩
  · exact ⟨0, .inr rfl⟩

theorem State.setSeq_others (s : State) (k : SwitchNo) (q : Sequence) : (s.setSeq k q).others = s.others := by
  obtain ⟨n, e | e⟩ := State.setSeq_cases s k q
  · rw [e]; exact (State.checkResume_polled _).1
  · rw [e]; rfl

theorem State.setSeq_rqi (s : State) (k : SwitchNo) (q : Sequence) : (s.setSeq k q).rqi = s.rqi := by
  obtain ⟨n, e | e⟩ := State.setSeq_cases s k q
  · rw [e]; exact (State.checkResume_polled _).2.2.1
  · rw [e]; rfl

theorem State.setSeq_sou (s : State) (k : SwitchNo) (q : Sequence) :
    (s.setSeq k q).sou = { s.sou with runtime := (s.setSeq k q).sou.runtime } := by
  obtain ⟨n, e | e⟩ := State.setSeq_cases s k q
  · rw [e]; exact (State.checkResume_polled _).2.2.2.1
  · rw [e]; rfl

theorem State.setSeq_runtime (s : State) (k : SwitchNo) (q : Sequence) (j : SwitchNo) :
    (s.setSeq k q).runtime j = { s.runtime j with pollWanted := ((s.setSeq k q).runtime j).pollWanted } := by
  obtain ⟨n, e | e⟩ := State.setSeq_cases s k q
  · rw [e]; exact (State.checkResume_polled _).2.2.2.2 j
  · rw [e]; rfl

theorem State.setSeq_ehu (s : State) (k : SwitchNo) (q : Sequence) : (s.setSeq k q).ehu =
    { s.ehu with runningCount := (s.setSeq k q).ehu.runningCount, huntCase := (s.setSeq k q).ehu.huntCase } := by
  obtain ⟨n, e | e⟩ := State.setSeq_cases s k q
  · rw [e, State.checkResume_ehu]; rfl
  · rw [e]; rfl

theorem State.setSeq_step (s : State) (k : SwitchNo) (q : Sequence) :
    (s.setSeq k q).ehu.huntCase.step = s.ehu.huntCase.step := by
  obtain ⟨n, e | e⟩ := State.setSeq_cases s k q
  · rw [e, State.checkResume_step]; rfl
  · rw [e]; rfl

/-- With no case suspended the report resumes none. -/
theorem State.setSeq_quiet {s : State} (k : SwitchNo) (q : Sequence) (h : s.ehu.huntCase.state ≠ .suspended) :
    (s.setSeq k q).ehu.huntCase = s.ehu.huntCase ∧ (s.setSeq k q).sou = s.sou := by
  obtain ⟨n, e | e⟩ := State.setSeq_cases s k q
  · have stays := State.checkResume_quiet (s := { s.putSeq k q with ehu.runningCount := n }) h
    rw [e, stays]
    exact ⟨rfl, rfl⟩
  · rw [e]; exact ⟨rfl, rfl⟩

/-! ### The course of an operation of the RCS -/

/-- `t` comes from `s` by writing the sequence of switch `k` and setting notices. -/
inductive State.Told (k : SwitchNo) (s : State) : State → Prop
  | refl : State.Told k s s
  | seq {t : State} (q : Sequence) : State.Told k s t → State.Told k s (t.setSeq k q)
  | note {t : State} (n : Notice) : State.Told k s t → State.Told k s (t.notify n)

namespace State.Told

section
variable {k : SwitchNo} {s t u : State}

theorem trans (a : s.Told k t) (b : t.Told k u) : s.Told k u := by
  induction b with
  | refl => exact a
  | seq q _ ih => exact ih.seq q
  | note n _ ih => exact ih.note n

theorem others (h : s.Told k t) : t.others = s.others := by
  induction h with
  | refl => rfl
  | seq q _ ih => rw [State.setSeq_others, ih]
  | note n _ ih => exact ih

theorem fmu (h : s.Told k t) : t.fmu = s.fmu := congrArg (·.2.2.2.1) h.others
theorem htu (h : s.Told k t) : t.htu = s.htu := congrArg (·.2.2.2.2.1) h.others
theorem fsu (h : s.Told k t) : t.fsu = s.fsu := congrArg (·.2.2.2.2.2.1) h.others
theorem svu (h : s.Told k t) : t.svu = s.svu := congrArg (·.2.2.2.2.2.2) h.others
theorem lines (h : s.Told k t) : t.lines = s.lines := congrArg (·.2.2.1) h.others

theorem seq_other (h : s.Told k t) {j : SwitchNo} (hj : j ≠ k) : t.seq j = s.seq j := by
  induction h with
  | refl => rfl
  | seq q _ ih => rw [State.setSeq_seq, if_neg hj, ih]
  | note n _ ih => rw [State.seq_of_rcs (State.notify_rcs _ _), ih]

theorem runtime (h : s.Told k t) (j : SwitchNo) :
    t.runtime j = { s.runtime j with pollWanted := (t.runtime j).pollWanted } := by
  induction h with
  | refl => rfl
  | seq q _ ih => rw [State.setSeq_runtime, ih]
  | note n _ ih => rw [State.runtime_congr (State.notify_sou _ _), ih]

theorem sou (h : s.Told k t) : t.sou = { s.sou with runtime := t.sou.runtime } := by
  induction h with
  | refl => rfl
  | seq q _ ih => rw [State.setSeq_sou, ih]
  | note n _ ih => exact ih

theorem ehu (h : s.Told k t) :
    t.ehu = { s.ehu with runningCount := t.ehu.runningCount, huntCase := t.ehu.huntCase } := by
  induction h with
  | refl => rfl
  | seq q _ ih => rw [State.setSeq_ehu, ih]
  | note n _ ih => exact ih

theorem step (h : s.Told k t) : t.ehu.huntCase.step = s.ehu.huntCase.step := by
  induction h with
  | refl => rfl
  | seq q _ ih => rw [State.setSeq_step, ih]
  | note n _ ih => exact ih

theorem noticed (h : s.Told k t) {n : Notice} (hn : s.noticed n) : t.noticed n := by
  induction h with
  | refl => exact hn
  | seq q _ ih => exact State.noticed_of_rqi (State.setSeq_rqi _ _ _) ih
  | note m _ ih => exact State.noticed_kept _ _ _ ih

/-- With no case suspended the EHU's records stand, the count of running sequences apart, and so do the SOU's. -/
theorem quiet (h : s.Told k t) (hc : s.ehu.huntCase.state ≠ .suspended) :
    t.ehu.huntCase = s.ehu.huntCase ∧ t.sou = s.sou := by
  induction h with
  | refl => exact ⟨rfl, rfl⟩
  | @seq t q _ ih =>
    obtain ⟨he, hs⟩ := ih
    obtain ⟨he', hs'⟩ := State.setSeq_quiet k q (s := t) (by rw [he]; exact hc)
    exact ⟨he'.trans he, hs'.trans hs⟩
  | note n _ ih => exact ih

theorem quiet_ehu (h : s.Told k t) (hc : s.ehu.huntCase.state ≠ .suspended) :
    t.ehu = { s.ehu with runningCount := t.ehu.runningCount } := by
  rw [h.ehu, (h.quiet hc).1]

end
end State.Told

/-! ### Each operation of the RCS is such a course -/

section
variable (s : State) (k : SwitchNo)

theorem State.setSeq_told (q : Sequence) : s.Told k (s.setSeq k q) := .seq q .refl
theorem State.settleSeq_told (st : SeqState) : s.Told k (s.settleSeq k st) := s.setSeq_told k _
theorem State.lockOut_told (r : LockoutReason) : s.Told k (s.lockOut k r) := .note _ (s.setSeq_told k _)
theorem State.enterReclaim_told (n : Nat) : s.Told k (s.enterReclaim k n) := s.setSeq_told k _
theorem State.enterDeadTime_told (n : Nat) (c : FaultClass) : s.Told k (s.enterDeadTime k n c) := s.setSeq_told k _
theorem State.cancelSeq_told : s.Told k (s.cancelSeq k) := s.setSeq_told k _
theorem State.settleByPosition_told : s.Told k (s.settleByPosition k) := s.settleSeq_told k _

theorem State.judgeTrip_told (used : Nat) (c : FaultClass) : s.Told k (s.judgeTrip k used c) := by
  have trip : s.Told k (s.notify .trip) := .note _ .refl
  unfold State.judgeTrip
  dsimp only
  split
  · exact trip.trans (State.enterDeadTime_told _ _ _ _)
  · exact trip.trans (State.lockOut_told _ _ _)

theorem State.rcsTrip_told (c : FaultClass) : s.Told k (s.rcsTrip k c) := by
  unfold State.rcsTrip
  dsimp only
  split
  case h_1 => exact s.judgeTrip_told k _ _
  case h_2 => exact s.judgeTrip_told k _ _
  case h_3 => exact .note _ (s.settleSeq_told k _)
  case h_4 =>
    split
    · exact .note _ (s.setSeq_told k _)
    · exact .refl
  all_goals exact .refl

theorem State.rcsPosition_told (p : Pole) : s.Told k (s.rcsPosition k p) := by
  unfold State.rcsPosition
  split
  case h_7 => exact s.enterReclaim_told k _
  case h_8 => exact .refl
  all_goals exact s.settleSeq_told k _

theorem State.recloseEnded_told (n : Nat) (res : OpResult) : s.Told k (s.recloseEnded k n res) := by
  cases res with
  | done => exact s.enterReclaim_told k n
  | already => exact s.enterReclaim_told k n
  | heldAtDispatch g => exact s.lockOut_told k _
  | refusedByUnit r => exact s.lockOut_told k _
  | noAnswer => exact s.lockOut_told k _
  | cancelled => exact s.lockOut_told k _
  | preEmpted => exact (s.setSeq_told k _).trans (State.cancelSeq_told _ _)
  | noMove =>
    unfold State.recloseEnded
    dsimp only
    split
    · exact s.judgeTrip_told k _ _
    · exact s.lockOut_told k _

theorem State.rcsCloseResult_told (classes : Classes) (res : OpResult) : s.Told k (s.rcsCloseResult k classes res) := by
  unfold State.rcsCloseResult
  dsimp only
  split
  · split
    · split
      · exact .refl
      · exact s.recloseEnded_told k _ _
    · exact .refl
  · split
    case h_4 => exact .refl
    all_goals exact s.settleSeq_told k _

theorem State.rcsOpenResult_told (res : OpResult) : s.Told k (s.rcsOpenResult k res) := by
  unfold State.rcsOpenResult
  dsimp only
  split
  case h_1 => exact s.settleByPosition_told k
  case h_2 =>
    split
    · exact s.settleByPosition_told k
    · exact .refl
  case h_3 | h_4 | h_5 =>
    split
    · exact s.settleSeq_told k _
    · exact .refl
  all_goals exact .refl

theorem State.rcsResult_told (action : SwitchAction) (classes : Classes) (res : OpResult) :
    s.Told k (s.rcsResult k action classes res) := by
  cases action with
  | toClose => exact s.rcsCloseResult_told k classes res
  | toOpen => exact s.rcsOpenResult_told k res

theorem State.rcsAccepted_told (action : SwitchAction) : s.Told k (s.rcsAccepted k action) := by
  unfold State.rcsAccepted
  split
  · exact s.cancelSeq_told k
  · exact s.cancelSeq_told k
  · exact s.settleSeq_told k _
  · exact .refl

theorem State.reevaluate_told : s.Told k (s.reevaluate k) := by
  unfold State.reevaluate
  split
  · split
    · exact s.lockOut_told k _
    · exact .refl
  · exact .refl

theorem State.rcsLeave_told : s.Told k (s.rcsLeave k) := by
  unfold State.rcsLeave
  dsimp only
  split
  · exact .note _ (s.setSeq_told k _)
  · exact s.setSeq_told k _

theorem State.recloseAnswered_told (n : Nat) (a : SlotAnswer) : s.Told k (s.recloseAnswered k n a) := by
  cases a with
  | taken => exact s.setSeq_told k _
  | already => exact s.enterReclaim_told k n
  | busy => exact s.lockOut_told k _
  | failed => exact s.lockOut_told k _
  | unconfigured => exact s.lockOut_told k _

end
end Sys2Proof.Machine
end

section
/-! What keeps an invariant along every command (R19, R58, R68, R106, R132, R139). An invariant is given with what it must survive: a move
that leaves the settings and the hold table alone, a placement, an amendment, a departure, the FIRE handles, and the settings' own
changes (`Kept`). From these alone each operation of the blocks, and so each command, is shown to keep it; the invariants of the
statements are cases of it. -/

namespace Sys2Proof.Machine

/-- R132, R139: a step is under way exactly in STEPPING, and the listen window runs in LOCATING alone. -/
def HuntCase.orderly (c : HuntCase) : Prop :=
  (c.step.isSome = true ↔ c.state = .stepping) ∧ (c.listen ≠ .stopped → c.state = .locating)

/-- What the invariants read of the state, the hunt case and the sequences apart. -/
def State.ground (s : State) :=
  (s.pending, s.fsu.groups, s.fsu.season, s.fsu.tfb, s.fsu.districts, s.htu)

/-- The operations that a table of holds with its settings, its sequences and its hunt case survives; `o` says whether the case is part of
the invariant. -/
structure KeptBase (o : Prop) (P : State → Prop) : Prop where
  orderly : ∀ {s}, P s → o → s.ehu.huntCase.orderly
  move : ∀ {s t : State}, P s → t.ground = s.ground → (o → t.ehu.huntCase.orderly) → (s.runningCounted → t.runningCounted) → P t
  place : ∀ {s} {r : Hold}, P s →
    (r.origin = .controller ∨ r.origin = .maintenance → s.htu.counts.controller + s.htu.counts.maintenance < Config.portHolds) →
    P (s.placeHold r).1
  edit : ∀ {s} {i : SlotNo} {r n : Hold}, P s → s.holdAt i = some r → n.origin = r.origin → n.cause = r.cause →
    P (s.setSlot i { s.slot i with hold := some n })
  vacate : ∀ {s} {i : SlotNo}, P s → P (s.vacate i)
  placeFire : ∀ {s} {d : DistrictNo}, P s → (s.district d).effective = .ban → P (s.placeFire d)
  dropFire : ∀ {s} {d : DistrictNo}, P s → P (s.setDistrict d { s.district d with fire := none })

/-- The records with every effective level set by its inputs (R68), the reservations and notices apart. -/
def State.withLevels (s : State) : State :=
  { s with fsu.districts := Vector.ofFn fun d => { s.fsu.districts[d] with effective := s.levelOfDistrict d } }

/-- A state whose declared levels, season and TFB state may have changed from `s`, with each FIRE handle the one kept there, or a live one
of a district that goes to BAN. -/
structure State.Redeclared (s t : State) : Prop where
  queue : t.pending = s.pending
  groups : t.fsu.groups = s.fsu.groups
  table : t.htu = s.htu
  huntCase : t.ehu.huntCase = s.ehu.huntCase
  counted : s.runningCounted → t.runningCounted
  fires : ∀ d x, (t.district d).fire = some x →
    ((s.district d).fire = some x ∧ (t.district d).effective = (s.district d).effective) ∨
    (t.levelOfDistrict d = .ban ∧ ∃ r, t.liveHold x = some r ∧ r.origin = .fire ∧ r.cause = some (.district d))

/-- An invariant that the settings' own changes and the starts keep too. -/
structure Kept (o : Prop) (P : State → Prop) : Prop extends KeptBase o P where
  groups : ∀ {s} {g : Groups}, P s → g.monotone → P { s with fsu.groups := g }
  recount : ∀ {s}, P s → P { s with htu.counts := s.recount }
  relevel : ∀ {s t u : State}, P s → s.Redeclared t → u.ground = t.withLevels.ground → u.ehu.huntCase = t.ehu.huntCase →
    (t.runningCounted → u.runningCounted) → P (t.changedDistricts.foldl State.adjustFire u)
  startLevels : ∀ {s t u : State}, P s → s.Redeclared t → u.ground = t.withLevels.ground → u.ehu.huntCase = t.ehu.huntCase →
    (t.runningCounted → u.runningCounted) → P (allDistricts.foldl State.reconcileFire u)
  coldLevels : ∀ {s t u : State}, P s → t.pending = s.pending → t.fsu = { Fsu.cold with tfb := t.fsu.tfb } →
    t.htu = Htu.cold → u.ground = t.withLevels.ground →
    u.ehu.huntCase = HuntCase.cold → u.runningCounted → P (allDistricts.foldl State.reconcileFire u)

theorem State.ground_of_others {s t : State} (h : t.others = s.others) : t.ground = s.ground := by
  simp only [State.others, Prod.mk.injEq] at h
  obtain ⟨queue, -, -, -, table, settings, -⟩ := h
  simp only [State.ground, queue, table, settings]

/-! ### Sequences counted -/

theorem State.runningSequences_congr {s t : State} (h : ∀ k, (t.seq k).state.running = (s.seq k).state.running) :
    t.runningSequences = s.runningSequences := by
  simp [State.runningSequences, h]

theorem State.runningCounted_congr {s t : State} (h : ∀ k, (t.seq k).state.running = (s.seq k).state.running)
    (hc : t.ehu.runningCount = s.ehu.runningCount) (hs : s.runningCounted) : t.runningCounted := by
  rw [State.runningCounted, hc, State.runningSequences_congr h]; exact hs

/-- With no sequence running none is counted. -/
theorem State.runningCounted_none {s : State} (h : ∀ k, (s.seq k).state.running = false) (hc : s.ehu.runningCount = 0) :
    s.runningCounted := by
  simp [State.runningCounted, State.runningSequences, h, hc]

/-! ### The blocks' operations -/

namespace KeptBase

theorem foldl {P : State → Prop} {α : Type} {f : State → α → State} (hf : ∀ u x, P u → P (f u x)) (l : List α) {s : State}
    (hs : P s) : P (l.foldl f s) := by
  induction l generalizing s with
  | nil => exact hs
  | cons x l ih => exact ih (hf _ _ hs)

section
variable {o : Prop} {P : State → Prop} (h : KeptBase o P) {s t : State}
include h

/-- An update that leaves the hunt case and the sequences alone too. -/
theorem same (hs : P s) (hg : t.ground = s.ground) (hc : t.ehu.huntCase = s.ehu.huntCase) (hr : t.rcs = s.rcs)
    (hn : t.ehu.runningCount = s.ehu.runningCount) : P t :=
  h.move hs hg (fun x => hc ▸ h.orderly hs x)
    (State.runningCounted_congr (fun k => by rw [State.seq_congr hr]) hn)

/-- An update of the hunt case. -/
theorem caseMoves (hs : P s) (hc : o → t.ehu.huntCase.orderly) (hg : t.ground = s.ground) (hr : t.rcs = s.rcs)
    (hn : t.ehu.runningCount = s.ehu.runningCount) : P t :=
  h.move hs hg hc (State.runningCounted_congr (fun k => by rw [State.seq_congr hr]) hn)

/-- An update of the hunt case that leaves its state, its step's presence and its window alone. -/
theorem sameCourse (hs : P s) (hc : t.ehu.huntCase.state = s.ehu.huntCase.state)
    (hp : t.ehu.huntCase.step.isSome = s.ehu.huntCase.step.isSome) (hl : t.ehu.huntCase.listen = s.ehu.huntCase.listen)
    (hg : t.ground = s.ground) (hr : t.rcs = s.rcs) (hn : t.ehu.runningCount = s.ehu.runningCount) : P t :=
  h.caseMoves hs (fun x => by simpa only [HuntCase.orderly, hc, hp, hl] using h.orderly hs x) hg hr hn

/-- Outside STEPPING no step is under way, and outside LOCATING no window runs. -/
theorem stepNone (hs : P s) (hc : s.ehu.huntCase.state ≠ .stepping) (x : o) : s.ehu.huntCase.step = none := by
  have step := (h.orderly hs x).1
  simpa [hc] using step
theorem listenStopped (hs : P s) (hc : s.ehu.huntCase.state ≠ .locating) (x : o) : s.ehu.huntCase.listen = .stopped := by
  have window := (h.orderly hs x).2
  by_contra running
  exact hc (window running)
theorem stepping (hs : P s) (hc : s.ehu.huntCase.step.isSome = true) (x : o) : s.ehu.huntCase.state = .stepping :=
  (h.orderly hs x).1.mp hc
theorem listenStopped_of_step (hs : P s) (hc : s.ehu.huntCase.step.isSome = true) (x : o) :
    s.ehu.huntCase.listen = .stopped :=
  h.listenStopped hs (by simp [h.stepping hs hc x]) x

theorem setRuntime (hs : P s) (k : SwitchNo) (r : Runtime) : P (s.setRuntime k r) := h.same hs rfl rfl rfl rfl
theorem setPort (hs : P s) (p : Port) (v : PortRecord) : P (s.setPort p v) := h.same hs rfl rfl rfl rfl
theorem notify (hs : P s) (n : Notice) : P (s.notify n) := h.same hs rfl rfl rfl rfl
theorem loseReservations (hs : P s) (test : Reservation → Bool) : P (s.loseReservations test) := h.same hs rfl rfl rfl rfl
theorem recode (hs : P s) (r : RecordId) : P (s.recode r) := h.same hs rfl rfl rfl rfl
theorem wantPoll (hs : P s) (k : SwitchNo) (c : PollClass) : P (s.wantPoll k c) := h.setRuntime hs _ _
theorem handThresholds (hs : P s) : P s.handThresholds := h.same hs rfl rfl rfl rfl

theorem foldl_wantPoll (hs : P s) (l : List SwitchNo) (c : PollClass) : P (l.foldl (fun u k => u.wantPoll k c) s) :=
  foldl (P := P) (fun _ k hu => h.wantPoll hu k c) l hs

end

/-! ### A case that is between two states -/

/-- The invariant holds of the state but for its hunt case. -/
def Loose (P : State → Prop) (s : State) : Prop := ∃ c, P { s with ehu.huntCase := c }

theorem loose {P : State → Prop} {s : State} (hs : P s) : Loose P s := ⟨s.ehu.huntCase, hs⟩

section
variable {o : Prop} {P : State → Prop} (h : KeptBase o P) {s t : State}
include h

theorem tie (hs : Loose P s) (hc : o → t.ehu.huntCase.orderly) (hg : t.ground = s.ground) (hr : t.rcs = s.rcs)
    (hn : t.ehu.runningCount = s.ehu.runningCount) : P t := by
  obtain ⟨c, hs⟩ := hs
  exact h.caseMoves (s := { s with ehu.huntCase := c }) hs hc hg hr hn

/-- LOCATING is entered with no step under way (R132). -/
theorem enterLocating (hs : Loose P s) (quiet : o → s.ehu.huntCase.step = none) : P s.enterLocating := by
  obtain ⟨ho, hr, -, -, -⟩ := State.enterLocating_polled s
  have he := State.enterLocating_ehu s
  refine h.tie hs (fun x => ?_) (State.ground_of_others ho) hr (by rw [he])
  simp [HuntCase.orderly, he, quiet x]

theorem startCase (hs : P s) (from_ : StartOrigin) (essential : Bool) : P (s.startCase from_ essential) := by
  unfold State.startCase
  refine h.enterLocating ⟨s.ehu.huntCase, ?_⟩ (fun _ => rfl)
  exact h.same hs rfl rfl rfl rfl

theorem attemptFailed (hs : P s) (r : StartRefusal) : P (s.attemptFailed r) := by
  unfold State.attemptFailed
  dsimp only
  split
  · exact h.sameCourse hs rfl rfl rfl rfl rfl rfl
  · exact h.sameCourse hs rfl rfl rfl rfl rfl rfl

theorem attemptStart (hs : P s) : P s.attemptStart := by
  unfold State.attemptStart
  split
  · exact h.startCase hs _ _
  · exact h.attemptFailed hs _
  · exact h.attemptFailed hs _

theorem retryStart (hs : P s) : P s.retryStart := by
  unfold State.retryStart
  dsimp only
  split
  · exact h.attemptStart hs
  · exact hs

theorem departHold (hs : P s) (i : SlotNo) : P (s.departHold i) := by
  unfold State.departHold State.reportDeparture
  split
  · exact hs
  · split
    · exact h.retryStart (h.vacate hs)
    · exact h.vacate hs

theorem expireHolds (hs : P s) : P s.expireHolds := foldl (P := P) (fun _ i hu => h.departHold hu i) _ hs

/-- A conclusion with no step under way (R152). -/
theorem concludeCase (hs : Loose P s) (quiet : o → s.ehu.huntCase.step = none) (r : ResultKind) : P (s.concludeCase r) :=
  h.tie hs (fun x => by simp [HuntCase.orderly, State.concludeCase, HuntCase.conclude, quiet x]) rfl rfl rfl

theorem concludeSelfCleared (hs : Loose P s) (quiet : o → s.ehu.huntCase.step = none) : P s.concludeSelfCleared :=
  h.notify (h.concludeCase hs quiet _) _

theorem concludeAbandoned (hs : Loose P s) (quiet : o → s.ehu.huntCase.step = none) (r : AbandonReason) :
    P (s.concludeAbandoned r) :=
  h.sameCourse (h.concludeCase hs quiet .abandoned) rfl rfl rfl rfl rfl rfl

theorem pendAbandon (hs : P s) (r : AbandonReason) : P (s.pendAbandon r) := by
  unfold State.pendAbandon
  split
  · exact hs
  · exact h.same hs rfl rfl rfl rfl

theorem abandonCase (hs : P s) (r : AbandonReason) : P (s.abandonCase r) := by
  unfold State.abandonCase
  split
  next hc => exact h.concludeAbandoned (loose hs) (h.stepNone hs (by simp [hc])) r
  next hc => exact h.concludeAbandoned (loose hs) (h.stepNone hs (by simp [hc])) r
  next => exact h.pendAbandon hs r
  next => exact hs
  next => exact hs

theorem resumeCase (hs : Loose P s) (quiet : o → s.ehu.huntCase.step = none) : P s.resumeCase :=
  h.enterLocating hs quiet

theorem checkResume (hs : P s) : P s.checkResume := by
  unfold State.checkResume
  split
  next hc _ =>
    split
    · exact hs
    · exact h.resumeCase (loose hs) (h.stepNone hs (by simp [hc]))
  next => exact hs

theorem suspendCase (hs : Loose P s) (quiet : o → s.ehu.huntCase.step = none) (p : Suspension) : P (s.suspendCase p) :=
  h.checkResume (h.tie hs (fun x => by simp [HuntCase.orderly, quiet x]) rfl rfl rfl)

theorem disturb (hs : P s) : P s.disturb := by
  unfold State.disturb
  split
  · exact h.same hs rfl rfl rfl rfl
  · exact hs

theorem pendCause (hs : P s) (p : Suspension) : P (s.pendCause p) := by
  unfold State.pendCause
  split
  · exact hs
  · exact h.same hs rfl rfl rfl rfl

theorem causeArises (hs : P s) (p : Suspension) : P (s.causeArises p) := by
  unfold State.causeArises
  split
  next hc => exact h.suspendCase (loose hs) (h.stepNone hs (by simp [hc])) p
  next => exact h.pendCause (h.disturb hs) p
  next => exact hs

theorem conditionReport (hs : P s) (k : SwitchNo) : P (s.conditionReport k) := by
  unfold State.conditionReport
  split
  · exact h.checkResume hs
  · split
    · exact h.causeArises hs _
    · exact hs

theorem setCondition (hs : P s) (k : SwitchNo) (c : Condition) : P (s.setCondition k c) := by
  unfold State.setCondition
  split
  · exact hs
  · exact h.conditionReport (h.setRuntime hs _ _) k

theorem huntPosition (hs : P s) (k : SwitchNo) (p : Pole) (changed : Bool) : P (s.huntPosition k p changed) := by
  unfold State.huntPosition
  split
  · split
    · exact h.disturb hs
    · exact hs
  · exact h.checkResume hs

theorem huntOperateTaken (hs : P s) (k : SwitchNo) : P (s.huntOperateTaken k) := by
  unfold State.huntOperateTaken
  split
  · exact hs
  · exact h.disturb hs

theorem watchMove (hs : P s) (before after : Bool) : P (s.watchMove before after) := by
  unfold State.watchMove
  dsimp only
  split
  · exact h.same hs rfl rfl rfl rfl
  · split
    · exact h.sameCourse hs rfl rfl rfl rfl rfl rfl
    · exact h.same hs rfl rfl rfl rfl
  · exact h.retryStart hs
  · exact hs

theorem caseFlagCleared (hs : P s) : P s.caseFlagCleared := by
  unfold State.caseFlagCleared
  split
  next => exact h.sameCourse hs rfl rfl rfl rfl rfl rfl
  next hc => exact h.concludeSelfCleared (loose hs) (h.stepNone hs (by simp [hc]))
  next => exact hs

theorem observeHead (hs : P s) (c : ReportClass) : P (s.observeHead c) := by
  unfold State.observeHead
  split
  · exact h.same hs rfl rfl rfl rfl
  · exact hs

theorem watchHead (hs : P s) (v : Nat) (q : Quality) (c : ReportClass) : P (s.watchHead v q c) := by
  have seen : P { s with ehu.watch.episode := episodeAfter s.ehu.watch.episode c,
                         ehu.watch.lastHead := some ⟨v, q, c, s.svu.minute⟩ } := h.same hs rfl rfl rfl rfl
  unfold State.watchHead
  dsimp only
  split
  · exact h.caseFlagCleared (h.watchMove seen _ _)
  · exact h.watchMove seen _ _

theorem headReport (hs : P s) (v : Nat) (q : Quality) : P (s.headReport v q) := by
  unfold State.headReport
  dsimp only
  split
  · exact h.watchHead (h.observeHead hs _) _ _ _
  · exact h.observeHead hs _

/-- An elimination of candidates leaves the course of the case alone (R129). -/
theorem eliminated (hs : P s) (out : SwitchNo → Bool) :
    P { s with ehu.huntCase := s.ehu.huntCase.eliminate out } := by
  unfold HuntCase.eliminate
  dsimp only
  split
  · exact h.sameCourse hs rfl rfl rfl rfl rfl rfl
  · exact h.sameCourse hs rfl rfl rfl rfl rfl rfl

theorem locateReport (hs : P s) (k : SwitchNo) (v : Nat) (p : Pole) : P (s.locateReport k v p) := by
  unfold State.locateReport
  split
  · split
    · exact h.eliminated hs _
    · exact h.eliminated hs _
    · exact hs
  · exact hs

theorem residualReport (hs : P s) (k : SwitchNo) (v : Nat) (q : Quality) (p : Pole) : P (s.residualReport k v q p) := by
  unfold State.residualReport
  split
  · exact h.headReport hs _ _
  · exact h.locateReport hs _ _ _

theorem rearmWatch (hs : P s) : P s.rearmWatch := by
  unfold State.rearmWatch
  dsimp only
  split
  · split
    · exact h.same hs rfl rfl rfl rfl
    · exact h.same hs rfl rfl rfl rfl
  · exact hs

theorem reviewProfile (hs : P s) (k : SwitchNo) : P (s.reviewProfile k) := by
  unfold State.reviewProfile
  split
  · dsimp only
    split
    · exact h.setRuntime hs _ _
    · split
      · exact h.setRuntime hs _ _
      · exact h.setRuntime hs _ _
  · exact hs

theorem reviewProfiles (hs : P s) (ks : List SwitchNo) : P (s.reviewProfiles ks) :=
  foldl (P := P) (fun _ k hu => h.reviewProfile hu k) ks hs

/-! ### The sequences (R106) -/

/-- A sequence written, and the running ones told where they change. -/
theorem setSeq (hs : P s) (k : SwitchNo) (q : Sequence) : P (s.setSeq k q) := by
  unfold State.setSeq
  dsimp only
  split
  next =>
    exact h.checkResume (h.move hs rfl (fun x => h.orderly (s := s) hs x) fun _ => rfl)
  next hc =>
    refine h.move hs rfl (fun x => h.orderly (s := s) hs x) (State.runningCounted_congr (fun j => ?_) rfl)
    rw [State.putSeq_seq]
    split
    next e =>
      subst e
      by_cases same : (s.seq j).state = q.state
      · rw [same]
      · simp [same] at hc
        rw [hc.1, hc.2]
    next => rfl

/-- Every operation of the RCS. -/
theorem told {k : SwitchNo} (ht : s.Told k t) (hs : P s) : P t := by
  induction ht with
  | refl => exact hs
  | seq q _ ih => exact h.setSeq ih k q
  | note n _ ih => exact h.notify ih n

theorem reevaluateAll (hs : P s) (ks : List SwitchNo) : P (s.reevaluateAll ks) :=
  foldl (P := P) (fun _ k hu => h.told (State.reevaluate_told _ k) hu) ks hs

/-! ### The operation slots (R90) -/

theorem recordResult (hs : P s) (k : SwitchNo) (q : OpRequest) (res : OpResult) : P (s.recordResult k q res) :=
  h.notify (h.setRuntime hs _ _) _

theorem endInSlot (hs : P s) (k : SwitchNo) (q : OpRequest) (res : OpResult) : P (s.endInSlot k q res) :=
  h.told (State.rcsResult_told _ k _ _ _) (h.recordResult hs k q res)

theorem enterSlot (hs : P s) (k : SwitchNo) (q : OpRequest) : P (s.enterSlot k q).1 := by
  unfold State.enterSlot
  split
  · exact h.endInSlot hs _ _ _
  · exact h.setRuntime hs _ _

theorem requestSlot (hs : P s) (k : SwitchNo) (q : OpRequest) : P (s.requestSlot k q).1 := by
  unfold State.requestSlot
  split
  · exact h.setRuntime hs _ _
  · exact h.enterSlot (h.endInSlot (h.setRuntime hs _ _) _ _ _) _ _
  · exact hs
  · exact h.enterSlot hs _ _

theorem requestByBlock (hs : P s) (k : SwitchNo) (q : OpRequest) : P (s.requestByBlock k q).1 := by
  unfold State.requestByBlock
  split
  · exact hs
  · split
    · exact hs
    · exact h.requestSlot hs _ _

end
end KeptBase
end Sys2Proof.Machine
end

section
/-! What keeps an invariant, continued: the sectionalising tests, the field link and the FIRE holds (chapters 4, 5 and 8). -/

namespace Sys2Proof.Machine

/-! ### The step under way through a request of a block -/

theorem State.endInSlot_step (s : State) (k : SwitchNo) (q : OpRequest) (res : OpResult) :
    (s.endInSlot k q res).ehu.huntCase.step = s.ehu.huntCase.step :=
  (State.rcsResult_told _ k _ _ _).step

theorem State.enterSlot_step (s : State) (k : SwitchNo) (q : OpRequest) :
    (s.enterSlot k q).1.ehu.huntCase.step = s.ehu.huntCase.step := by
  unfold State.enterSlot
  split
  · exact State.endInSlot_step s k q _
  · rfl

/-- A request of a block leaves the step under way as it is. -/
theorem State.requestByBlock_step (s : State) (k : SwitchNo) (q : OpRequest) :
    (s.requestByBlock k q).1.ehu.huntCase.step = s.ehu.huntCase.step := by
  unfold State.requestByBlock State.requestSlot
  (repeat' split) <;> first | rfl | (rw [State.enterSlot_step]; done) | (rw [State.enterSlot_step, State.endInSlot_step]; rfl)

/-! ### What the working operations do to the case's course -/

theorem HuntCase.nameLeftOpen_course (c : HuntCase) (k : SwitchNo) (r : LeftOpenReason) :
    (c.nameLeftOpen k r).state = c.state ∧ (c.nameLeftOpen k r).step = c.step ∧ (c.nameLeftOpen k r).listen = c.listen := by
  unfold HuntCase.nameLeftOpen
  split <;> exact ⟨rfl, rfl, rfl⟩

theorem HuntCase.closeStep_course (c : HuntCase) (k : SwitchNo) (out : StepOutcome) :
    (c.closeStep k out).step = none ∧ (c.closeStep k out).listen = c.listen := by
  cases out <;> exact ⟨rfl, rfl⟩

theorem HuntCase.eliminate_course (c : HuntCase) (out : SwitchNo → Bool) :
    (c.eliminate out).state = c.state ∧ (c.eliminate out).listen = c.listen := by
  unfold HuntCase.eliminate
  dsimp only
  split <;> exact ⟨rfl, rfl⟩

/-- A conclusion that places a hold, its parts named. -/
theorem State.concludeWithHold_eq (s : State) (r : ResultKind) (kind : HoldKind) (z : ZoneSet) :
    s.concludeWithHold r kind z =
      let placed := (s.concludeCase r).placeHold
        ((s.concludeCase r).deviceHold kind .plain .hunt z (.huntCase (s.concludeCase r).ehu.huntCase.number))
      State.notify { placed.1 with ehu.huntCase.holdHandle := placed.2 } .hunt := rfl

namespace KeptBase

section
variable {o : Prop} {P : State → Prop} (h : KeptBase o P) {s t : State}
include h

/-- An update of the case between two states. -/
theorem loosely (hs : P s) (hg : t.ground = s.ground) (hr : t.rcs = s.rcs)
    (hn : t.ehu.runningCount = s.ehu.runningCount) : Loose P t :=
  ⟨s.ehu.huntCase, h.same hs hg rfl hr hn⟩

/-! ### Conclusions (R152, R153) -/

theorem nameLeftOpen (hs : P s) (k : SwitchNo) (r : LeftOpenReason) : P (s.nameLeftOpen k r) := by
  obtain ⟨state, step, listen⟩ := s.ehu.huntCase.nameLeftOpen_course k r
  exact h.sameCourse hs state (congrArg Option.isSome step) listen rfl rfl rfl

theorem placeDevice (hs : P s) (kind : HoldKind) (g : Strength) {origin : Origin} (z : ZoneSet) (c : Cause)
    (device : origin ≠ .controller ∧ origin ≠ .maintenance) : P (s.placeHold (s.deviceHold kind g origin z c)).1 :=
  h.place hs fun port => absurd port (not_or.mpr device)

theorem concludeWithHold (hs : Loose P s) (quiet : o → s.ehu.huntCase.step = none) (r : ResultKind) (kind : HoldKind)
    (z : ZoneSet) : P (s.concludeWithHold r kind z) := by
  have placed := h.placeDevice (h.concludeCase hs quiet r) kind .plain z
    (.huntCase (s.concludeCase r).ehu.huntCase.number) (origin := .hunt) (by simp)
  rw [State.concludeWithHold_eq]
  refine h.notify ?_ .hunt
  exact h.sameCourse placed rfl rfl rfl rfl rfl rfl

theorem concludeNarrowed (hs : Loose P s) (quiet : o → s.ehu.huntCase.step = none) (r : ResultKind) :
    P (s.concludeNarrowed r) := h.concludeWithHold hs quiet r _ _

theorem isolateFound (hs : P s) (k : SwitchNo) : P (s.isolateFound k) := by
  have asked := h.requestByBlock hs k (.hunt .toOpen)
  unfold State.isolateFound
  split
  · split
    next e => rw [e] at asked; exact h.nameLeftOpen asked k _
    next e => rw [e] at asked; exact asked
  · exact hs

theorem raiseSuspicion (hs : P s) (z : ZoneSet) : P (s.raiseSuspicion z) :=
  h.same hs (by unfold State.ground State.raiseSuspicion; rfl) (by unfold State.raiseSuspicion; rfl)
    (by unfold State.raiseSuspicion; rfl) (by unfold State.raiseSuspicion; rfl)

theorem concludeFound (hs : Loose P s) (quiet : o → s.ehu.huntCase.step = none) (k : SwitchNo) : P (s.concludeFound k) := by
  have found := h.concludeWithHold hs quiet .found .noClose (s.segment k)
  have named : P { s.concludeWithHold .found .noClose (s.segment k) with ehu.huntCase.found := some k } :=
    h.sameCourse found rfl rfl rfl rfl rfl rfl
  exact h.isolateFound (h.raiseSuspicion named _) k

theorem concludeByCandidates (hs : Loose P s) (quiet : o → s.ehu.huntCase.step = none) : P s.concludeByCandidates := by
  unfold State.concludeByCandidates
  split
  · exact h.concludeFound hs quiet _
  · exact h.concludeNarrowed hs quiet _

/-! ### The steps (R139 to R145) -/

theorem beginStep (hs : Loose P s) (window : o → s.ehu.huntCase.listen = .stopped) (k : SwitchNo) : P (s.beginStep k) := by
  unfold State.beginStep
  refine h.requestByBlock ?_ _ _
  exact h.tie hs (fun x => by simp [HuntCase.orderly, window x]) rfl rfl rfl

theorem choose (hs : Loose P s) (quiet : o → s.ehu.huntCase.step = none) (window : o → s.ehu.huntCase.listen = .stopped) :
    P s.choose := by
  unfold State.choose
  split
  · exact h.concludeFound hs quiet _
  · split
    · exact h.concludeNarrowed hs quiet _
    · split
      · exact h.concludeNarrowed hs quiet _
      · exact h.beginStep hs window _

theorem afterStep (hs : Loose P s) (quiet : o → s.ehu.huntCase.step = none) (window : o → s.ehu.huntCase.listen = .stopped)
    (k : SwitchNo) (out : StepOutcome) (own : OwnCourse) : P (s.afterStep k out own) := by
  unfold State.afterStep
  split
  · exact h.concludeAbandoned hs quiet _
  · exact h.concludeByCandidates hs quiet
  · exact h.concludeNarrowed hs quiet _
  · split
    · exact h.suspendCase hs quiet _
    · split
      · exact h.suspendCase hs quiet _
      · exact h.choose hs quiet window

theorem endStep (hs : P s) (window : o → s.ehu.huntCase.listen = .stopped) (k : SwitchNo) (out : StepOutcome)
    (own : OwnCourse) : P (s.endStep k out own) := by
  obtain ⟨step, listen⟩ := s.ehu.huntCase.closeStep_course k out
  unfold State.endStep
  refine h.afterStep ?_ (fun _ => ?_) (fun x => ?_) k out own
  · exact h.loosely hs rfl rfl rfl
  · exact step
  · exact listen.trans (window x)

theorem endStep_nameLeftOpen (hs : P s) (window : o → s.ehu.huntCase.listen = .stopped) (k : SwitchNo) (r : LeftOpenReason)
    (out : StepOutcome) (own : OwnCourse) : P ((s.nameLeftOpen k r).endStep k out own) :=
  h.endStep (h.nameLeftOpen hs k r) (fun x => (HuntCase.nameLeftOpen_course _ k r).2.2.trans (window x)) k out own

theorem closeBackHeld (hs : P s) (window : o → s.ehu.huntCase.listen = .stopped) (k : SwitchNo) (out : StepOutcome)
    (failed : Bool) : P (s.closeBackHeld k out failed) := h.endStep_nameLeftOpen hs window k _ _ _

theorem askCloseBack (hs : P s) (under : o → s.ehu.huntCase.state = .stepping) (k : SwitchNo) (out : StepOutcome) :
    P (s.askCloseBack k out) := by
  have closing : P { s with ehu.huntCase.step := some ⟨k, .closingBack, some out⟩ } := by
    refine h.caseMoves hs (fun x => ⟨by simp [under x], fun run => ?_⟩) rfl rfl rfl
    exact absurd (h.listenStopped hs (by simp [under x]) x) run
  have asked := h.requestByBlock closing k (.hunt .toClose)
  have step := State.requestByBlock_step { s with ehu.huntCase.step := some ⟨k, .closingBack, some out⟩ } k (.hunt .toClose)
  unfold State.askCloseBack
  dsimp only
  generalize State.requestByBlock _ k (.hunt .toClose) = answer at asked step
  obtain ⟨v, a⟩ := answer
  have window : o → v.ehu.huntCase.listen = .stopped := h.listenStopped_of_step asked (by rw [step]; rfl)
  cases a with
  | taken => exact asked
  | already => exact h.endStep asked window k _ _
  | failed => exact h.closeBackHeld asked window k _ _
  | busy => exact h.closeBackHeld asked window k _ _
  | unconfigured => exact h.closeBackHeld asked window k _ _

theorem applyOutcome (hs : P s) (under : o → s.ehu.huntCase.state = .stepping) (k : SwitchNo) (out : StepOutcome) :
    P (s.applyOutcome k out) := by
  have inside : ∀ f, o → (s.ehu.huntCase.eliminate f).state = .stepping :=
    fun f x => (HuntCase.eliminate_course _ f).1.trans (under x)
  have window : ∀ f, o → (s.ehu.huntCase.eliminate f).listen = .stopped :=
    fun f x => (HuntCase.eliminate_course _ f).2.trans (h.listenStopped hs (by simp [under x]) x)
  unfold State.applyOutcome
  split
  · exact h.askCloseBack hs under k _
  · split
    · exact h.askCloseBack (h.eliminated hs _) (inside _) k _
    · dsimp only
      split
      · exact h.askCloseBack (h.eliminated hs _) (inside _) k _
      · exact h.endStep_nameLeftOpen (h.eliminated hs _) (window _) k _ _ _
    · exact h.askCloseBack hs under k _
    · exact h.askCloseBack hs under k _

theorem openEnded (hs : P s) (under : s.ehu.huntCase.step.isSome = true) (k : SwitchNo) (res : OpResult) :
    P (s.openEnded k res) := by
  have window : o → s.ehu.huntCase.listen = .stopped := h.listenStopped_of_step hs under
  cases res with
  | done => exact h.sameCourse hs rfl under.symm rfl rfl rfl rfl
  | already => exact h.endStep hs window k _ _
  | cancelled => exact h.endStep hs window k _ _
  | refusedByUnit r => exact h.endStep hs window k _ _
  | noAnswer => exact h.endStep_nameLeftOpen hs window k _ _ _
  | heldAtDispatch g => exact hs
  | preEmpted => exact hs
  | noMove =>
    unfold State.openEnded
    dsimp only
    split
    · exact h.endStep_nameLeftOpen hs window k _ _ _
    · exact h.endStep hs window k _ _

theorem closeBackEnded (hs : P s) (under : s.ehu.huntCase.step.isSome = true) (k : SwitchNo) (out : StepOutcome)
    (res : OpResult) : P (s.closeBackEnded k out res) := by
  have window : o → s.ehu.huntCase.listen = .stopped := h.listenStopped_of_step hs under
  cases res with
  | done => exact h.endStep hs window k _ _
  | already => exact h.endStep hs window k _ _
  | cancelled => exact h.closeBackHeld hs window k _ _
  | heldAtDispatch g => exact h.closeBackHeld hs window k _ _
  | refusedByUnit r => exact h.closeBackHeld hs window k _ _
  | noAnswer => exact h.closeBackHeld hs window k _ _
  | noMove => exact h.closeBackHeld hs window k _ _
  | preEmpted => exact hs

theorem huntResult (hs : P s) (k : SwitchNo) (q : OpRequest) (res : OpResult) (changed : Bool) :
    P (s.huntResult k q res changed) := by
  unfold State.huntResult
  split
  · exact hs
  next e =>
    have under : s.ehu.huntCase.step.isSome = true := by rw [e]; rfl
    split
    · split
      · exact h.disturb hs
      · exact hs
    · split
      · exact hs
      · split
        · exact h.openEnded hs under k _
        · exact h.closeBackEnded hs under k _ _
        · exact hs

theorem huntTrip (hs : P s) (k : SwitchNo) : P (s.huntTrip k) := by
  unfold State.huntTrip
  exact h.causeArises hs _

/-! ### The end of an operation and the frames of a unit (R83 to R102) -/

theorem endRequest (hs : P s) (k : SwitchNo) (q : OpRequest) (res : OpResult) : P (s.endRequest k q res) :=
  h.huntResult (h.endInSlot hs k q res) k q res false

theorem cancelClose (hs : P s) (k : SwitchNo) : P (s.cancelClose k) := by
  unfold State.cancelClose
  split
  · exact h.endRequest (h.setRuntime hs _ _) k _ _
  · exact hs

theorem endOperation (hs : P s) (k : SwitchNo) (q : OpRequest) (res : OpResult) (p : Position) :
    P (s.endOperation k q res p) := by
  unfold State.endOperation
  dsimp only
  have recorded := h.setRuntime hs k
  split
  · refine h.cancelClose (h.huntResult ?_ k q res _) k
    split
    · exact h.endInSlot (recorded _) k q res
    · exact h.conditionReport (h.endInSlot (recorded _) k q res) k
  · refine h.huntResult ?_ k q res _
    split
    · exact h.endInSlot (recorded _) k q res
    · exact h.conditionReport (h.endInSlot (recorded _) k q res) k

theorem reportPosition (hs : P s) (k : SwitchNo) (p : Pole) (changed : Bool) : P (s.reportPosition k p changed) :=
  h.huntPosition (h.told (State.rcsPosition_told s k p) hs) k p changed

theorem takeResidual (hs : P s) (k : SwitchNo) (p : Pole) (raw : Option (BitVec 16)) : P (s.takeResidual k p raw) := by
  unfold State.takeResidual
  split
  · split
    · exact h.residualReport (h.setRuntime hs _ _) k _ _ p
    · exact hs
  · exact hs

theorem freeLink (hs : P s) : P s.freeLink := h.same hs rfl rfl rfl rfl
theorem transmit (hs : P s) (k : SwitchNo) (kind : AwaitedKind) (m : OutMessage) : P (s.transmit k kind m) :=
  h.same hs rfl rfl rfl rfl

theorem hear (hs : P s) (k : SwitchNo) : P (s.hear k) := by
  unfold State.hear
  split
  · exact h.setCondition hs k _
  · exact hs

theorem operateAnswered (hs : P s) (k : SwitchNo) (accepted : Bool) (reason : Byte) : P (s.operateAnswered k accepted reason) := by
  unfold State.operateAnswered
  dsimp only
  split
  · exact hs
  · split
    · exact h.setRuntime hs _ _
    · exact h.endOperation hs k _ _ _

theorem profileAnswered (hs : P s) (k : SwitchNo) (code : Nat) (accepted : Bool) : P (s.profileAnswered k code accepted) := by
  unfold State.profileAnswered
  dsimp only
  split
  · split
    · split
      · exact h.setRuntime hs _ _
      · exact h.setRuntime hs _ _
    · exact h.setRuntime hs _ _
  · exact h.notify (h.setRuntime hs _ _) _

theorem takeAnswer (hs : P s) (k : SwitchNo) (accepted : Bool) (reason : Byte) : P (s.takeAnswer k accepted reason) := by
  have heard := h.hear hs k
  unfold State.takeAnswer
  dsimp only
  split
  · exact h.operateAnswered (h.freeLink heard) k _ _
  · exact h.profileAnswered (h.freeLink heard) k _ _
  · exact heard

theorem retryPush (hs : P s) (k : SwitchNo) : P (s.retryPush k) := by
  unfold State.retryPush
  dsimp only
  split
  · exact h.setRuntime hs _ _
  · exact hs

/-- The state after an awaited poll is answered. -/
theorem answeredPoll (hs : P s) (b : Bool) : P (if b = true then s.freeLink else s) := by
  split
  · exact h.freeLink hs
  · exact hs

/-- The position a STATE gives, with the operation it ends (R86, R88). -/
theorem statePosition (hs : P s) (k : SwitchNo) (p : Pole) :
    P (match s.moveAwaited k with
      | some q => (s.endOperation k q (moveResult q.action p) (poleOf p)).reportPosition k p false
      | none =>
        (s.setRuntime k { s.runtime k with position := poleOf p }).reportPosition k p ((s.runtime k).position != poleOf p)) := by
  split
  · exact h.reportPosition (h.endOperation hs k _ _ _) k p _
  · exact h.reportPosition (h.setRuntime hs _ _) k p _

theorem takeState (hs : P s) (k : SwitchNo) (p : Pole) (raw : Option (BitVec 16)) : P (s.takeState k p raw) := by
  have heard := h.hear hs k
  unfold State.takeState
  refine h.takeResidual ?_ k p raw
  dsimp only
  split
  · exact h.retryPush (h.statePosition (h.answeredPoll heard _) k p) k
  · exact h.statePosition (h.answeredPoll heard _) k p

theorem takeTrip (hs : P s) (k : SwitchNo) (c : FaultClass) : P (s.takeTrip k c) := by
  unfold State.takeTrip
  dsimp only
  have heard := h.hear hs k
  refine h.huntTrip ?_ k
  have tripped : P ((match (s.hear k).moveAwaited k with
      | some q => (s.hear k).endOperation k q .done .opened
      | none => (s.hear k).setRuntime k { (s.hear k).runtime k with position := .opened }).rcsTrip k c) := by
    refine h.told (State.rcsTrip_told _ k c) ?_
    split
    · exact h.endOperation heard k _ _ _
    · exact h.setRuntime heard _ _
  split
  · exact h.huntPosition tripped k _ _
  · exact tripped

theorem takeInbound (hs : P s) (k : SwitchNo) (m : Inbound) : P (s.takeInbound k m) := by
  cases m with
  | answer a r => exact h.takeAnswer hs k a r
  | state p r => exact h.takeState hs k p r
  | trip c => exact h.takeTrip hs k c

theorem fallSilent (hs : P s) (k : SwitchNo) : P (s.fallSilent k) := by
  unfold State.fallSilent
  split
  · exact h.setCondition hs k _
  · exact hs

theorem noReply (hs : P s) (a : Awaited) : P (s.noReply a) := by
  have free := h.freeLink hs
  unfold State.noReply
  dsimp only
  split
  · exact free
  · split
    · split
      · exact h.endOperation free _ _ _ _
      · exact free
    · exact h.notify (h.fallSilent (h.setRuntime free _ _) _) _
    · exact h.fallSilent free _

theorem noMove (hs : P s) (k : SwitchNo) : P (s.noMove k) := by
  unfold State.noMove
  split
  · exact h.endOperation hs k _ _ _
  · exact hs

/-! ### The arbiter (R94 to R98) -/

theorem sendOperate (hs : P s) (k : SwitchNo) (q : OpRequest) : P (s.sendOperate k q) :=
  h.transmit (h.setRuntime hs _ _) _ _ _

theorem pickOperation (hs : P s) (k : SwitchNo) (q : OpRequest) : P (s.pickOperation k q) := by
  unfold State.pickOperation
  dsimp only
  split
  · exact h.endRequest (h.setRuntime hs _ _) k _ _
  · split
    · exact h.sendOperate hs k q
    · split
      · exact h.sendOperate hs k q
      · exact h.endRequest (h.setRuntime hs _ _) k _ _

theorem pickPush (hs : P s) (k : SwitchNo) : P (s.pickPush k) := by
  unfold State.pickPush
  split
  · exact h.transmit (h.setRuntime hs _ _) _ _ _
  · exact h.setRuntime hs _ _

theorem serveClaim (hs : P s) (c : Claim) : P (s.serveClaim c) := by
  cases c with
  | operation k q => exact h.pickOperation hs k q
  | push k => exact h.pickPush hs k
  | poll k c => exact h.transmit (h.setRuntime hs _ _) _ _ _

theorem arbitrateFor (n : Nat) (hs : P s) : P (State.arbitrateFor n s) := by
  induction n generalizing s with
  | zero => exact hs
  | succ n ih =>
    unfold State.arbitrateFor
    split
    · exact hs
    · split
      · exact hs
      · exact ih (h.serveClaim hs _)

theorem arbitrate (hs : P s) : P s.arbitrate := by
  unfold State.arbitrate
  split
  · exact h.arbitrateFor 64 hs
  · exact hs

theorem deadTimeExpired (hs : P s) (k : SwitchNo) : P (s.deadTimeExpired k) := by
  have asked := h.requestByBlock hs k ⟨.toClose, { reclose := true }⟩
  unfold State.deadTimeExpired
  dsimp only
  split
  · split
    · exact h.told (State.lockOut_told s k _) hs
    · exact h.told (State.recloseAnswered_told _ k _ _) asked
  · exact hs

/-! ### The FIRE holds (R74, R75, R78, R80) -/

theorem retireFire (hs : P s) (d : DistrictNo) : P (s.retireFire d) := by
  unfold State.retireFire
  split
  · exact hs
  · refine h.dropFire ?_
    split
    · exact h.departHold hs _
    · exact hs

theorem adjustFire (hs : P s) (d : DistrictNo) : P (s.adjustFire d) := by
  unfold State.adjustFire
  dsimp only
  split
  next ban =>
    split
    · exact h.placeFire hs (by simpa using ban)
    · exact hs
  next => exact h.retireFire hs d

theorem reconcileFire (hs : P s) (d : DistrictNo) : P (s.reconcileFire d) := by
  unfold State.reconcileFire
  dsimp only
  split
  next ban =>
    split
    · exact h.placeFire hs (by simp at ban; exact ban.1)
    · exact hs
  next => exact h.retireFire hs d

theorem rederiveFire (hs : P s) (d : DistrictNo) : P (s.rederiveFire d) := by
  unfold State.rederiveFire
  dsimp only
  split
  next ban =>
    have level : (s.district d).effective = .ban := by simp at ban; exact ban.1
    split
    · exact h.placeFire hs level
    · split
      · exact hs
      · refine h.placeFire (h.retireFire hs d) ?_
        rw [← level]
        exact congrArg (·.2.1) (State.view_district (State.retireFire_view s d) d)
  next => exact h.retireFire hs d

end
end KeptBase
end Sys2Proof.Machine
end

section
/-! What keeps an invariant, continued: the settings, supervision, the starts and the requests (chapters 1 to 5, 9 and 10). -/

namespace Sys2Proof.Machine

/-! ### The level of every district set -/

theorem foldl_loseDistrict (l : List DistrictNo) (s : State) :
    ∃ q, l.foldl State.loseDistrict s = { s with rqi := q } := by
  induction l generalizing s with
  | nil => exact ⟨s.rqi, rfl⟩
  | cons d l ih =>
    obtain ⟨q, e⟩ := ih (s.loseDistrict d)
    exact ⟨q, by rw [List.foldl_cons, e]; rfl⟩

/-- Item 1 of R73: the levels, and the reservations lost. -/
theorem State.setLevels_eq (s : State) : ∃ q, s.setLevels = { s.withLevels with rqi := q } := foldl_loseDistrict _ _

/-- TFB sampled and staging closed, as the FSU starts (R78). -/
def State.tfbSampled (s : State) : State := { s with fsu.tfb := s.lines.tfb, fsu.staging := none }

/-- The FSU's start: TFB sampled, every level set, the FIRE holds, and then the thresholds and the profiles (R78). -/
theorem State.fsuStart_eq (s : State) : ∃ q, s.fsuStart =
    let w := (allDistricts.foldl State.reconcileFire { s.tfbSampled.withLevels with rqi := q }).handThresholds
    w.reviewProfiles w.configuredSwitches := by
  unfold State.fsuStart
  dsimp only
  split
  · exact ⟨s.rqi, rfl⟩
  · exact ⟨_, rfl⟩

/-- A state whose settings are those of `s`. -/
theorem State.Redeclared.refl (s : State) : s.Redeclared s := ⟨rfl, rfl, rfl, rfl, id, fun _ _ h => .inl ⟨h, rfl⟩⟩

/-- The handle the table holds for a district names its live FIRE hold. -/
theorem State.fireHoldOf_live {s : State} {d : DistrictNo} {x : Handle} (h : s.fireHoldOf d = some x) :
    ∃ r, s.liveHold x = some r ∧ r.origin = .fire ∧ r.cause = some (.district d) := by
  unfold State.fireHoldOf at h
  obtain ⟨i, head, rfl⟩ := Option.map_eq_some_iff.mp h
  have mem := List.mem_of_mem_head? head
  obtain ⟨-, test⟩ := List.mem_filter.mp mem
  obtain ⟨r, live, test⟩ := Option.any_eq_true _ _ |>.mp test
  simp only [Bool.and_eq_true, beq_iff_eq] at test
  exact ⟨r, by simpa [State.liveHold, State.handleAt] using live, test⟩

/-! ### Sequences that do not run -/

theorem foldl_seqStart_frame (l : List SwitchNo) (s : State) :
    (l.foldl State.seqStart s).ground = s.ground ∧ (l.foldl State.seqStart s).ehu = s.ehu := by
  induction l generalizing s with
  | nil => exact ⟨rfl, rfl⟩
  | cons k l ih =>
    obtain ⟨hg, he⟩ := ih (s.seqStart k)
    have one : (s.seqStart k).ground = s.ground ∧ (s.seqStart k).ehu = s.ehu := by
      unfold State.seqStart
      dsimp only
      split <;> exact ⟨rfl, rfl⟩
    exact ⟨hg.trans one.1, he.trans one.2⟩

theorem State.seqStart_seq (s : State) (k j : SwitchNo) : (s.seqStart k).seq j = if j = k then (s.seqStart k).seq k else s.seq j := by
  unfold State.seqStart
  dsimp only
  split
  all_goals
    simp only [State.seq_of_rcs (State.notify_rcs _ _), State.putSeq_seq]
    split <;> simp

theorem State.seqStart_running (s : State) (k : SwitchNo) : ((s.seqStart k).seq k).state.running = false := by
  unfold State.seqStart
  dsimp only
  split
  all_goals
    simp only [State.seq_of_rcs (State.notify_rcs _ _), State.putSeq_seq, if_true]
    split <;> rfl

theorem foldl_seqStart_running (l : List SwitchNo) (s : State) (k : SwitchNo)
    (h : k ∈ l ∨ (s.seq k).state.running = false) : ((l.foldl State.seqStart s).seq k).state.running = false := by
  induction l generalizing s with
  | nil => simpa using h
  | cons j l ih =>
    refine ih (s.seqStart j) ?_
    by_cases e : k = j
    · subst e; exact .inr (State.seqStart_running s k)
    · rw [State.seqStart_seq, if_neg e]
      simpa [e] using h

theorem mem_allSwitches (k : SwitchNo) : k ∈ allSwitches := List.mem_finRange k
theorem mem_allSlots (i : SlotNo) : i ∈ allSlots := List.mem_finRange i
theorem mem_allDistricts (d : DistrictNo) : d ∈ allDistricts := List.mem_finRange d

/-- The case at a start is concluded, or rests as it stood (R155). -/
theorem HuntCase.atStart_orderly {c : HuntCase} (hc : c.orderly) : c.atStart.orderly := by
  obtain ⟨step, -⟩ := hc
  unfold HuntCase.atStart
  split
  · simp [HuntCase.orderly, HuntCase.conclude]
  next closed =>
    refine ⟨?_, fun run => absurd rfl run⟩
    exact step

/-- The cold table counts its CONTINUITY hold (R43). -/
theorem State.recount_cold {s : State} (h : s.htu = Htu.cold) : s.recount = Htu.cold.counts := by
  simp only [State.recount, State.slotsWhere, State.holdAt, State.slot, h]
  rfl

/-- After the cold store the sequences and the EHU are those of a cold start. -/
theorem State.runningCounted_cold {s t : State} (hr : t.rcs = s.coldStore.rcs) (he : t.ehu = Ehu.cold) : t.runningCounted := by
  refine State.runningCounted_none (fun k => ?_) (by rw [he]; rfl)
  rw [State.seq_congr hr]
  simp [State.coldStore, State.seq, Sequence.start, SeqState.running]

namespace KeptBase

section
variable {o : Prop} {P : State → Prop} (h : KeptBase o P) {s t : State}
include h

/-! ### Leaving service, and the small operations of chapter 9 -/

theorem cancelSlot (hs : P s) (k : SwitchNo) : P (s.cancelSlot k) := by
  unfold State.cancelSlot
  split
  · exact h.endRequest (h.setRuntime hs _ _) k _ _
  · exact hs

theorem stopPolls (hs : P s) : P s.stopPolls :=
  h.same hs (by unfold State.ground State.stopPolls; rfl) (by unfold State.stopPolls; rfl) (by unfold State.stopPolls; rfl)
    (by unfold State.stopPolls; rfl)

theorem rcsLeaveService (hs : P s) : P s.rcsLeaveService :=
  foldl (P := P) (fun u k hu => h.told (State.rcsLeave_told u k) hu) _ hs

theorem leaveService (hs : P s) : P s.leaveService := by
  have abandoned : P (State.abandonCase { s with fmu.mode := .commissioning } .mode) :=
    h.abandonCase (by exact h.same hs rfl rfl rfl rfl) _
  have cancelled := foldl (P := P) (fun u k hu => h.cancelSlot hu k) allSwitches abandoned
  have left := h.rcsLeaveService (h.stopPolls cancelled)
  unfold State.leaveService
  dsimp only
  generalize State.rcsLeaveService _ = u at left
  exact h.same left rfl rfl rfl rfl

theorem withdrawRuntime (hs : P s) (k : SwitchNo) : P (s.withdrawRuntime k) := by
  have started := h.setRuntime hs k .start
  exact h.same started rfl rfl rfl rfl

theorem writeLink (hs : P s) (l : LinkSettings) : P (s.writeLink l) := h.same hs rfl rfl rfl rfl

theorem setTimeState (hs : P s) (x : TimeState) : P (s.setTimeState x) := by
  have told : P (State.notify { s with svu.timeState := x } .time) := h.notify (by exact h.same hs rfl rfl rfl rfl) _
  unfold State.setTimeState
  split
  · exact hs
  · dsimp only
    split
    · exact h.expireHolds told
    · exact told

theorem advanceMinute (hs : P s) : P s.advanceMinute := by
  have counted : P (State.recode { s with svu.minute := s.svu.minute + 1 } .minuteCount) :=
    h.recode (by exact h.same hs rfl rfl rfl rfl) _
  unfold State.advanceMinute
  dsimp only
  split
  · exact h.expireHolds counted
  · exact counted

theorem countSecond (hs : P s) : P s.countSecond := by
  unfold State.countSecond
  split
  · exact h.advanceMinute (h.same hs rfl rfl rfl rfl)
  · exact h.same hs rfl rfl rfl rfl

theorem countPulse (hs : P s) (gap : Option Nat) : P (s.countPulse gap) := by
  have counted : P (State.countSecond
      { s with svu.source := .tref, svu.pulseRun := runAfter s.svu.source s.svu.pulseRun gap }) :=
    h.countSecond (h.same hs rfl rfl rfl rfl)
  unfold State.countPulse
  dsimp only
  split
  · exact h.setTimeState counted _
  · exact counted

theorem losePulses (hs : P s) : P s.losePulses := by
  have free : P { s with svu.source := .oscillator } := h.same hs rfl rfl rfl rfl
  unfold State.losePulses
  dsimp only
  refine h.countSecond ?_
  split
  · exact h.setTimeState free _
  · exact free

theorem huntParameters (hs : P s) (p : HuntParams) : P { s with ehu.params := p } := h.same hs rfl rfl rfl rfl
theorem startCause (hs : P s) (c : StartCauseRecord) : P { s with svu.startCause := c } := h.same hs rfl rfl rfl rfl

/-! ### Faults and HALTED (R158 to R162) -/

theorem placeIntegrity (hs : P s) : P s.placeIntegrity := h.placeDevice hs _ _ _ _ (by simp)

theorem firstFault (hs : P s) : P s.firstFault := h.abandonCase (h.notify (h.placeIntegrity hs) _) _

theorem mendCause (hs : P s) : P s.mendCause := by
  unfold State.mendCause
  split
  · exact h.recode (by exact h.same hs rfl rfl rfl rfl) _
  · exact hs

theorem stopTimers (hs : P s) : P s.stopTimers := by
  refine h.move hs (by unfold State.ground State.stopTimers; rfl) (fun x => ?_)
    (State.runningCounted_congr (fun k => ?_) (by unfold State.stopTimers; rfl))
  · exact ⟨(h.orderly hs x).1, fun run => absurd rfl run⟩
  · simp [State.stopTimers, State.seq]

theorem halt (hs : P s) : P s.halt := by
  have stopped := h.stopTimers hs
  unfold State.halt
  generalize s.stopTimers = t at stopped
  exact h.same stopped rfl rfl rfl rfl

theorem secondFault (hs : P s) : P s.secondFault := by
  have mended := h.mendCause hs
  unfold State.secondFault
  dsimp only
  generalize s.mendCause = t at mended
  exact h.halt (h.notify (by exact h.same mended rfl rfl rfl rfl) _)

theorem restoreZone (hs : P s) (z : ZoneNo) : P (s.restoreZone z) := by
  have cleared : P { s with fmu.zones := s.fmu.zones.set z .cold, fmu.reachTable := none } := h.same hs rfl rfl rfl rfl
  unfold State.restoreZone
  dsimp only
  split
  · exact h.leaveService cleared
  · exact cleared

theorem restoreSwitch (hs : P s) (k : SwitchNo) : P (s.restoreSwitch k) := by
  have cleared : P (State.putSeq { s with fmu.switches := s.fmu.switches.set k none, fmu.reachTable := none } k
      { s.seq k with marker := none }) := by
    refine h.move hs rfl (fun x => h.orderly (s := s) hs x) (State.runningCounted_congr (fun j => ?_) rfl)
    rw [State.putSeq_seq]
    split
    next e => rw [e]
    next => rfl
  unfold State.restoreSwitch
  dsimp only
  refine h.withdrawRuntime ?_ k
  split
  · exact h.leaveService cleared
  · exact cleared

theorem restoreCase (hs : P s) : P s.restoreCase := by
  have cold : P { s with ehu.huntCase := .cold, ehu.settleTimer := .stopped, ehu.observeTimer := .stopped } :=
    h.caseMoves hs (fun _ => by simp [HuntCase.orderly, HuntCase.cold]) rfl rfl rfl
  exact h.notify (h.rearmWatch cold) _

theorem restoreMinute (hs : P s) : P s.restoreMinute := by
  unfold State.restoreMinute
  exact h.setTimeState (by exact h.same hs rfl rfl rfl rfl) _

theorem clearSlot (hs : P s) (i : SlotNo) : P (s.clearSlot i) := by
  unfold State.clearSlot
  split
  · dsimp only
    split
    · exact h.adjustFire (h.departHold hs i) _
    · exact h.departHold hs i
  · exact h.vacate hs

/-- The profiles and sequences of some switches reviewed, and the thresholds handed over (R73, R64). -/
theorem review (hs : P s) (ks js : List SwitchNo) : P (((s.reviewProfiles ks).reevaluateAll js).handThresholds) :=
  h.handThresholds (h.reevaluateAll (h.reviewProfiles hs ks) js)

theorem groupConsequences (hs : P s) (old : Groups) : P (s.groupConsequences old) := by
  unfold State.groupConsequences
  dsimp only
  split
  · exact hs
  · exact h.review (h.notify hs _) _ _

end
end KeptBase

namespace Kept

section
variable {o : Prop} {P : State → Prop} (h : Kept o P) {s t : State}
include h

/-! ### The settings (R68, R73, R79) -/

/-- An effective-level change from a state whose declared levels, season or TFB state have changed. -/
theorem applyLevels (hs : P s) (ht : s.Redeclared t) : P t.applyLevels := by
  obtain ⟨q, e⟩ := State.setLevels_eq t
  unfold State.applyLevels State.levelConsequences
  rw [e]
  split
  next none =>
    have quiet : t.changedDistricts = [] := by simpa using none
    have done := h.relevel (u := { t.withLevels with rqi := q }) hs ht rfl rfl id
    rwa [quiet] at done
  next =>
    exact h.review (h.relevel (u := State.notify { t.withLevels with rqi := q } .level) hs ht rfl rfl id) _ _

theorem setDeclared (hs : P s) (d : DistrictNo) (l : Level) : P (s.setDeclared d l) := by
  refine h.applyLevels hs ⟨rfl, rfl, rfl, rfl, id, fun e x hx => .inl ?_⟩
  have district : ((((s.setDistrict d { s.district d with declared := l, version := (s.district d).version + 1 }).notify
      .level).loseDistrict d).district e).fire = (s.district e).fire ∧
      ((((s.setDistrict d { s.district d with declared := l, version := (s.district d).version + 1 }).notify
      .level).loseDistrict d).district e).effective = (s.district e).effective := by
    show ((s.setDistrict d _).district e).fire = _ ∧ ((s.setDistrict d _).district e).effective = _
    rw [State.district_setDistrict]
    split
    next eq => subst eq; exact ⟨rfl, rfl⟩
    next => exact ⟨rfl, rfl⟩
  exact ⟨district.1 ▸ hx, district.2⟩

theorem restoreGroups (hs : P s) : P s.restoreGroups := by
  have cold : P { s with fsu.groups := .cold, fsu.staging := none } :=
    h.same (h.groups hs Groups.cold_monotone) rfl rfl rfl rfl
  exact h.handThresholds (h.groupConsequences cold _)

theorem restoreDistricts (hs : P s) : P s.restoreDistricts := by
  unfold State.restoreDistricts
  refine KeptBase.foldl (P := P) (fun u d hu => h.adjustFire hu d) _ (h.applyLevels hs ⟨rfl, rfl, rfl, rfl, id, fun d x hx => ?_⟩)
  refine .inr ⟨by simp [State.levelOfDistrict, State.district, effectiveOf], ?_⟩
  simp only [State.district, Vector.getElem_ofFn, Fin.eta, Fin.getElem_fin] at hx
  exact State.fireHoldOf_live hx

theorem restore (hs : P s) (r : RecordId) : P (s.restore r) := by
  unfold State.restore
  cases r with
  | slot i => exact h.clearSlot hs i
  | group l => exact h.restoreGroups hs
  | seasonDistrict => exact h.restoreDistricts hs
  | zone z => exact h.restoreZone hs z
  | switch k => exact h.restoreSwitch hs k
  | huntParameters => exact h.huntParameters hs _
  | linkSettings => exact h.writeLink hs _
  | huntCase => exact h.restoreCase hs
  | minuteCount => exact h.restoreMinute hs
  | startCause => exact h.startCause hs _

theorem takeFault (hs : P s) (r : RecordId) : P (s.takeFault r) := by
  have restored := KeptBase.foldl (P := P) (fun u x hu => h.recode hu x) (restored r) (h.restore hs r)
  unfold State.takeFault
  dsimp only
  split
  · exact h.secondFault restored
  · exact h.firstFault restored

theorem takeFaultWhole (hs : P s) (r : RecordId) : P (s.takeFaultWhole r) := by
  refine KeptBase.foldl (P := P) (fun u x hu => ?_) _ (h.takeFault hs r)
  unfold State.verifyOne
  split
  · exact h.takeFault hu x
  · exact hu

theorem verify (hs : P s) (reads : RecordId → Bool) : P (s.verify reads) := by
  unfold State.verify
  split
  · exact hs
  · refine KeptBase.foldl (P := P) (fun u x hu => ?_) _ hs
    split
    · exact h.takeFaultWhole hu x
    · exact hu

theorem verifyReads (hs : P s) (reads : RecordId → Bool) : P (s.verifyReads reads) := by
  unfold State.verifyReads
  dsimp only
  split
  · exact h.verify (h.verify hs _) _
  · exact h.verify hs _

/-! ### Starts (R166, R167) -/

theorem volatileStart (hs : P s) : P s.volatileStart := by
  refine h.move hs (by unfold State.ground State.volatileStart; rfl) (fun x => ?_) fun _ => ?_
  · exact ⟨(h.orderly hs x).1, fun run => absurd rfl run⟩
  · refine State.runningCounted_none (fun k => ?_) rfl
    simp [State.volatileStart, State.seq, Sequence.start, SeqState.running]

theorem enterReset (hs : P s) : P s.enterReset := by
  unfold State.enterReset
  split
  · exact hs
  · exact h.volatileStart hs

theorem corrupt (hs : P s) (l : List RecordId) : P (s.corrupt l) := h.same hs rfl rfl rfl rfl

theorem pollAll (hs : P s) : P s.pollAll := h.foldl_wantPoll hs _ _
theorem startPollTimers (hs : P s) : P s.startPollTimers := h.same hs rfl rfl rfl rfl

theorem souStart (hs : P s) : P s.souStart := by
  unfold State.souStart
  split
  · exact h.startPollTimers (h.pollAll hs)
  · exact hs

/-- The sequences and the EHU at a start: none runs, and none is counted. -/
theorem ehuStart (hs : P s) : P (allSwitches.foldl State.seqStart s).ehuStart := by
  obtain ⟨ground, ehu⟩ := foldl_seqStart_frame allSwitches s
  have none : ∀ k, ((allSwitches.foldl State.seqStart s).seq k).state.running = false :=
    fun k => foldl_seqStart_running allSwitches s k (.inl (mem_allSwitches k))
  generalize allSwitches.foldl State.seqStart s = t at ground ehu none
  have started : P { t with
      ehu := { Ehu.cold with params := t.ehu.params, thresholds := t.ehu.thresholds, huntCase := t.ehu.huntCase.atStart } } := by
    refine h.move hs ground (fun x => HuntCase.atStart_orderly ?_) fun _ => State.runningCounted_none none rfl
    rw [ehu]
    exact h.orderly hs x
  unfold State.ehuStart
  dsimp only
  split
  · exact h.notify started _
  · exact started

/-- What follows the FIRE holds in the FSU's start (R78). -/
theorem fsuStart_ends (hs : P s) : P (s.handThresholds.reviewProfiles s.handThresholds.configuredSwitches) :=
  h.reviewProfiles (h.handThresholds hs) _

theorem fsuStart (hs : P s) : P s.fsuStart := by
  obtain ⟨q, e⟩ := s.fsuStart_eq
  rw [e]
  exact h.fsuStart_ends (h.startLevels (t := s.tfbSampled) hs ⟨rfl, rfl, rfl, rfl, id, fun _ _ hx => .inl ⟨hx, rfl⟩⟩ rfl rfl id)

theorem blocksStart (hs : P s) : P s.blocksStart := by
  have counted : P { s with
      htu.counts := s.recount, fmu.reachTable := if s.fmu.mode = FeederMode.service then some s.fmu.buildReach else none } :=
    h.same (h.recount hs) rfl rfl rfl rfl
  unfold State.blocksStart
  exact h.ehuStart (h.souStart (h.fsuStart counted))

theorem verifyStore (hs : P s) : P s.verifyStore := h.verify (h.recount hs) _

theorem takeHaltMark (hs : P s) : P s.takeHaltMark := by
  have placed : P (if s.integrityExists then s else s.placeIntegrity) := by
    split
    · exact hs
    · exact h.placeIntegrity hs
  unfold State.takeHaltMark
  generalize (if s.integrityExists then s else s.placeIntegrity) = t at placed
  split
  · exact h.notify (by exact h.same placed rfl rfl rfl rfl) _
  · exact hs

theorem finishStart (hs : P s) : P s.finishStart := h.notify (by exact h.same hs rfl rfl rfl rfl) _

theorem onPorts (hs : P s) (f : PortRecord → PortRecord) : P (s.onPorts f) := h.same hs rfl rfl rfl rfl

theorem beginStart (hs : P s) (c : StartCause) : P (s.beginStart c) := by
  have begun := h.onPorts (h.volatileStart hs) (fun p => { p with notices := {} })
  unfold State.beginStart
  dsimp only
  split
  · exact h.same (h.verify begun _) rfl rfl rfl rfl
  · exact h.same begun rfl rfl rfl rfl

/-- The FSU's start from the cold records. -/
theorem fsuStart_cold {c : State} (hs : P s) (queue : c.pending = s.pending) (settings : c.fsu = { Fsu.cold with tfb := c.fsu.tfb })
    (table : c.htu = Htu.cold) (rcs : c.rcs = s.coldStore.rcs) (ehu : c.ehu = Ehu.cold) : P c.fsuStart := by
  have fsu : c.tfbSampled.fsu = { Fsu.cold with tfb := c.tfbSampled.fsu.tfb } := by
    unfold State.tfbSampled
    rw [settings]
    rfl
  obtain ⟨q, e⟩ := c.fsuStart_eq
  rw [e]
  exact h.fsuStart_ends (h.coldLevels (t := c.tfbSampled) hs queue fsu table rfl (congrArg Ehu.huntCase ehu)
    (State.runningCounted_cold rcs ehu))

/-- A start without the validity marker: from the cold records, whatever stood before. -/
theorem coldStart (hs : P s) : P s.coldStore.blocksStart := by
  have table : ({ s.coldStore.htu with counts := s.coldStore.recount } : Htu) = Htu.cold := by
    rw [State.recount_cold rfl]
    rfl
  unfold State.blocksStart
  exact h.ehuStart (h.souStart (h.fsuStart_cold hs rfl rfl table rfl rfl))

theorem takeStart (hs : P s) : P s.takeStart := by
  have begun := h.beginStart hs s.causeOfStart
  unfold State.takeStart
  dsimp only
  split
  · split
    · exact h.verifyStore begun
    · exact h.finishStart (h.takeHaltMark (h.blocksStart (h.verifyStore begun)))
  · exact h.finishStart (h.coldStart begun)

theorem startIfReleased (hs : P s) : P s.startIfReleased := by
  unfold State.startIfReleased
  split
  · exact hs
  · exact h.takeStart hs

end
end Kept
end Sys2Proof.Machine
end

section
/-! What keeps an invariant, continued: the requests and the commands (chapters 3, 10 and 12). -/

namespace Sys2Proof.Machine

/-- An amendment keeps the origin and the cause of a hold (R20). -/
theorem AmendChanges.apply_origin {c : AmendChanges} {r n : Hold} {tag : Option OwnerTag} {m : Minute}
    (h : c.apply r tag m = some n) : n.origin = r.origin ∧ n.cause = r.cause := by
  unfold AmendChanges.apply at h
  dsimp only at h
  split at h
  · cases h
  · split at h
    · cases h
    · cases h; exact ⟨rfl, rfl⟩
  · cases h; exact ⟨rfl, rfl⟩

/-- A hold that a handle names stands in the handle's slot. -/
theorem State.holdAt_of_liveHold {s : State} {x : Handle} {r : Hold} (h : s.liveHold x = some r) : s.holdAt x.slot = some r := by
  unfold State.liveHold at h
  split at h
  · exact h
  · cases h

/-! ### The requests that answer from the records alone -/

theorem State.readZone_state (s : State) (z : Nat) : (s.readZone z).1 = s := by
  unfold State.readZone
  split <;> rfl

theorem State.readHold_state (s : State) (f : HandleField) : (s.readHold f).1 = s := by
  unfold State.readHold
  split <;> rfl

theorem State.listHolds_state (s : State) (i : Nat) (z : Option Nat) (x : Option (Choice Origin)) : (s.listHolds i z x).1 = s := by
  unfold State.listHolds
  split <;> rfl

theorem State.checkClose_state (s : State) (k : Nat) (c : Choice CloseKind) : (s.checkClose k c).1 = s := by
  unfold State.checkClose
  split
  · split <;> rfl
  · rfl

theorem State.readGroup_state (s : State) (g : Choice Level) (b : Bool) : (s.readGroup g b).1 = s := by
  unfold State.readGroup
  split <;> rfl

namespace Kept

section
variable {o : Prop} {P : State → Prop} (h : Kept o P) {s t : State}
include h

/-! ### The requests of the feeder model -/

theorem readSwitch (hs : P s) (k : Nat) : P (s.readSwitch k).1 := by
  unfold State.readSwitch
  split
  · exact hs
  · dsimp only
    split
    · exact h.same hs rfl rfl rfl rfl
    · exact hs

theorem widen (hs : P s) (i : SlotNo) : P (s.widen i) := by
  unfold State.widen
  split
  · exact hs
  next e => exact h.loseReservations (by exact h.edit hs e rfl rfl) _

theorem widenAll (hs : P s) : P s.widenAll.1 := by
  have widened := KeptBase.foldl (P := P) (fun u i hu => h.widen hu i) (s.slotsWhere (·.widens)) hs
  unfold State.widenAll
  dsimp only
  split
  · exact widened
  · exact h.notify widened _

theorem loadZones (hs : P s) (l : List ZoneLoad) : P (s.loadZones l).1 := by
  unfold State.loadZones
  split
  · exact hs
  · split
    · exact hs
    · split
      · exact hs
      · split
        · exact hs
        next zones _ =>
          have loaded : P { s with fmu.zones := loadedZones zones, fmu.reachTable := none } := h.same hs rfl rfl rfl rfl
          exact h.handThresholds (h.widenAll (KeptBase.foldl (P := P) (fun u x hu => h.recode hu x) _ loaded))

theorem writeConfig (hs : P s) (k : SwitchNo) (c : Option SwitchConfig) : P (s.writeConfig k c) :=
  h.withdrawRuntime (h.recode (by exact h.same hs rfl rfl rfl rfl) _) k

theorem configureSwitch (hs : P s) (k : Nat) (e : SwitchLoad) : P (s.configureSwitch k e).1 := by
  unfold State.configureSwitch
  split
  · exact hs
  · split
    · exact hs
    · split
      · exact hs
      · split
        · exact hs
        · exact h.writeConfig hs _ _

theorem removeSwitch (hs : P s) (k : Nat) : P (s.removeSwitch k).1 := by
  unfold State.removeSwitch
  split
  · exact hs
  · split
    · exact hs
    · split
      · exact hs
      · split
        · exact hs
        · exact h.writeConfig hs _ _

theorem intoService (hs : P s) : P s.intoService := by
  have built : P { s with fmu.reachTable := some s.fmu.buildReach, fmu.mode := .service } := h.same hs rfl rfl rfl rfl
  have derived := h.handThresholds (KeptBase.foldl (P := P) (fun u d hu => h.rederiveFire hu d) allDistricts built)
  exact KeptBase.foldl (P := P) (fun u k hu => h.setSeq hu k _) _
    (h.startPollTimers (h.reviewProfiles (h.pollAll derived) _))

theorem enterService (hs : P s) : P s.enterService.1 := by
  unfold State.enterService
  split
  · exact hs
  · split
    · exact hs
    · dsimp only
      exact h.intoService hs

theorem enterCommissioning (hs : P s) : P s.enterCommissioning.1 := by
  unfold State.enterCommissioning
  split
  · exact hs
  · split
    · exact hs
    · exact h.leaveService hs

/-! ### The requests of the hold table -/

theorem placeRequest (hs : P s) (p : Port) (b : PlaceBody) : P (s.placeRequest p b).1 := by
  unfold State.placeRequest
  split
  · exact hs
  next r _ =>
    split
    · exact hs
    next room =>
      have placed := h.place (r := r) hs fun _ => Nat.lt_of_not_le room
      split
      next e => rw [e] at placed; exact placed
      next => exact hs

theorem amendHold (hs : P s) (reservation : Option Reservation) (b : AmendBody) : P (s.amendHold reservation b).1 := by
  unfold State.amendHold
  split
  next x c _ _ =>
    split
    · exact hs
    next r live =>
      dsimp only
      split
      · exact hs
      · split
        · exact hs
        · generalize (if (c.against r).relaxes r = true then r.authority b.tag s.lines.lkey else .ok ()) = right
          cases right with
          | error code => exact hs
          | ok _ =>
            dsimp only
            split
            · exact hs
            · split
              · exact hs
              next applied =>
                obtain ⟨origin, cause⟩ := AmendChanges.apply_origin applied
                exact h.notify (h.loseReservations (h.edit hs (State.holdAt_of_liveHold live) origin cause) _) _
  next => exact hs

theorem releaseHold (hs : P s) (reservation : Option Reservation) (b : ReleaseBody) : P (s.releaseHold reservation b).1 := by
  unfold State.releaseHold
  split
  · exact hs
  · split
    · exact hs
    · split
      · exact hs
      · split
        · exact hs
        · exact h.departHold hs _

theorem dropReservation (hs : P s) (p : Port) : P (s.dropReservation p) := h.setPort hs _ _

theorem reserveHold (hs : P s) (p : Port) (f : HandleField) : P (s.reserveHold p f).1 := by
  unfold State.reserveHold
  split
  · exact h.dropReservation hs p
  · exact h.setPort hs _ _

theorem reserveLevel (hs : P s) (p : Port) (d : Nat) : P (s.reserveLevel p d).1 := by
  unfold State.reserveLevel
  split
  · exact h.dropReservation hs p
  · exact h.setPort hs _ _

/-! ### The requests of the fire settings -/

/-- A change of the staging record alone. -/
theorem staging (hs : P s) (g : Option Staging) : P { s with fsu.staging := g } := h.same hs rfl rfl rfl rfl

theorem openGroupEdit (hs : P s) (p : Port) (g : Choice Level) : P (s.openGroupEdit p g).1 := by
  unfold State.openGroupEdit
  split
  · exact hs
  · split
    · exact hs
    · exact h.staging hs _

theorem editGroup (hs : P s) (p : Port) (f : Choice GroupField) (v : GroupValue) : P (s.editGroup p f v).1 := by
  unfold State.editGroup
  split
  · exact hs
  · split
    · exact hs
    · split
      · exact hs
      · exact h.staging hs _

theorem commitGroup (hs : P s) (p : Port) : P (s.commitGroup p).1 := by
  unfold State.commitGroup
  split
  · exact hs
  · dsimp only
    split
    · exact hs
    next ordered =>
      exact h.groupConsequences (h.staging (h.groups hs ((Groups.orderFault_none _).mp ordered)) none) _

theorem discardGroupEdit (hs : P s) (p : Port) : P (s.discardGroupEdit p).1 := by
  unfold State.discardGroupEdit
  split
  · exact hs
  · split
    · exact h.staging hs _
    · exact hs

theorem declareLevel (hs : P s) (reservation : Option Reservation) (d : Nat) (l : Choice Level) (c : Bool) :
    P (s.declareLevel reservation d l c).1 := by
  unfold State.declareLevel
  split
  · split
    · exact hs
    · split
      · exact hs
      · exact h.setDeclared hs _ _
  · exact hs

theorem setSeason (hs : P s) (f : Choice Season) : P (s.setSeason f).1 := by
  unfold State.setSeason
  split
  · exact hs
  · split
    · exact hs
    · exact h.applyLevels hs ⟨rfl, rfl, rfl, rfl, id, fun _ _ hx => .inl ⟨hx, rfl⟩⟩

/-! ### The requests of the switches and of the hunt -/

theorem operateChecked (hs : P s) (p : Port) (k : SwitchNo) (a : SwitchAction) : P (s.operateChecked p k a).1 := by
  have asked := h.requestSlot hs k ⟨a, .ofPort p⟩
  unfold State.operateChecked
  split
  · exact hs
  · split
    · exact hs
    · split
      next e => rw [e] at asked; exact h.told (State.rcsAccepted_told _ k a) asked
      next e => rw [e] at asked; exact asked
      next e => rw [e] at asked; exact asked

theorem operateSwitch (hs : P s) (p : Port) (k : Nat) (a : Choice SwitchAction) : P (s.operateSwitch p k a).1 := by
  unfold State.operateSwitch
  split
  · split
    · exact hs
    · split
      · split
        · exact hs
        · exact hs
      · exact h.operateChecked (h.huntOperateTaken hs _) p _ _
  · exact hs

theorem clearFailure (hs : P s) (k : Nat) : P (s.clearFailure k).1 := by
  unfold State.clearFailure
  split
  · exact hs
  · split
    · exact hs
    · split
      · dsimp only
        split
        · exact h.wantPoll (h.setCondition hs _ _) _ _
        · exact h.setCondition hs _ _
      · exact h.setCondition hs _ _

theorem retryProfile (hs : P s) (k : Nat) : P (s.retryProfile k).1 := by
  unfold State.retryProfile
  split
  · exact hs
  · dsimp only
    split
    · exact hs
    · split
      · exact hs
      · split
        · exact hs
        · split
          · exact hs
          · split
            · exact hs
            · exact h.setRuntime hs _ _

theorem setLinkSettings (hs : P s) (f : LinkFields) : P (s.setLinkSettings f).1 := by
  unfold State.setLinkSettings
  split
  · exact hs
  · dsimp only
    split
    · exact hs
    · exact h.writeLink hs _

theorem setHuntParameters (hs : P s) (f : HuntFields) : P (s.setHuntParameters f).1 := by
  unfold State.setHuntParameters
  split
  · exact hs
  · split
    · exact hs
    · dsimp only
      split
      · exact h.retryStart (h.huntParameters hs _)
      · exact h.huntParameters hs _

theorem startHunt (hs : P s) (p : Port) (e : Option (Choice Bool)) : P (s.startHunt p e).1 := by
  unfold State.startHunt
  split
  · exact hs
  · split
    · exact hs
    · exact h.startCase hs _ _

theorem resumeHunt (hs : P s) : P s.resumeHunt.1 := by
  unfold State.resumeHunt
  dsimp only
  split
  next suspended _ =>
    split
    · exact hs
    · exact h.resumeCase (KeptBase.loose hs) (h.stepNone hs (by simp [suspended]))
  next => exact hs

theorem abandonHunt (hs : P s) : P s.abandonHunt.1 := by
  unfold State.abandonHunt
  split
  next => exact hs
  next e => exact h.concludeAbandoned (KeptBase.loose hs) (h.stepNone hs (by simp [e])) _
  next e => exact h.concludeAbandoned (KeptBase.loose hs) (h.stepNone hs (by simp [e])) _
  next =>
    split
    · exact hs
    · exact h.pendAbandon hs _
  next => exact hs

theorem closeHuntCase (hs : P s) : P s.closeHuntCase.1 := by
  unfold State.closeHuntCase
  split
  next => exact hs
  next => exact hs
  next => exact hs
  next => exact hs
  next e =>
    refine h.rearmWatch (h.caseMoves hs (fun x => ?_) rfl rfl rfl)
    have quiet := h.stepNone hs (by simp [e]) x
    have window := h.listenStopped hs (by simp [e]) x
    simp [HuntCase.orderly, HuntCase.closed, quiet, window]

/-! ### The requests of chapter 9 and 10 -/

theorem timeSetTo (hs : P s) (m : Minute) : P (s.timeSetTo m) := by
  have written : P (State.recode { s with svu.minute := m, svu.second := 0, svu.timeSet := true } .minuteCount) :=
    h.recode (by exact h.same hs rfl rfl rfl rfl) _
  unfold State.timeSetTo
  dsimp only
  generalize State.recode _ _ = t at written
  have stated : P (if s.svu.pulseRun = 3 then t.setTimeState .good else t) := by
    split
    · exact h.setTimeState written _
    · exact written
  split
  · exact h.expireHolds stated
  · exact stated

theorem setTime (hs : P s) (m : Nat) : P (s.setTime m).1 := by
  unfold State.setTime
  split
  · exact hs
  · exact h.timeSetTo hs _

theorem readStartCause (hs : P s) (c : Choice Bool) : P (s.readStartCause c).1 := by
  unfold State.readStartCause
  split
  · exact hs
  next clear _ =>
    have mended : P s.readCauseHalted := by
      unfold State.readCauseHalted
      split
      · exact h.mendCause hs
      · exact hs
    dsimp only
    split
    · exact h.startCause mended _
    · exact mended

theorem clearNotices (hs : P s) (p : Port) (n : List (Choice Notice)) (m : Option (List (Choice Notice))) :
    P (s.clearNotices p n m).1 := by
  unfold State.clearNotices
  split
  · exact h.setPort hs _ _
  · exact hs

/-- Every request of its owning block. -/
theorem carryOut (hs : P s) (p : Port) (r : Request) : P (s.carryOut p r).1 := by
  unfold State.carryOut
  cases r with
  | readZone z => dsimp only; rw [State.readZone_state]; exact hs
  | readSwitch k => exact h.readSwitch hs k
  | loadZones l => exact h.loadZones hs l
  | configureSwitch k e => exact h.configureSwitch hs k e
  | configureSwitchRemoval k => exact h.removeSwitch hs k
  | enterService => exact h.enterService hs
  | enterCommissioning => exact h.enterCommissioning hs
  | placeHold b => exact h.placeRequest hs p b
  | readHold f => dsimp only; rw [State.readHold_state]; exact hs
  | listHolds i z x => dsimp only; rw [State.listHolds_state]; exact hs
  | amendHold b => exact h.amendHold hs _ b
  | releaseHold b => exact h.releaseHold hs _ b
  | checkClose k c => dsimp only; rw [State.checkClose_state]; exact hs
  | reserveHold f => exact h.reserveHold hs p f
  | reserveLevel d => exact h.reserveLevel hs p d
  | openGroupEdit g => exact h.openGroupEdit hs p g
  | editGroup f v => exact h.editGroup hs p f v
  | commitGroup => exact h.commitGroup hs p
  | discardGroupEdit => exact h.discardGroupEdit hs p
  | readGroup g b => dsimp only; rw [State.readGroup_state]; exact hs
  | declareLevel d l c => exact h.declareLevel hs _ d l c
  | setSeason f => exact h.setSeason hs f
  | readLevels => exact hs
  | operateSwitch k a => exact h.operateSwitch hs p k a
  | clearSwitchFailure k => exact h.clearFailure hs k
  | retryProfile k => exact h.retryProfile hs k
  | setLinkSettings f => exact h.setLinkSettings hs f
  | setHuntParameters f => exact h.setHuntParameters hs f
  | startHunt e => exact h.startHunt hs p e
  | readHunt => exact hs
  | resumeHunt => exact h.resumeHunt hs
  | abandonHunt => exact h.abandonHunt hs
  | closeHuntCase => exact h.closeHuntCase hs
  | setTime m => exact h.setTime hs m
  | readTime => exact hs
  | readStartCause c => exact h.readStartCause hs c
  | readStatus => exact hs
  | readNotices => exact hs
  | clearNotices n m => exact h.clearNotices hs p n m
  | identify => exact hs

theorem refuseEarly (hs : P s) (p : Port) (r : Request) (c : Code) : P (s.refuseEarly p r c).1 := by
  unfold State.refuseEarly
  dsimp only
  split
  · exact h.dropReservation hs p
  · exact hs

theorem judge (hs : P s) (p : Port) (r : Request) : P (s.judge p r).1 := by
  have read : P (if s.svu.halted = true then s else s.verifyReads (requestReads r)) := by
    split
    · exact hs
    · exact h.verifyReads hs _
  unfold State.judge
  split
  · exact h.refuseEarly hs p r _
  · split
    · exact h.refuseEarly hs p r _
    · dsimp only
      generalize (if s.svu.halted = true then s else s.verifyReads (requestReads r)) = t at read
      refine iteInduction (motive := fun x : State × Completion => P x.1) (fun _ => ?_) fun _ => ?_
      · exact h.refuseEarly read p r _
      · exact h.carryOut read p r

theorem takeRequest (hs : P s) (p : Port) (r : Request) : P (s.takeRequest p r).1 := by
  have judged := h.judge hs p r
  unfold State.takeRequest
  dsimp only
  split
  · exact h.dropReservation judged p
  · exact judged

theorem respond (hs : P s) (p : Port) (b : Byte) (c : Completion) : P (s.respond p b c) := h.setPort hs _ _

theorem takeFrame (hs : P s) (p : Port) (f : Frame) : P (s.takeFrame p f) := by
  cases f with
  | malformed code => exact h.respond hs p code _
  | request r =>
    have answered := h.respond (h.takeRequest hs p r) p (requestCode r) (s.takeRequest p r).2
    unfold State.takeFrame
    dsimp only
    split
    · exact answered
    · exact h.arbitrate answered

theorem frameArrives (hs : P s) (p : Port) (f : Frame) : P (s.frameArrives p f) := by
  unfold State.frameArrives
  split
  · exact hs
  · dsimp only
    split
    · exact h.setPort hs _ _
    · split
      · exact h.setPort hs _ _
      · exact h.takeFrame (h.setPort hs _ _) p f

theorem responseEnds (hs : P s) : P s.responseEnds := by
  unfold State.responseEnds
  dsimp only
  split
  · exact hs
  · split
    · exact h.setPort hs _ _
    · exact h.takeFrame (h.setPort hs _ _) _ _

theorem readOut (hs : P s) (whole : Bool) : P (s.readOut whole) := by
  unfold State.readOut
  dsimp only
  split
  · exact hs
  · split
    · exact h.setPort (by exact h.same hs rfl rfl rfl rfl) _ _
    · exact h.same hs rfl rfl rfl rfl

/-! ### The events -/

theorem event (hs : P s) (reads : RecordId → Bool) {f : State → State} (hf : ∀ u, P u → P (f u)) : P (s.event reads f) := by
  have read := h.verifyReads hs reads
  unfold State.event
  split
  · dsimp only
    refine h.arbitrate ?_
    split
    · exact read
    · exact hf _ read
  · exact hs

theorem fromUnit (hs : P s) (a : Byte) {f : State → SwitchNo → State} (hf : ∀ u k, P u → P (f u k)) : P (s.fromUnit a f) := by
  have read := h.verifyReads hs isSwitch
  unfold State.fromUnit
  split
  · dsimp only
    split
    · split
      · exact h.arbitrate read
      · exact read
    · refine h.arbitrate ?_
      split
      · exact h.verifyReads read _
      · exact hf _ _ (h.verifyReads read _)
  · exact hs

theorem expiry (hs : P s) (timer : State → Timer) (reads : RecordId → Bool) {f : State → State} (hf : ∀ u, P u → P (f u)) :
    P (s.expiry timer reads f) := by
  unfold State.expiry
  split
  · refine h.event hs reads fun u hu => ?_
    split
    · exact hf u hu
    · exact hu
  · exact hs

theorem timeEvent (hs : P s) (expires : Bool) {f : State → State} (hf : ∀ u, P u → P (f u)) : P (s.timeEvent expires f) := by
  unfold State.timeEvent
  split
  · exact hs
  · dsimp only
    refine h.arbitrate (hf _ ?_)
    split
    · exact hs
    · exact h.verifyReads hs _

theorem answerExpired (hs : P s) : P s.answerExpired := by
  unfold State.answerExpired
  split
  · exact h.noReply hs _
  · exact h.freeLink hs

theorem routineExpired (hs : P s) : P s.routineExpired := by
  have polled := h.foldl_wantPoll hs (allSwitches.filter s.routinePolls) .routine
  unfold State.routineExpired
  generalize List.foldl _ s (allSwitches.filter s.routinePolls) = t at polled
  exact h.same polled rfl rfl rfl rfl

theorem headExpired (hs : P s) : P s.headExpired := by
  have polled : P (if (s.runtime 0).condition = .failed then s else s.wantPoll 0 .head) := by
    split
    · exact hs
    · exact h.wantPoll hs _ _
  unfold State.headExpired
  generalize (if (s.runtime 0).condition = .failed then s else s.wantPoll 0 .head) = t at polled
  exact h.same polled rfl rfl rfl rfl

theorem reclaimExpired (hs : P s) (k : SwitchNo) : P (s.reclaimExpired k) := by
  unfold State.reclaimExpired
  split
  · exact h.setSeq hs k _
  · exact hs

theorem confirmExpired (hs : P s) : P s.confirmExpired := by
  have confirmed : P { s with ehu.watch.confirmTimer := .stopped, ehu.watch.confirmed := true } := h.same hs rfl rfl rfl rfl
  unfold State.confirmExpired
  dsimp only
  split
  · exact h.attemptStart confirmed
  · exact h.notify confirmed _

theorem listenExpired (hs : P s) (running : s.ehu.huntCase.listen.isRunning = true) : P s.listenExpired := by
  have locating : o → s.ehu.huntCase.state = .locating := fun x => by
    refine (h.orderly hs x).2 fun stopped => ?_
    rw [stopped] at running
    cases running
  have quiet : o → s.ehu.huntCase.step = none := fun x => h.stepNone hs (by simp [locating x]) x
  have loose : KeptBase.Loose P { s with ehu.huntCase.listen := .stopped } := ⟨s.ehu.huntCase, hs⟩
  unfold State.listenExpired
  dsimp only
  split
  · exact h.concludeSelfCleared loose quiet
  · exact h.choose loose quiet fun _ => rfl

theorem settleExpired (hs : P s) : P s.settleExpired := by
  unfold State.settleExpired
  dsimp only
  split
  next e => exact h.wantPoll (by exact h.sameCourse hs rfl (by rw [e]; rfl) rfl rfl rfl rfl) _ _
  next => exact h.same hs rfl rfl rfl rfl

theorem observeExpired (hs : P s) : P s.observeExpired := by
  have stopped : P { s with ehu.observeTimer := .stopped } := h.same hs rfl rfl rfl rfl
  unfold State.observeExpired
  dsimp only
  split
  next e => exact h.applyOutcome stopped (h.stepping (s := s) hs (by rw [e]; rfl)) _ _
  next => exact stopped

theorem listenEvent (hs : P s) (reads : RecordId → Bool) :
    P (s.expiry (·.ehu.huntCase.listen) reads State.listenExpired) := by
  unfold State.expiry
  split
  · refine h.event hs reads fun u hu => ?_
    split
    next running => exact h.listenExpired hu running
    next => exact hu
  · exact hs

theorem scan (hs : P s) (failed : List RecordId) : P (s.scan failed) := by
  unfold State.scan
  split
  · exact h.arbitrate (h.verify (by exact h.same hs rfl rfl rfl rfl) _)
  · exact hs

theorem tfbEdge (hs : P s) (b : Bool) : P (s.tfbChanges b) := by
  unfold State.tfbChanges
  split
  · exact hs
  · refine h.event (by exact h.same hs rfl rfl rfl rfl) _ fun u hu => ?_
    exact h.applyLevels hu ⟨rfl, rfl, rfl, rfl, id, fun _ _ hx => .inl ⟨hx, rfl⟩⟩

/-- A change of the lines. -/
theorem lines (hs : P s) (l : Lines) : P { s with lines := l } := h.same hs rfl rfl rfl rfl

/-- The hold in reset entered, with the writes it cuts off. -/
theorem held (hs : P s) (cut : List RecordId) : P (s.enterReset.corrupt cut) := h.corrupt (h.enterReset hs) cut

/-- The state a command leaves keeps the invariant. -/
theorem exec (hs : P s) (c : Instr) : ∃ t, Machine.exec c s = .next t ∧ P t := by
  cases e : asRequest c with
  | some pr => exact ⟨_, exec_request e s, h.frameArrives hs _ _⟩
  | none =>
    cases c
    case refusedFormatFrame p b w => exact ⟨_, rfl, h.frameArrives hs _ _⟩
    case frameDiscarded p =>
      refine ⟨_, rfl, ?_⟩
      split
      · exact hs
      · exact h.setPort hs _ _
    case readTransaction w => exact ⟨_, rfl, h.readOut hs w⟩
    case responseSent => exact ⟨_, rfl, h.responseEnds hs⟩
    case maintenanceByteTimeout b => exact ⟨_, rfl, h.frameArrives hs _ _⟩
    case answerFrame a x r => exact ⟨_, rfl, h.fromUnit hs a fun _ k hu => h.takeAnswer hu k x r⟩
    case stateFrame a p r => exact ⟨_, rfl, h.fromUnit hs a fun _ k hu => h.takeState hu k p r⟩
    case tripFrame a x => exact ⟨_, rfl, h.fromUnit hs a fun _ k hu => h.takeTrip hu k x⟩
    case fieldByteTimeout b => exact ⟨_, rfl, hs⟩
    case inboundFrameDiscarded b =>
      refine ⟨_, rfl, ?_⟩
      unfold State.receiveBytes
      split
      · exact hs
      · exact h.fromUnit hs _ fun _ k hu => h.takeInbound hu k _
    case answerTimerExpiry => exact ⟨_, rfl, h.expiry hs _ _ fun _ hu => h.answerExpired hu⟩
    case mechanismTimerExpiry k => exact ⟨_, rfl, h.expiry hs _ _ fun _ hu => h.noMove hu k⟩
    case routineTimerExpiry => exact ⟨_, rfl, h.expiry hs _ _ fun _ hu => h.routineExpired hu⟩
    case headTimerExpiry => exact ⟨_, rfl, h.expiry hs _ _ fun _ hu => h.headExpired hu⟩
    case deadTimeExpiry k => exact ⟨_, rfl, h.expiry hs _ _ fun _ hu => h.deadTimeExpired hu k⟩
    case reclaimExpiry k => exact ⟨_, rfl, h.expiry hs _ _ fun _ hu => h.reclaimExpired hu k⟩
    case confirmTimerExpiry => exact ⟨_, rfl, h.expiry hs _ _ fun _ hu => h.confirmExpired hu⟩
    case listenWindowExpiry => exact ⟨_, rfl, h.listenEvent hs _⟩
    case settleTimerExpiry => exact ⟨_, rfl, h.expiry hs _ _ fun _ hu => h.settleExpired hu⟩
    case observeTimerExpiry => exact ⟨_, rfl, h.expiry hs _ _ fun _ hu => h.observeExpired hu⟩
    case scanPass l => exact ⟨_, rfl, h.scan hs l⟩
    case trefPulse g =>
      refine ⟨_, rfl, ?_⟩
      split
      · exact hs
      · exact h.timeEvent hs _ fun _ hu => h.countPulse hu g
    case trefLoss =>
      refine ⟨_, rfl, ?_⟩
      split
      · exact h.timeEvent hs _ fun _ hu => h.losePulses hu
      · exact hs
    case oscillatorSecond =>
      refine ⟨_, rfl, ?_⟩
      split
      · exact h.timeEvent hs _ fun _ hu => h.countSecond hu
      · exact hs
    case tfbEdge b => exact ⟨_, rfl, h.tfbEdge hs b⟩
    case lkeyChange b => exact ⟨_, rfl, h.lines hs _⟩
    case resetAssert l =>
      refine ⟨_, rfl, ?_⟩
      split
      · exact hs
      · exact h.lines (h.held hs l) _
    case resetRelease =>
      refine ⟨_, rfl, ?_⟩
      split
      · exact h.arbitrate (h.startIfReleased (h.lines hs _))
      · exact hs
    case supplyFall l =>
      refine ⟨_, rfl, ?_⟩
      split
      · exact hs
      · exact h.lines (h.held hs l) _
    case supplyRecovery =>
      refine ⟨_, rfl, ?_⟩
      split
      · exact h.arbitrate (h.startIfReleased (h.lines hs _))
      · exact hs
    case powerUp m l =>
      refine ⟨_, rfl, h.arbitrate (h.startIfReleased ?_)⟩
      have lost := h.corrupt (h.volatileStart hs) l
      generalize State.corrupt _ l = t at lost
      exact h.same lost rfl rfl rfl rfl
    all_goals cases e

theorem tickTimers (hs : P s) : P s.tickTimers := by
  refine h.move hs (by unfold State.ground State.tickTimers; rfl) (fun x => ?_)
    (State.runningCounted_congr (fun k => ?_) (by unfold State.tickTimers; rfl))
  · refine ⟨(h.orderly hs x).1, fun run => (h.orderly hs x).2 fun stopped => run ?_⟩
    show s.ehu.huntCase.listen.tick = _
    rw [stopped]
    rfl
  · simp [State.tickTimers, State.seq]

theorem idle (hs : P s) : P s.idle := by
  unfold State.idle
  split
  · exact h.tickTimers hs
  · exact hs

/-- Where the queue plays no part, each step keeps the invariant. -/
theorem step (hs : P s) (queue : ∀ q, P { s with pending := q }) : ∃ t, Machine.step s = .next t ∧ P t := by
  unfold Machine.step
  split
  · exact ⟨_, rfl, h.idle hs⟩
  · exact h.exec (queue _) _

end
end Kept
end Sys2Proof.Machine
end

section
/-! The invariants of the statements, each a case of what every command keeps; and the statements of the queue and of the invariants. -/

namespace Sys2Proof.Machine

namespace KeptBase

section
variable {o : Prop} {P : State → Prop} (h : KeptBase o P) {s : State}
include h

theorem adjustFires (hs : P s) (l : List DistrictNo) : P (l.foldl State.adjustFire s) :=
  foldl (P := P) (fun _ d hu => h.adjustFire hu d) l hs

theorem reconcileFires (hs : P s) (l : List DistrictNo) : P (l.foldl State.reconcileFire s) :=
  foldl (P := P) (fun _ d hu => h.reconcileFire hu d) l hs

end
end KeptBase

/-! ### The queue, the groups and the levels (R58, R68) -/

/-- The queue and the FSU's settings, the FIRE handles apart. -/
def State.rules (s : State) :=
  (s.pending, s.fsu.groups, s.fsu.season, s.fsu.tfb, fun d => (s.district d).level)

theorem State.rules_of_view {s t : State} (h : t.view = s.view) : t.rules = s.rules := by
  simp only [State.rules, State.view_queue h, State.view_groups h, State.view_season h, State.view_tfb h, State.view_district h]

theorem State.rules_of_ground {s t : State} (h : t.ground = s.ground) : t.rules = s.rules := by
  simp only [State.ground, Prod.mk.injEq] at h
  obtain ⟨queue, groups, season, tfb, districts, -⟩ := h
  simp only [State.rules, State.district, queue, groups, season, tfb, districts]

/-- An invariant of the settings alone, kept by a change of the groups and by the setting of every level. -/
theorem Kept.ofRules {P : State → Prop} (hP : ∀ {s t : State}, t.rules = s.rules → P s → P t)
    (groups : ∀ {s} {g : Groups}, P s → g.monotone → P { s with fsu.groups := g })
    (levels : ∀ {s t : State}, P s → t.pending = s.pending → t.fsu.groups = s.fsu.groups ∨ t.fsu.groups = Groups.cold →
      P t.withLevels) : Kept False P where
  orderly _ x := x.elim
  move hs hg _ _ := hP (State.rules_of_ground hg) hs
  place hs _ := hP (State.rules_of_view (State.placeHold_view _ _)) hs
  edit hs _ _ _ := hP (State.rules_of_view (State.setSlot_view _ _ _)) hs
  vacate hs := hP (State.rules_of_view (State.vacate_view _ _)) hs
  placeFire hs _ := hP (State.rules_of_view (State.placeFire_view _ _)) hs
  dropFire hs := hP (State.rules_of_view (State.setFire_view _ _ _)) hs
  groups hs hg := groups hs hg
  recount {s} hs := hP (s := s) rfl hs
  relevel hs ht hg _ _ := hP
    ((State.rules_of_view (foldl_view _ (fun u d => State.adjustFire_view u d) _ _)).trans (State.rules_of_ground hg))
    (levels hs ht.queue (.inl ht.groups))
  startLevels hs ht hg _ _ := hP
    ((State.rules_of_view (foldl_view _ (fun u d => State.reconcileFire_view u d) _ _)).trans (State.rules_of_ground hg))
    (levels hs ht.queue (.inl ht.groups))
  coldLevels hs queue settings _ hg _ _ := hP
    ((State.rules_of_view (foldl_view _ (fun u d => State.reconcileFire_view u d) _ _)).trans (State.rules_of_ground hg))
    (levels hs queue (.inr (by rw [settings]; rfl)))

theorem kept_queue (q : List Instr) : Kept False (fun s => s.pending = q) :=
  .ofRules (fun hr hs => (congrArg (·.1) hr).trans hs) (fun hs _ => hs) fun hs queue _ => queue.trans hs

theorem kept_groupsOrdered : Kept False State.groupsOrdered := by
  refine .ofRules (fun hr hs => ?_) (fun _ hg => hg) fun hs _ groups => ?_
  · simp only [State.rules, Prod.mk.injEq] at hr
    obtain ⟨-, groups, -⟩ := hr
    rw [State.groupsOrdered, groups]
    exact hs
  · show Groups.monotone _
    rcases groups with same | cold
    · rw [show (State.withLevels _).fsu.groups = _ from same]
      exact hs
    · rw [show (State.withLevels _).fsu.groups = _ from cold]
      exact Groups.cold_monotone

theorem State.withLevels_levelsAgree (s : State) : s.withLevels.levelsAgree := by
  intro d
  simp [State.withLevels, State.district, State.levelOfDistrict, effectiveOf_eq_levelGiven]

theorem kept_levelsAgree : Kept False State.levelsAgree := by
  refine .ofRules (fun hr hs d => ?_) (fun hs _ => hs) fun _ _ _ => State.withLevels_levelsAgree _
  simp only [State.rules, Prod.mk.injEq] at hr
  obtain ⟨-, -, season, tfb, levels⟩ := hr
  have level := congrFun levels d
  simp only [District.level, Prod.mk.injEq] at level
  obtain ⟨declared, effective, -⟩ := level
  rw [season, tfb, declared, effective]
  exact hs d

theorem State.withLevels_htu (s : State) : s.withLevels.htu = s.htu := by
  unfold State.withLevels
  rfl

/-- A state on the ground of one whose levels are set has its hold table. -/
theorem State.htu_of_levels {t u : State} (h : u.ground = t.withLevels.ground) : u.htu = t.htu :=
  (congrArg (·.2.2.2.2.2) h).trans t.withLevels_htu

/-! ### The counts and the share of the ports (R19, R23, R42) -/

theorem State.portShareKept_congr {s t : State} (h : t.htu = s.htu) (hs : s.portShareKept) : t.portShareKept := by
  obtain ⟨counts, share⟩ := hs
  refine ⟨(State.countsTrue_congr h).mpr counts, ?_⟩
  rw [State.liveOf_congr h, State.liveOf_congr h]
  exact share

/-- A placement keeps the share where its hold is not of port origin, or the ports have room. -/
theorem State.placeHold_portShareKept {s : State} {r : Hold} (hs : s.portShareKept)
    (room : r.origin = .controller ∨ r.origin = .maintenance → s.htu.counts.controller + s.htu.counts.maintenance < Config.portHolds) :
    (s.placeHold r).1.portShareKept := by
  obtain ⟨counts, share⟩ := hs
  refine ⟨State.placeHold_countsTrue r counts, ?_⟩
  have controller := State.placeHold_liveOf s r .controller
  have maintenance := State.placeHold_liveOf s r .maintenance
  have told : s.htu.counts.controller = s.liveOf .controller ∧ s.htu.counts.maintenance = s.liveOf .maintenance :=
    ⟨counts .controller, counts .maintenance⟩
  have added : ∀ o : Origin, (o = .controller ∨ o = .maintenance) ∧ (o == .controller).toNat + (o == .maintenance).toNat = 1
      ∨ (o == .controller).toNat + (o == .maintenance).toNat = 0 := by
    intro o
    cases o <;> decide
  rcases added r.origin with ⟨port, one⟩ | none
  · have space := room port
    omega
  · omega

theorem State.liveOf_edit {s : State} {i : SlotNo} {r n : Hold} (live : s.holdAt i = some r) (origin : n.origin = r.origin)
    (o : Origin) : (s.setSlot i { s.slot i with hold := some n }).liveOf o = s.liveOf o := by
  have others : ∀ j, j ≠ i → (s.setSlot i { s.slot i with hold := some n }).holdAt j = s.holdAt j := by
    intro j hj
    simp [State.holdAt, State.slot_setSlot, Ne.symm hj]
  have here : (s.setSlot i { s.slot i with hold := some n }).holdAt i = some n := by simp [State.holdAt]
  have count := State.liveOf_update i others o
  rw [live, here] at count
  simpa [origin] using count

/-- The placement of a FIRE hold, its parts named. -/
theorem State.placeFire_eq (s : State) (d : DistrictNo) : s.placeFire d =
    let placed := s.placeHold (s.deviceHold .noReclose .plain .fire (s.districtZones d) (.district d))
    placed.1.setDistrict d { placed.1.district d with fire := placed.2 } := rfl

theorem State.placeFire_htu (s : State) (d : DistrictNo) : (s.placeFire d).htu =
    (s.placeHold (s.deviceHold .noReclose .plain .fire (s.districtZones d) (.district d))).1.htu := rfl

theorem portShareKept_base : KeptBase False State.portShareKept where
  orderly _ x := x.elim
  move hs hg _ _ := State.portShareKept_congr (congrArg (·.2.2.2.2.2) hg) hs
  place hs room := State.placeHold_portShareKept hs room
  edit hs live origin _ := by
    obtain ⟨counts, share⟩ := hs
    refine ⟨fun o => ?_, ?_⟩
    · rw [State.liveOf_edit live origin]; exact counts o
    · rw [State.liveOf_edit live origin, State.liveOf_edit live origin]; exact share
  vacate {s i} hs := by
    obtain ⟨counts, share⟩ := hs
    refine ⟨State.vacate_countsTrue i counts, ?_⟩
    have controller := State.vacate_liveOf s i .controller
    have maintenance := State.vacate_liveOf s i .maintenance
    omega
  placeFire {s d} hs _ := State.portShareKept_congr (State.placeFire_htu s d)
    (State.placeHold_portShareKept hs fun port => by simp [State.deviceHold] at port)
  dropFire hs := State.portShareKept_congr rfl hs

/-- The cold table keeps the share (R43). -/
theorem State.portShareKept_cold {s : State} (h : s.htu = Htu.cold) : s.portShareKept := by
  have counts : s.countsTrue := by
    have recounted := State.recount_true s
    rw [State.recount_cold h, ← h] at recounted
    exact recounted
  refine ⟨counts, ?_⟩
  rw [← counts .controller, ← counts .maintenance, h]
  decide

theorem kept_portShareKept : Kept False State.portShareKept where
  toKeptBase := portShareKept_base
  groups hs _ := State.portShareKept_congr rfl hs
  recount {s} hs := ⟨State.recount_true s, hs.2⟩
  relevel hs ht hg _ _ := portShareKept_base.adjustFires
    (State.portShareKept_congr ((State.htu_of_levels hg).trans ht.table) hs) _
  startLevels hs ht hg _ _ := portShareKept_base.reconcileFires
    (State.portShareKept_congr ((State.htu_of_levels hg).trans ht.table) hs) _
  coldLevels _ _ _ table hg _ _ := portShareKept_base.reconcileFires
    (State.portShareKept_cold ((State.htu_of_levels hg).trans table)) _

/-! ### The hunt case (R132, R139) -/

theorem State.dropHandle_huntCase (s : State) (o : Origin) (x : Handle) :
    ∃ c, (s.dropHandle o x).ehu = { s.ehu with huntCase := { s.ehu.huntCase with holdHandle := c } } := by
  unfold State.dropHandle
  split
  · exact ⟨_, rfl⟩
  · split
    · exact ⟨none, rfl⟩
    · exact ⟨_, rfl⟩
  · exact ⟨_, rfl⟩

/-- A departure changes the handle of the case alone in the EHU. -/
theorem State.vacate_huntCase (s : State) (i : SlotNo) :
    ∃ c, (s.vacate i).ehu = { s.ehu with huntCase := { s.ehu.huntCase with holdHandle := c } } := by
  cases e : s.holdAt i with
  | none => exact ⟨_, by rw [State.vacate_empty e]; rfl⟩
  | some r =>
    rw [State.vacate_live e]
    exact State.dropHandle_huntCase _ _ _

theorem State.placeFire_ehu (s : State) (d : DistrictNo) : (s.placeFire d).ehu = s.ehu :=
  (State.placeHold_frame s (s.deviceHold .noReclose .plain .fire (s.districtZones d) (.district d))).2.2.2.2.2.2.2.1

theorem orderly_base : KeptBase True (fun s => s.ehu.huntCase.orderly) where
  orderly hs _ := hs
  move _ _ hc _ := hc trivial
  place {s r} hs _ := by
    obtain ⟨-, -, -, -, -, -, -, ehu, -⟩ := State.placeHold_frame s r
    rw [ehu]
    exact hs
  edit hs _ _ _ := hs
  vacate {s i} hs := by
    obtain ⟨c, ehu⟩ := State.vacate_huntCase s i
    rw [ehu]
    exact hs
  placeFire {s d} hs _ := by
    rw [State.placeFire_ehu]
    exact hs
  dropFire hs := hs

theorem kept_orderly : Kept True (fun s => s.ehu.huntCase.orderly) where
  toKeptBase := orderly_base
  groups hs _ := hs
  recount hs := hs
  relevel {s t u} hs ht _ hc _ := by
    refine orderly_base.adjustFires ?_ _
    rw [hc, ht.huntCase]
    exact hs
  startLevels {s t u} hs ht _ hc _ := by
    refine orderly_base.reconcileFires ?_ _
    rw [hc, ht.huntCase]
    exact hs
  coldLevels {s t u} _ _ _ _ _ hc _ := by
    refine orderly_base.reconcileFires ?_ _
    rw [hc]
    simp [HuntCase.orderly, HuntCase.cold]

/-! ### No FIRE handle below BAN (R74) -/

/-- No district below BAN keeps a FIRE handle, but for those of a list. -/
def State.belowBan (l : List DistrictNo) (s : State) : Prop :=
  ∀ d x, (s.district d).effective ≠ .ban → (s.district d).fire = some x → d ∈ l

theorem State.dropHandle_fire (s : State) (o : Origin) (x : Handle) (d : DistrictNo) :
    ((s.dropHandle o x).district d).effective = (s.district d).effective ∧
      ∀ y, ((s.dropHandle o x).district d).fire = some y → (s.district d).fire = some y ∧ (o = .fire → y ≠ x) := by
  unfold State.dropHandle
  split
  · simp only [State.district, Vector.getElem_ofFn, Fin.getElem_fin, District.dropHandle]
    split
    next => exact ⟨rfl, fun y h => by cases h⟩
    next other => exact ⟨rfl, fun y h => ⟨h, fun _ e => other (e ▸ h)⟩⟩
  next => exact ⟨by split <;> rfl, fun y h => ⟨by revert h; split <;> exact id, nofun⟩⟩
  next other _ => exact ⟨rfl, fun y h => ⟨h, fun e => absurd e other⟩⟩

/-- A departure keeps each district's level, and its FIRE handle unless the hold that departs is the one it names. -/
theorem State.vacate_fire (s : State) (i : SlotNo) (d : DistrictNo) :
    ((s.vacate i).district d).effective = (s.district d).effective ∧
      ∀ y, ((s.vacate i).district d).fire = some y → (s.district d).fire = some y ∧
        ∀ r, s.holdAt i = some r → r.origin = .fire → y ≠ s.handleAt i := by
  cases e : s.holdAt i with
  | none =>
    rw [State.vacate_empty e]
    exact ⟨rfl, fun y h => ⟨h, nofun⟩⟩
  | some r =>
    rw [State.vacate_live e]
    obtain ⟨level, kept⟩ := State.dropHandle_fire
      { s.emptied i with htu.counts := (s.emptied i).htu.counts.modify (· - 1) r.origin } r.origin ⟨i, (s.slot i).useCount⟩ d
    refine ⟨level, fun y h => ⟨(kept y h).1, fun r' e' fire => ?_⟩⟩
    cases e'
    exact (kept y h).2 fire

/-- The district records after a FIRE hold is placed. -/
theorem State.placeFire_district (s : State) (d e : DistrictNo) : (s.placeFire d).district e =
    if d = e then { s.district d with
      fire := (s.placeHold (s.deviceHold .noReclose .plain .fire (s.districtZones d) (.district d))).2 } else s.district e := by
  obtain ⟨-, -, -, -, fsu, -⟩ := State.placeHold_frame s (s.deviceHold .noReclose .plain .fire (s.districtZones d) (.district d))
  rw [State.placeFire_eq]
  dsimp only
  rw [State.district_setDistrict, State.district_congr fsu, State.district_congr fsu]

theorem State.district_of_ground {s t : State} (h : t.ground = s.ground) (d : DistrictNo) : t.district d = s.district d := by
  simp only [State.ground, Prod.mk.injEq] at h
  obtain ⟨-, -, -, -, districts, -⟩ := h
  rw [State.district, districts]
  rfl

theorem State.belowBan_congr {l : List DistrictNo} {s t : State} (h : ∀ d, t.district d = s.district d) (hs : s.belowBan l) :
    t.belowBan l := fun d x => by rw [h d]; exact hs d x

theorem belowBan_base (l : List DistrictNo) : KeptBase False (State.belowBan l) where
  orderly _ x := x.elim
  move hs hg _ _ := State.belowBan_congr (State.district_of_ground hg) hs
  place {s r} hs _ := by
    obtain ⟨-, -, -, -, fsu, -⟩ := State.placeHold_frame s r
    exact State.belowBan_congr (fun d => State.district_congr fsu d) hs
  edit hs _ _ _ := State.belowBan_congr (fun _ => rfl) hs
  vacate {s i} hs d x below fire := by
    obtain ⟨level, kept⟩ := State.vacate_fire s i d
    exact hs d x (level ▸ below) (kept x fire).1
  placeFire {s d} hs ban e x below fire := by
    rw [State.placeFire_district] at below fire
    split at below
    · exact absurd ban below
    next other => rw [if_neg other] at fire; exact hs e x below fire
  dropFire {s d} hs e x below fire := by
    rw [State.district_setDistrict] at below fire
    split at below
    next same => rw [if_pos same] at fire; cases fire
    next other => rw [if_neg other] at fire; exact hs e x below fire

/-- A district whose FIRE hold is retired leaves the list. -/
theorem State.retireFire_belowBan {d : DistrictNo} {l : List DistrictNo} {s : State} (hs : s.belowBan (d :: l)) :
    (s.retireFire d).belowBan l := by
  have kept := (belowBan_base (d :: l)).retireFire hs d
  have none : ((s.retireFire d).district d).fire = none := by
    unfold State.retireFire
    split
    next e => exact e
    next => simp
  intro e x below fire
  rcases List.mem_cons.mp (kept e x below fire) with same | rest
  · rw [same, none] at fire; cases fire
  · exact rest

/-- At BAN a district needs no exception. -/
theorem State.belowBan_drop {d : DistrictNo} {l : List DistrictNo} {s : State} (ban : (s.district d).effective = .ban)
    (hs : s.belowBan (d :: l)) : s.belowBan l := by
  intro e x below fire
  rcases List.mem_cons.mp (hs e x below fire) with same | rest
  · rw [same] at below; exact absurd ban below
  · exact rest

theorem State.adjustFire_belowBan {d : DistrictNo} {l : List DistrictNo} {s : State} (hs : s.belowBan (d :: l)) :
    (s.adjustFire d).belowBan l := by
  by_cases ban : (s.district d).effective = .ban
  · exact (belowBan_base l).adjustFire (State.belowBan_drop ban hs) d
  · unfold State.adjustFire
    simp only [beq_iff_eq, ban, if_false]
    exact State.retireFire_belowBan hs

theorem State.reconcileFire_belowBan {d : DistrictNo} {l : List DistrictNo} {s : State} (hs : s.belowBan (d :: l)) :
    (s.reconcileFire d).belowBan l := by
  by_cases ban : (s.district d).effective = .ban
  · exact (belowBan_base l).reconcileFire (State.belowBan_drop ban hs) d
  · unfold State.reconcileFire
    simp only [Bool.and_eq_true, beq_iff_eq, ban, false_and, if_false]
    exact State.retireFire_belowBan hs

/-- A course over the districts of a list that takes each out of it. -/
theorem State.belowBan_foldl {f : State → DistrictNo → State}
    (hf : ∀ {d l s}, State.belowBan (d :: l) s → (f s d).belowBan l) (l : List DistrictNo) {s : State} (hs : s.belowBan l) :
    (l.foldl f s).belowBan [] := by
  induction l generalizing s with
  | nil => exact hs
  | cons d l ih => exact ih (hf hs)

theorem State.withLevels_district (s : State) (d : DistrictNo) :
    s.withLevels.district d = { s.district d with effective := s.levelOfDistrict d } := by
  simp [State.withLevels, State.district]

/-- With every level set, only the districts whose level changed may keep a handle below BAN. -/
theorem State.Redeclared.belowBan {s t u : State} (ht : s.Redeclared t) (hs : s.belowBan []) (hg : u.ground = t.withLevels.ground) :
    u.belowBan t.changedDistricts := by
  intro d x below fire
  rw [State.district_of_ground hg, State.withLevels_district] at below fire
  have level : t.levelOfDistrict d ≠ .ban := below
  rcases ht.fires d x fire with ⟨kept, same⟩ | ⟨ban, -⟩
  · have ban : (s.district d).effective = .ban := by
      by_contra low
      cases hs d x low kept
    simp [State.changedDistricts, allDistricts, same, ban, level]
  · exact absurd ban level

theorem kept_belowBan : Kept False (State.belowBan []) where
  toKeptBase := belowBan_base []
  groups hs _ := State.belowBan_congr (fun _ => rfl) hs
  recount hs := State.belowBan_congr (fun _ => rfl) hs
  relevel hs ht hg _ _ := State.belowBan_foldl State.adjustFire_belowBan _ (ht.belowBan hs hg)
  startLevels _ _ _ _ _ := State.belowBan_foldl State.reconcileFire_belowBan _ fun d _ _ _ => mem_allDistricts d
  coldLevels _ _ _ _ _ _ _ := State.belowBan_foldl State.reconcileFire_belowBan _ fun d _ _ _ => mem_allDistricts d

theorem State.settled_iff (s : State) : s.settled ↔ s.ehu.huntCase.orderly ∧ s.belowBan [] := by
  have handles : s.belowBan [] ↔ ∀ d, (s.district d).effective ≠ .ban → (s.district d).fire = none := by
    simp only [State.belowBan, List.not_mem_nil, imp_false, Option.eq_none_iff_forall_ne_some]
    exact ⟨fun h d below x => h d x below, fun h d x below => h d below x⟩
  rw [handles]
  exact and_assoc.symm

/-! ### The FIRE handles name live FIRE holds (R35, R67, R74) -/

/-- The handle names a live FIRE hold of the district. -/
def State.namesFire (s : State) (d : DistrictNo) (x : Handle) : Prop :=
  ∃ r, s.liveHold x = some r ∧ r.origin = .fire ∧ r.cause = some (.district d)

theorem State.liveHold_of_slot {s t : State} {x : Handle} (h : t.slot x.slot = s.slot x.slot) : t.liveHold x = s.liveHold x := by
  simp only [State.liveHold, State.holdAt, h]

/-- A placement leaves every live hold where it stands. -/
theorem State.placeHold_liveHold {s : State} {x : Handle} {r : Hold} (live : s.liveHold x = some r) (n : Hold) :
    (s.placeHold n).1.liveHold x = some r := by
  cases e : s.lowestEmpty with
  | none => rw [show s.placeHold n = (s, none) by unfold State.placeHold; rw [e]]; exact live
  | some i =>
    obtain ⟨empty, lower⟩ := State.lowestEmpty_spec e
    have other : x.slot ≠ i := by
      intro same
      have stands := State.holdAt_of_liveHold live
      rw [same, empty] at stands
      cases stands
    rw [← live]
    exact State.liveHold_of_slot (by rw [State.placeHold_slot empty lower, if_neg (Ne.symm other)])

/-- The handle a placement answers names the hold placed. -/
theorem State.placeHold_names {s : State} {n : Hold} {x : Handle} (h : (s.placeHold n).2 = some x) :
    (s.placeHold n).1.liveHold x = some n := by
  cases e : s.lowestEmpty with
  | none => rw [show s.placeHold n = (s, none) by unfold State.placeHold; rw [e]] at h; cases h
  | some i =>
    obtain ⟨empty, lower⟩ := State.lowestEmpty_spec e
    have slot := State.placeHold_slot empty lower n i
    rw [State.placeHold_of empty lower] at h
    cases h
    simp [State.liveHold, State.holdAt, slot]

/-- A departure leaves every hold of another slot where it stands. -/
theorem State.vacate_liveHold {s : State} {i : SlotNo} {x : Handle} (h : x.slot ≠ i) : (s.vacate i).liveHold x = s.liveHold x :=
  State.liveHold_of_slot (by rw [State.vacate_slot, if_neg (Ne.symm h)])

theorem State.fireHandlesLive_congr {s t : State} (hd : ∀ d, t.district d = s.district d) (hh : t.htu = s.htu)
    (hs : s.fireHandlesLive) : t.fireHandlesLive := by
  intro d x fire
  obtain ⟨r, live, kind⟩ := hs d x (hd d ▸ fire)
  exact ⟨r, (State.liveHold_of_slot (State.slot_congr hh _)).trans live, kind⟩

theorem fireHandlesLive_base : KeptBase False State.fireHandlesLive where
  orderly _ x := x.elim
  move hs hg _ _ := State.fireHandlesLive_congr (State.district_of_ground hg) (congrArg (·.2.2.2.2.2) hg) hs
  place {s n} hs _ d x fire := by
    obtain ⟨-, -, -, -, fsu, -⟩ := State.placeHold_frame s n
    obtain ⟨r, live, kind⟩ := hs d x (State.district_congr fsu d ▸ fire)
    exact ⟨r, State.placeHold_liveHold live n, kind⟩
  edit {s i r n} hs stands origin cause d x fire := by
    obtain ⟨q, live, fireOrigin, fireCause⟩ := hs d x fire
    by_cases same : x.slot = i
    · have standing := State.holdAt_of_liveHold live
      rw [same, stands] at standing
      cases standing
      refine ⟨n, ?_, origin.trans fireOrigin, cause.trans fireCause⟩
      subst same
      have current : (s.slot x.slot).useCount = x.useCount := by
        by_contra stale
        simp [State.liveHold, stale] at live
      simp [State.liveHold, State.holdAt, current]
    · exact ⟨q, (State.liveHold_of_slot (by rw [State.slot_setSlot, if_neg (Ne.symm same)])).trans live, fireOrigin, fireCause⟩
  vacate {s i} hs d x fire := by
    obtain ⟨-, kept⟩ := State.vacate_fire s i d
    obtain ⟨stood, other⟩ := kept x fire
    obtain ⟨r, live, origin, cause⟩ := hs d x stood
    have elsewhere : x.slot ≠ i := by
      intro same
      have standing := State.holdAt_of_liveHold live
      have current : (s.slot x.slot).useCount = x.useCount := by
        by_contra stale
        simp [State.liveHold, stale] at live
      refine other r (same ▸ standing) origin ?_
      cases x
      simp_all [State.handleAt]
    exact ⟨r, (State.vacate_liveHold elsewhere).trans live, origin, cause⟩
  placeFire {s d} hs _ e x fire := by
    rw [State.placeFire_district] at fire
    split at fire
    next same =>
      subst same
      exact ⟨_, State.placeHold_names fire, rfl, rfl⟩
    next =>
      obtain ⟨r, live, kind⟩ := hs e x fire
      exact ⟨r, State.placeHold_liveHold live _, kind⟩
  dropFire {s d} hs e x fire := by
    rw [State.district_setDistrict] at fire
    split at fire
    · cases fire
    · exact hs e x fire

/-- With every level set, each handle kept still names its hold. -/
theorem State.Redeclared.fireHandlesLive {s t u : State} (ht : s.Redeclared t) (hs : s.fireHandlesLive)
    (hg : u.ground = t.withLevels.ground) : u.fireHandlesLive := by
  have table : u.htu = t.htu := State.htu_of_levels hg
  intro d x fire
  rw [State.district_of_ground hg, State.withLevels_district] at fire
  have names : t.namesFire d x := by
    rcases ht.fires d x fire with ⟨kept, -⟩ | ⟨-, names⟩
    · obtain ⟨r, live, kind⟩ := hs d x kept
      exact ⟨r, (State.liveHold_of_slot (State.slot_congr ht.table _)).trans live, kind⟩
    · exact names
  obtain ⟨r, live, kind⟩ := names
  exact ⟨r, (State.liveHold_of_slot (State.slot_congr table _)).trans live, kind⟩

theorem kept_fireHandlesLive : Kept False State.fireHandlesLive where
  toKeptBase := fireHandlesLive_base
  groups hs _ := State.fireHandlesLive_congr (fun _ => rfl) rfl hs
  recount hs d x fire := hs d x fire
  relevel hs ht hg _ _ := fireHandlesLive_base.adjustFires (ht.fireHandlesLive hs hg) _
  startLevels hs ht hg _ _ := fireHandlesLive_base.reconcileFires (ht.fireHandlesLive hs hg) _
  coldLevels {s t u} _ _ settings _ hg _ _ := by
    refine fireHandlesLive_base.reconcileFires ?_ _
    intro d x fire
    rw [State.district_of_ground hg, State.withLevels_district] at fire
    have none : (t.district d).fire = none := by
      rw [State.district, settings]
      simp [Fsu.cold, District.cold]
    rw [none] at fire
    cases fire

/-! ### The running sequences (R106) -/

theorem State.runningCounted_of {s t : State} (hr : t.rcs = s.rcs) (hn : t.ehu.runningCount = s.ehu.runningCount)
    (hs : s.runningCounted) : t.runningCounted :=
  State.runningCounted_congr (fun k => by rw [State.seq_congr hr]) hn hs

theorem State.dropHandle_rcs (s : State) (o : Origin) (x : Handle) : (s.dropHandle o x).rcs = s.rcs := by
  unfold State.dropHandle
  split
  · rfl
  · split <;> rfl
  · rfl

theorem State.vacate_rcs (s : State) (i : SlotNo) : (s.vacate i).rcs = s.rcs := by
  cases e : s.holdAt i with
  | none => rw [State.vacate_empty e]; rfl
  | some r => rw [State.vacate_live e, State.dropHandle_rcs]; rfl

theorem runningCounted_base : KeptBase False State.runningCounted where
  orderly _ x := x.elim
  move hs _ _ hr := hr hs
  place {s r} hs _ := by
    obtain ⟨-, -, -, -, -, -, rcs, ehu, -⟩ := State.placeHold_frame s r
    exact State.runningCounted_of rcs (congrArg Ehu.runningCount ehu) hs
  edit hs _ _ _ := State.runningCounted_of rfl rfl hs
  vacate {s i} hs := by
    obtain ⟨c, ehu⟩ := State.vacate_huntCase s i
    exact State.runningCounted_of (State.vacate_rcs s i) (by rw [ehu]) hs
  placeFire {s d} hs _ := by
    obtain ⟨-, -, -, -, -, -, rcs, -⟩ :=
      State.placeHold_frame s (s.deviceHold .noReclose .plain .fire (s.districtZones d) (.district d))
    exact State.runningCounted_of rcs (congrArg Ehu.runningCount (State.placeFire_ehu s d)) hs
  dropFire hs := State.runningCounted_of rfl rfl hs

theorem kept_runningCounted : Kept False State.runningCounted where
  toKeptBase := runningCounted_base
  groups hs _ := hs
  recount hs := hs
  relevel hs ht _ _ hr := runningCounted_base.adjustFires (hr (ht.counted hs)) _
  startLevels hs ht _ _ hr := runningCounted_base.reconcileFires (hr (ht.counted hs)) _
  coldLevels _ _ _ _ _ _ counted := runningCounted_base.reconcileFires counted _

/-! ### The statements -/

/-- An invariant that every command keeps, whatever the queue, is kept by every step. -/
theorem Kept.after_step {o : Prop} {P : State → Prop} (h : Kept o P) {s t : State} (hs : P s) (queue : ∀ q, P { s with pending := q })
    (run : Machine.step s = .next t) : P t := by
  obtain ⟨u, next, hu⟩ := h.step hs queue
  rw [run] at next
  cases next
  exact hu

/-- Settles O3: the queue is one of the invariants. -/
theorem everyCommandCompletesAndLeavesTheQueue : Obligations.EveryCommandCompletesAndLeavesTheQueue := by
  unfold Obligations.EveryCommandCompletesAndLeavesTheQueue
  intro c s
  exact (kept_queue s.pending).exec rfl c

/-- Settles O4. -/
theorem stepKeepsGroupsMonotone : Obligations.StepKeepsGroupsMonotone := by
  unfold Obligations.StepKeepsGroupsMonotone
  intro s t hs run
  exact kept_groupsOrdered.after_step hs (fun _ => hs) run

/-- Settles O5. -/
theorem stepKeepsLevelsAgreed : Obligations.StepKeepsLevelsAgreed := by
  unfold Obligations.StepKeepsLevelsAgreed
  intro s t hs run
  exact kept_levelsAgree.after_step hs (fun _ => hs) run

/-- Settles O6. -/
theorem stepKeepsPortShare : Obligations.StepKeepsPortShare := by
  unfold Obligations.StepKeepsPortShare
  intro s t hs run
  exact kept_portShareKept.after_step hs (fun _ => State.portShareKept_congr rfl hs) run

/-- Settles O7: the case, the handles below BAN, the handles' holds and the count of running sequences are kept each by itself. -/
theorem stepKeepsCaseAndFireSettled : Obligations.StepKeepsCaseAndFireSettled := by
  unfold Obligations.StepKeepsCaseAndFireSettled
  intro s t run
  refine ⟨fun hs => ?_, fun hs => ?_, fun hs => ?_⟩
  · obtain ⟨orderly, below⟩ := s.settled_iff.mp hs
    exact t.settled_iff.mpr ⟨kept_orderly.after_step orderly (fun _ => orderly) run, kept_belowBan.after_step below (fun _ => below) run⟩
  · exact kept_fireHandlesLive.after_step hs (fun _ => hs) run
  · exact kept_runningCounted.after_step hs (fun _ => hs) run

/-- Settles O8: the state after reset is cold throughout. -/
theorem invariantsStandAtReset : Obligations.InvariantsStandAtReset := by
  unfold Obligations.InvariantsStandAtReset
  have quiet : ∀ d, (State.reset.district d).fire = none := by decide
  refine ⟨Groups.cold_monotone, ?_, State.portShareKept_cold rfl, ?_, ?_, ?_⟩
  · unfold State.levelsAgree
    decide
  · exact ⟨by decide, fun run => absurd rfl run, fun d _ => quiet d⟩
  · intro d x fire
    rw [quiet d] at fire
    cases fire
  · exact State.runningCounted_none (by decide) rfl

end Sys2Proof.Machine
end

section
/-! One step (O1, O2), what a taken request answers, and the statements of the requests that only read (chapters 1, 3, 9 and 10). -/

namespace Sys2Proof.Machine

/-! ### One step -/

/-- Settles O1. -/
theorem stepRunsFrontCommand : Obligations.StepRunsFrontCommand := by
  unfold Obligations.StepRunsFrontCommand
  intro c rest s queue
  simp only [step, queue]

/-- Settles O2: the part idles, and what idling does to each timer is read off `State.tickTimers`. -/
theorem stepOnEmptyQueueTicks : Obligations.StepOnEmptyQueueTicks := by
  unfold Obligations.StepOnEmptyQueueTicks
  intro s empty
  have idles : step s = .next s.idle := by simp only [step, empty]
  refine ⟨fun still => ?_, fun live => ⟨s.tickTimers, ?_, ?_, fun k => ?_, fun k => ?_⟩⟩
  · rw [idles, State.idle, still]
    rfl
  · rw [idles, State.idle, live]
    rfl
  · unfold State.tickTimers
    rfl
  · simp [State.tickTimers, State.runtime]
  · simp [State.tickTimers, State.seq]

/-! ### A request that is taken -/

section
variable {c : Instr} {p : Port} {r : Request} {s t : State} {d : Completion}

/-- A ready port's request that is neither of class A nor conditional: its owning block's state, the response, and the picks. -/
theorem exec_answered (hc : asRequest c = some (p, r)) (hs : s.ready p) (hp : p = .maintenance → controllerOnly r = false)
    (plain : isConditional r = false) (moves : isReading r = false) (hd : (s.taking p).carryOut p r = (t, d)) :
    exec c s = .next (t.answer p (requestCode r) d.code d.data).arbitrate := by
  rw [exec_ready hc hs hp, hd, State.finishRequest_answer p _ _ plain moves]

/-- Where the owning block leaves the state, the response alone is new. -/
theorem exec_unmoved (hc : asRequest c = some (p, r)) (hs : s.ready p) (hp : p = .maintenance → controllerOnly r = false)
    (plain : isConditional r = false) (moves : isReading r = false) (hd : (s.taking p).carryOut p r = (s.taking p, d)) :
    exec c s = .next (s.answer p (requestCode r) d.code d.data).arbitrate := by
  rw [exec_answered hc hs hp plain moves hd, State.answer_taking]

/-- A request of class A, with the state its owning block leaves. -/
theorem exec_read (hc : asRequest c = some (p, r)) (hs : s.ready p) (reads : isReading r = true)
    (hd : (s.taking p).carryOut p r = (t, d)) : exec c s = .next (t.answer p (requestCode r) d.code d.data) := by
  rw [exec_ready hc hs fun _ => controllerOnly_of_isReading reads, hd,
    State.finishRequest_read p _ _ (isConditional_of_isReading reads) reads]

end

@[simp] theorem State.port_taking (s : State) (p : Port) : (s.taking p).port p = { s.port p with response := none } :=
  State.port_setPort_same _ _ _

/-- A port's record written before the request is taken or after, its response apart. -/
theorem State.answer_setPort_taking (s : State) (p : Port) (v w : PortRecord) (b : Byte) (c : Code) (d : ResponseData)
    (h : { v with response := none } = { w with response := none }) :
    ((s.taking p).setPort p v).answer p b c d = (s.setPort p w).answer p b c d := by
  simp only [PortRecord.mk.injEq] at h
  simp [State.answer, State.taking, PortRecord.answered, h]

/-! ### Class A (R174) -/

/-- What a request of class A may change: its own port's record, the free-value counter, and the first cause. -/
def State.readsOnly (s t : State) (p : Port) : Prop :=
  s.sameBlocks t ∧ t.lines = s.lines ∧ (∀ q, q ≠ p → t.port q = s.port q) ∧ t.svu = { s.svu with startCause := t.svu.startCause }
    ∧ t.svu.startCause = { s.svu.startCause with first := t.svu.startCause.first }

theorem State.readsOnly_refl (s : State) (p : Port) : s.readsOnly s p := ⟨⟨rfl, rfl, rfl, rfl, rfl, rfl⟩, rfl, fun _ _ => rfl, rfl, rfl⟩

/-- A record written on the request's own port. -/
theorem State.readsOnly_setPort {s t : State} {p : Port} (h : s.readsOnly t p) (v : PortRecord) : s.readsOnly (t.setPort p v) p := by
  obtain ⟨blocks, lines, ports, svu⟩ := h
  exact ⟨blocks, lines, fun q hq => (State.port_setPort_other _ _ hq).trans (ports q hq), svu⟩

/-- A state that differs in the free-value counter alone. -/
theorem State.readsOnly_draws {s t : State} {p : Port} (h : s.readsOnly t p) (n : Nat) : s.readsOnly { t with draws := n } p := h

theorem State.readStartCause_readsOnly {s t : State} {p : Port} (h : s.readsOnly t p) (sound : t.svu.halted = false)
    (c : Choice Bool) : s.readsOnly (t.readStartCause c).1 p := by
  obtain ⟨blocks, lines, ports, svu, cause⟩ := h
  have same : t.readCauseHalted = t := by simp [State.readCauseHalted, sound]
  unfold State.readStartCause
  split
  · exact ⟨blocks, lines, ports, svu, cause⟩
  · dsimp only
    rw [same]
    split
    · refine ⟨blocks, lines, ports, ?_, ?_⟩
      · rw [svu]
      · rw [cause]
    · exact ⟨blocks, lines, ports, svu, cause⟩

/-- Every request of class A. -/
theorem State.carryOut_readsOnly {s t : State} {p : Port} {r : Request} (h : s.readsOnly t p) (sound : t.svu.halted = false)
    (reads : isReading r = true) : s.readsOnly (t.carryOut p r).1 p := by
  unfold State.carryOut
  cases r <;> cases reads
  case readZone z => dsimp only; rw [State.readZone_state]; exact h
  case readSwitch k =>
    dsimp only
    unfold State.readSwitch
    split
    · exact h
    · dsimp only
      split
      · exact State.readsOnly_draws h _
      · exact h
  case readHold f => dsimp only; rw [State.readHold_state]; exact h
  case listHolds i z o => dsimp only; rw [State.listHolds_state]; exact h
  case checkClose k c => dsimp only; rw [State.checkClose_state]; exact h
  case reserveHold f =>
    dsimp only
    unfold State.reserveHold
    split <;> exact State.readsOnly_setPort h _
  case reserveLevel d =>
    dsimp only
    unfold State.reserveLevel
    split <;> exact State.readsOnly_setPort h _
  case readGroup g o => dsimp only; rw [State.readGroup_state]; exact h
  case readStartCause c => exact State.readStartCause_readsOnly h sound c
  case clearNotices n m =>
    dsimp only
    unfold State.clearNotices
    split
    · exact State.readsOnly_setPort h _
    · exact h
  all_goals exact h

/-- Settles O9. -/
theorem classAMovesNothing : Obligations.ClassAMovesNothing := by
  unfold Obligations.ClassAMovesNothing
  intro c p q r s hc reads hs
  have taken := State.readsOnly_setPort (s.readsOnly_refl p) { s.port p with response := none }
  have carried := State.carryOut_readsOnly (r := r) taken hs.2.1 reads
  obtain ⟨blocks, lines, ports, svu, cause⟩ := State.readsOnly_setPort carried
    ((((s.taking p).carryOut p r).1.port p).answered (requestCode r) ((s.taking p).carryOut p r).2.code
      ((s.taking p).carryOut p r).2.data)
  exact ⟨_, exec_read hc hs reads rfl, blocks, lines, ports q, svu, cause⟩

/-! ### The records read (R18, R66, R72, R136, R165) -/

theorem districtNo?_eq_none {n : Nat} (h : 8 ≤ n) : districtNo? n = none := by simpa [districtNo?] using h
@[simp] theorem districtNo?_val (d : DistrictNo) : districtNo? d.val = some d := by simp [districtNo?]

theorem State.readZone_val (s : State) (z : ZoneNo) :
    s.readZone z.val = (s, .done (.zone (s.zone z).info (s.zone z).suspicion)) := by simp [State.readZone]

theorem State.readZone_outOfRange (s : State) {n : Nat} (h : 32 ≤ n) : s.readZone n = (s, .refuse .refusedRange) := by
  simp [State.readZone, zoneNo?_eq_none h]

theorem State.readSwitch_val (s : State) (k : SwitchNo) :
    s.readSwitch k.val = (({ s with draws := if s.fmu.reachTable.isSome && !s.configured k then s.draws + 1 else s.draws } : State),
      .done (.switch (s.switchReport k))) := by
  simp only [State.readSwitch, switchNo?_val]
  split <;> rfl

theorem State.readSwitch_outOfRange (s : State) {n : Nat} (h : 16 ≤ n) : s.readSwitch n = (s, .refuse .refusedRange) := by
  simp [State.readSwitch, switchNo?_eq_none h]

/-- The answer of READ HUNT, its zones read another way. -/
theorem State.readHunt_zones (s : State) (z : SwitchNo → ZoneSet) (h : ∀ k, s.segment k = z k) :
    s.readHunt = (s, .done (.hunt
      { watch := s.ehu.watch, confirmLeft := s.ehu.watch.confirmTimer.leftSeconds, thresholds := s.ehu.thresholds
        params := s.ehu.params, huntCase := s.ehu.huntCase, listenLeft := s.ehu.huntCase.listen.leftSeconds
        zones := (s.ehu.huntCase.candidates ++ s.ehu.huntCase.cleared).map fun k => (k, z k) })) := by
  simp only [State.readHunt, h]

/-- Settles O10: each record as its request reads it, answered as a request of class A. -/
theorem recordReadsAnswer : Obligations.RecordReadsAnswer := by
  unfold Obligations.RecordReadsAnswer
  refine ⟨fun s p hs => ⟨fun z => ?zone, fun n out => ?zoneRange⟩, fun s p hs => ⟨fun k => ?switch, fun n out => ?switchRange⟩,
    fun s p hs => ?levels, fun s p hs => ⟨fun l => ⟨?group, ?groupAndStaging⟩, fun o => ?groupRange⟩, fun s p hs => ?hunt,
    fun s p hs => ?time⟩
  case zone => exact exec_reading (c := .readZone p z.val) rfl hs rfl (State.readZone_val (s.taking p) z)
  case zoneRange => exact exec_reading (c := .readZone p n) rfl hs rfl (State.readZone_outOfRange (s.taking p) out)
  case switch =>
    rw [exec_read (c := .readSwitch p k.val) rfl hs rfl (State.readSwitch_val (s.taking p) k)]
    exact congrArg _ (State.answer_taking { s with
      draws := if s.fmu.reachTable.isSome && !s.configured k then s.draws + 1 else s.draws } p _ _ _)
  case switchRange => exact exec_reading (c := .readSwitch p n) rfl hs rfl (State.readSwitch_outOfRange (s.taking p) out)
  case levels => exact exec_reading (c := .readLevels p) rfl hs rfl rfl
  case group => exact exec_reading (c := .readGroup p (.named l) false) rfl hs rfl rfl
  case groupAndStaging => exact exec_reading (c := .readGroup p (.named l) true) rfl hs rfl rfl
  case groupRange => exact exec_reading (c := .readGroup p .unnamed o) rfl hs rfl rfl
  case hunt =>
    refine exec_reading (c := .readHunt p) rfl hs rfl
      (State.readHunt_zones (s.taking p) (fun k => match s.tableEntry k with | some e => e.segment | none => 0) fun k => ?_)
    show ((s.tableEntry k).map (·.segment)).getD 0 = _
    cases s.tableEntry k <;> rfl
  case time => exact exec_reading (c := .readTime p) rfl hs rfl rfl

/-! ### The reservations (R46, R47, R49) -/

theorem State.reserveHold_live {s : State} {i : SlotNo} {h : Hold} (p : Port) (hi : s.holdAt i = some h) :
    s.reserveHold p ⟨i.val, (s.slot i).useCount.toNat⟩ =
      (s.fillRegister p (.hold ⟨i, (s.slot i).useCount⟩ h.version), .done (.hold ⟨i, (s.slot i).useCount⟩ h)) := by
  simp [State.reserveHold, State.findHold, State.liveHold_current, hi]

theorem State.reserveHold_stale {s : State} {i : SlotNo} {u : UseCount} (p : Port)
    (h : s.holdAt i = none ∨ (s.slot i).useCount ≠ u) :
    s.reserveHold p ⟨i.val, u.toNat⟩ = (s.dropReservation p, .refuse .refusedStale) := by
  simp [State.reserveHold, State.findHold, State.liveHold_stale h]

theorem State.reserveHold_outOfRange (s : State) (p : Port) {n m : Nat} (h : 64 ≤ n ∨ 1024 ≤ m) :
    s.reserveHold p ⟨n, m⟩ = (s.dropReservation p, .refuse .refusedRange) := by
  simp [State.reserveHold, State.findHold, handle?_eq_none h]

/-- A register written as the request is taken, answered as the statements write it. -/
theorem State.answer_register (s : State) (p : Port) (v : Option Reservation) (b : Byte) (c : Code) (d : ResponseData) :
    ((s.taking p).setPort p { (s.taking p).port p with reservation := v }).answer p b c d =
      (s.setPort p { s.port p with reservation := v }).answer p b c d := by
  cases p <;> rfl

/-- A request that is conditional leaves the register of its port empty, and its response there. -/
theorem State.takeFrame_conditional {s : State} {p : Port} {r : Request} (h : isConditional r = true) :
    ∃ t : State, s.takeFrame p (.request r) = t.arbitrate ∧ (t.port p).reservation = none ∧ (t.port p).response.isSome := by
  have moves : isReading r = false := by
    by_contra reads
    rw [Bool.not_eq_false] at reads
    rw [isConditional_of_isReading reads] at h
    cases h
  refine ⟨((s.judge p r).1.dropReservation p).respond p (requestCode r) (s.judge p r).2, ?_, ?_, ?_⟩
  · simp [State.takeFrame, State.takeRequest, h, moves]
  · simp [State.respond, State.dropReservation]
  · simp [State.respond]

/-- Settles O13. -/
theorem reservingReadsFillTheRegister : Obligations.ReservingReadsFillTheRegister := by
  unfold Obligations.ReservingReadsFillTheRegister
  refine ⟨fun s p hs => ⟨fun i h hi => ?live, fun i u stale => ?stale, fun n m out => ?range⟩,
    fun s p hs => ⟨fun d => ?level, fun n out => ?levelRange⟩, fun c p r s hc conditional open_ => ?conditional⟩
  case live =>
    rw [exec_read (c := .reserveHold p ⟨i.val, (s.slot i).useCount.toNat⟩) rfl hs rfl
      (State.reserveHold_live (s := s.taking p) p hi)]
    exact congrArg _ (State.answer_register s p _ _ _ _)
  case stale =>
    rw [exec_read (c := .reserveHold p ⟨i.val, u.toNat⟩) rfl hs rfl (State.reserveHold_stale (s := s.taking p) p stale)]
    exact congrArg _ (State.answer_register s p _ _ _ _)
  case range =>
    rw [exec_read (c := .reserveHold p ⟨n, m⟩) rfl hs rfl (State.reserveHold_outOfRange (s.taking p) p out)]
    exact congrArg _ (State.answer_register s p _ _ _ _)
  case level =>
    have carried : (s.taking p).reserveLevel p d.val = ((s.taking p).fillRegister p (.district d (s.district d).version),
        .done (.reservedLevel (s.district d).declared (s.district d).effective (s.district d).version s.fsu.season s.fsu.tfb)) := by
      simp [State.reserveLevel, State.district]
    rw [exec_read (c := .reserveLevel p d.val) rfl hs rfl carried]
    exact congrArg _ (State.answer_register s p _ _ _ _)
  case levelRange =>
    have carried : (s.taking p).reserveLevel p n = ((s.taking p).dropReservation p, .refuse .refusedRange) := by
      simp [State.reserveLevel, districtNo?_eq_none out]
    rw [exec_read (c := .reserveLevel p n) rfl hs rfl carried]
    exact congrArg _ (State.answer_register s p _ _ _ _)
  case conditional =>
    obtain ⟨t, taken, register, answered⟩ := State.takeFrame_conditional (s := s.taking p) (p := p) conditional
    exact ⟨t, by rw [exec_request hc, State.requestArrives, State.frameArrives_open open_, taken], register, answered⟩

/-! ### The start cause and the status (R162, R168, R179) -/

/-- READ START CAUSE and READ STATUS reach their block in HALTED too, where nothing is verified and the arbiter picks nothing. -/
theorem exec_takenHalted {c : Instr} {p : Port} {r : Request} {s t : State} {d : Completion} (hc : asRequest c = some (p, r))
    (ho : s.portOpen p) (taken : takenHalted r = true) (reads : isReading r = true) (hd : (s.taking p).carryOut p r = (t, d))
    (sound : s.svu.badCodes = [] ∨ s.svu.halted = true ∧ t.svu.halted = true) :
    exec c s = .next (t.answer p (requestCode r) d.code d.data) := by
  have judged : (s.taking p).judge p r = (t, d) := by
    rw [← hd]
    rcases sound with clean | ⟨halted, -⟩
    · simp [State.judge, taken, controllerOnly_of_isReading reads, State.verifyReads_sound, clean]
    · simp [State.judge, taken, controllerOnly_of_isReading reads, halted]
  rw [exec_request hc, State.requestArrives, State.frameArrives_open ho]
  simp only [State.takeFrame, State.takeRequest, judged, isConditional_of_isReading reads, reads, Bool.false_eq_true, if_false,
    State.taking_svu]
  rcases sound with clean | ⟨-, halted⟩
  · simp [clean, State.respond_eq_answer]
  · rw [State.arbitrate_idle (s := t.respond p (requestCode r) d) (by simp [State.live, halted]), ite_self,
      State.respond_eq_answer]

/-- A change of the records that leaves the ports alone, before the request is taken or after. -/
theorem State.readStartCause_named {s : State} (sound : s.readCauseHalted = s) (clear : Bool) :
    s.readStartCause (.named clear) = (({ s with
        svu.startCause.first := if clear then none else s.svu.startCause.first } : State),
      .done (.startCause s.svu.startCause s.svu.halted)) := by
  cases clear <;> simp [State.readStartCause, named?, sound]

/-- Settles O14. -/
theorem startCauseAndStatusAnswer : Obligations.StartCauseAndStatusAnswer := by
  unfold Obligations.StartCauseAndStatusAnswer
  refine ⟨fun s p clear ho => ⟨fun clean => ?cause, fun halted failed => ?mended, fun clean => ?range⟩,
    fun s p ho clean => ⟨fun runs => ?status, fun st halted kept => ?statusHalted⟩⟩
  case cause =>
    have whole : (s.taking p).readCauseHalted = s.taking p := by
      simp [State.readCauseHalted, State.mendCause_sound, clean]
    rw [exec_takenHalted (c := .readStartCause p (.named clear)) rfl ho rfl rfl (State.readStartCause_named whole clear) (.inl clean)]
    exact congrArg _ (State.answer_taking { s with
      svu.startCause.first := if clear then none else s.svu.startCause.first } p _ _ _)
  case mended =>
    have mend : (s.taking p).readCauseHalted = State.taking
        { s with svu.startCause := ⟨none, none, s.svu.startCause.haltMark⟩, svu.badCodes := [] } p := by
      simp [State.readCauseHalted, State.mendCause, halted, failed, State.recode]
      rfl
    have carried : (s.taking p).carryOut p (.readStartCause (.named clear)) = (State.taking
          { s with svu.startCause := ⟨none, none, s.svu.startCause.haltMark⟩, svu.badCodes := [] } p,
        .done (.startCause ⟨none, none, s.svu.startCause.haltMark⟩ true)) := by
      unfold State.carryOut State.readStartCause
      simp only [named?, mend]
      cases clear <;> simp [halted, State.taking, State.setPort, State.port]
    rw [exec_takenHalted (c := .readStartCause p (.named clear)) rfl ho rfl rfl carried (.inr ⟨halted, halted⟩), State.answer_taking]
    rfl
  case range =>
    rw [exec_takenHalted (c := .readStartCause p .unnamed) rfl ho rfl rfl rfl (.inl clean), State.answer_taking]
    rfl
  case status =>
    have carried : (s.taking p).carryOut p .readStatus = (s.taking p, .done (.status
        { mode := s.fmu.mode, timeState := s.svu.timeState, halted := false, lkey := s.lines.lkey, tfb := s.fsu.tfb
          watch := s.ehu.watch.state, caseState := s.ehu.huntCase.state, counts := s.htu.counts })) := by
      simp [State.carryOut, State.readStatus, State.status, runs]
    rw [exec_takenHalted (c := .readStatus p) rfl ho rfl rfl carried (.inl clean), State.answer_taking]
    rfl
  case statusHalted =>
    have carried : (s.taking p).carryOut p .readStatus = (s.taking p, .done (.status st)) := by
      simp [State.carryOut, State.readStatus, halted, kept]
    rw [exec_takenHalted (c := .readStatus p) rfl ho rfl rfl carried (.inl clean), State.answer_taking]
    rfl

/-! ### The notices (R177) -/

theorem names?_named (l : List Notice) : names? (l.map .named) = some l := by
  induction l with
  | nil => rfl
  | cons n l ih =>
    unfold names? at ih ⊢
    simp [named?, ih]

theorem names?_unnamed {l : List (Choice Notice)} (h : .unnamed ∈ l) : names? l = none := by
  induction l with
  | nil => cases h
  | cons n l ih =>
    unfold names? at ih ⊢
    rcases List.mem_cons.mp h with head | rest
    · subst head
      simp [named?]
    · cases n with
      | named a => simp [named?, ih rest]
      | unnamed => simp [named?]

theorem NoticeSet.has_put (s : NoticeSet) (b : Bool) (m n : Notice) : (s.put b m).has n = if m = n then b else s.has n := by
  cases m <;> cases n <;> rfl

theorem NoticeSet.has_clearAll (s : NoticeSet) (l : List Notice) (n : Notice) :
    (s.clearAll l).has n = (s.has n && !l.contains n) := by
  unfold NoticeSet.clearAll
  induction l generalizing s with
  | nil => simp
  | cons m l ih =>
    rw [List.foldl_cons, ih, NoticeSet.has_put]
    by_cases e : m = n
    · simp [e]
    · simp [e, Ne.symm e]

theorem foldl_put_has (s : NoticeSet) (l : List Notice) (n : Notice) :
    (l.foldl (·.put true ·) s).has n = (s.has n || l.contains n) := by
  induction l generalizing s with
  | nil => simp
  | cons m l ih =>
    rw [List.foldl_cons, ih, NoticeSet.has_put]
    by_cases e : m = n
    · simp [e]
    · simp [e, Ne.symm e]

theorem NoticeSet.has_ofList (l : List Notice) (n : Notice) : (NoticeSet.ofList l).has n = l.contains n := by
  unfold NoticeSet.ofList
  rw [foldl_put_has]
  cases n <;> simp [NoticeSet.has]

theorem mask?_named (m : Option (List Notice)) : mask? (m.map (·.map .named)) = some (m.map .ofList) := by
  cases m with
  | none => rfl
  | some l => simp [mask?, names?_named]

theorem State.clearNotices_named (s : State) (p : Port) (l : List Notice) (m : Option (List Notice)) :
    s.clearNotices p (l.map .named) (m.map (·.map .named)) =
      (s.setPort p { s.port p with
          notices := (s.port p).notices.clearAll l, mask := (m.map NoticeSet.ofList).getD (s.port p).mask },
        .done (.cleared (s.port p).notices ((s.port p).notices.clearAll l) ((m.map NoticeSet.ofList).getD (s.port p).mask))) := by
  simp [State.clearNotices, names?_named, mask?_named]

theorem State.clearNotices_unnamed (s : State) (p : Port) {l : List (Choice Notice)} {m : Option (List (Choice Notice))}
    (h : .unnamed ∈ l ∨ ∃ k, m = some k ∧ .unnamed ∈ k) : s.clearNotices p l m = (s, .refuse .refusedRange) := by
  unfold State.clearNotices
  rcases h with name | ⟨k, rfl, mask⟩
  · simp [names?_unnamed name]
  · cases names? l <;> simp [mask?, names?_unnamed mask]

theorem exec_clearNotices {s t : State} {p : Port} {l : List (Choice Notice)} {m : Option (List (Choice Notice))} {d : Completion}
    (hs : s.ready p) (hd : (s.taking p).clearNotices p l m = (t, d)) :
    exec (.clearNotices p l m) s = .next (t.answer p 0x72 d.code d.data) :=
  exec_read (c := .clearNotices p l m) rfl hs rfl hd

/-- Settles O15. -/
theorem noticesReadAndCleared : Obligations.NoticesReadAndCleared := by
  unfold Obligations.NoticesReadAndCleared
  intro s p hs
  refine ⟨?read, fun names mask => ?clear, fun names mask out => ?range⟩
  case read =>
    refine (exec_reading (c := .readNotices p) rfl hs rfl rfl).trans ?_
    simp only [State.port_taking]
    rfl
  case clear =>
    refine ⟨(s.port p).notices.clearAll names, (mask.map NoticeSet.ofList).getD (s.port p).mask,
      NoticeSet.has_clearAll _ _, fun n => ?_, ?_⟩
    · cases mask with
      | none => rfl
      | some l => exact NoticeSet.has_ofList l n
    · have carried := State.clearNotices_named (s.taking p) p names mask
      rw [exec_clearNotices hs carried]
      simp only [State.port_taking]
      exact congrArg _ (State.answer_setPort_taking s p _ _ _ _ _ rfl)
  case range => exact exec_reading (c := .clearNotices p names mask) rfl hs rfl (State.clearNotices_unnamed _ p out)

/-! ### Requests turned away (R55, R173) -/

theorem State.frameArrives_request {s : State} {p : Port} {r : Request} (h : s.portOpen p) :
    s.requestArrives p r = (s.taking p).takeFrame p (.request r) := State.frameArrives_open h _

theorem State.dropReservation_dropReservation (s : State) (p : Port) : (s.dropReservation p).dropReservation p = s.dropReservation p := by
  simp [State.dropReservation]

/-- The register emptied at the taking, answered as the statements write it. -/
theorem State.answer_dropReservation (s : State) (p : Port) (b : Byte) (c : Code) (d : ResponseData) :
    ((s.taking p).dropReservation p).answer p b c d = (s.setPort p { s.port p with reservation := none }).answer p b c d :=
  State.answer_register s p none b c d

/-- A request refused before its owning block: the register emptied where the request reserves or is conditional. -/
theorem State.takeFrame_refusedEarly {s : State} {p : Port} {r : Request} {code : Code}
    (h : (s.taking p).judge p r = (s.taking p).refuseEarly p r code) :
    ∃ t, (t = State.answer (if isReserving r || isConditional r then s.setPort p { s.port p with reservation := none } else s)
        p (requestCode r) code .empty) ∧
      (s.taking p).takeFrame p (.request r) = if isReading r && !s.svu.badCodes.any (requestReads r) then t else t.arbitrate := by
  refine ⟨_, rfl, ?_⟩
  have built : (if isConditional r then ((s.taking p).refuseEarly p r code).1.dropReservation p
      else ((s.taking p).refuseEarly p r code).1).respond p (requestCode r) (.refuse code) =
      State.answer (if isReserving r || isConditional r then s.setPort p { s.port p with reservation := none } else s)
        p (requestCode r) code .empty := by
    rw [State.respond_eq_answer]
    cases reserves : isReserving r <;> cases conditional : isConditional r <;>
      simp only [State.refuseEarly, reserves, Bool.false_eq_true, if_false, if_true, Bool.or_false, Bool.or_true, Bool.or_self,
        State.dropReservation_dropReservation]
    · exact State.answer_taking _ _ _ _ _
    · exact State.answer_dropReservation _ _ _ _ _
    · exact State.answer_dropReservation _ _ _ _ _
    · exact State.answer_dropReservation _ _ _ _ _
  rw [← built]
  simp only [State.takeFrame, State.takeRequest, h, State.taking_svu]
  rfl

/-- Settles O17. -/
theorem requestsTurnedAway : Obligations.RequestsTurnedAway := by
  unfold Obligations.RequestsTurnedAway
  refine ⟨fun c p r s hc ho halted taken => ?_, fun c r s hc hs only => ?_⟩
  · have judged : (s.taking p).judge p r = (s.taking p).refuseEarly p r .refusedHalted := by
      simp [State.judge, halted, taken]
    obtain ⟨t, rfl, frame⟩ := State.takeFrame_refusedEarly judged
    rw [exec_request hc, State.frameArrives_request ho, frame, State.arbitrate_idle, ite_self]
    simp only [State.live, State.answer_svu, Bool.and_eq_false_iff, Bool.not_eq_false']
    right
    split <;> exact halted
  · obtain ⟨ho, runs, clean⟩ := hs
    have judged : (s.taking .maintenance).judge .maintenance r = (s.taking .maintenance).refuseEarly .maintenance r .refusedPort := by
      simp [State.judge, runs, only]
    have kind : isReserving r = false ∧ isReading r = false := by
      cases r <;> cases only <;> exact ⟨rfl, rfl⟩
    obtain ⟨reserves, moves⟩ := kind
    obtain ⟨t, rfl, frame⟩ := State.takeFrame_refusedEarly judged
    rw [exec_request hc, State.frameArrives_request ho, frame]
    simp [reserves, moves]

/-! ### The ports' buffers (R169 to R172) -/

theorem exec_frameArrives {c : Instr} {p : Port} {r : Request} (h : asRequest c = some (p, r)) (s : State) :
    exec c s = .next (s.frameArrives p (.request r)) := exec_request h s

/-- A malformed frame on an open port is answered REFUSED-FORMAT. -/
theorem State.frameArrives_malformed {s : State} {p : Port} (h : s.portOpen p) (code : Byte) :
    s.frameArrives p (.malformed code) = s.answer p code .refusedFormat .empty := by
  rw [State.frameArrives_open h]
  exact State.answer_taking s p _ _ _

/-- A frame that meets a held one sets the discard mark. -/
theorem State.frameArrives_held {s : State} {p : Port} (h : s.inReset = false) (held : (s.port p).request.isSome = true)
    (f : Frame) : s.frameArrives p f = s.markDiscard p := by
  simp [State.frameArrives, h, held]

/-- A frame completed on a READY maintenance port is held. -/
theorem State.frameArrives_ready {s : State} (h : s.inReset = false) (free : (s.port .maintenance).request = none)
    (ready : (s.port .maintenance).response.isSome = true) (f : Frame) :
    s.frameArrives .maintenance f = s.setPort .maintenance { s.port .maintenance with request := some f } := by
  simp [State.frameArrives, h, free, ready]

/-- The sending of a response ends: the port EMPTY, and the frame held on it taken. -/
theorem State.responseEnds_ready {s : State} (h : s.inReset = false) (ready : (s.port .maintenance).response.isSome = true) :
    s.responseEnds =
      let t := s.setPort .maintenance { s.port .maintenance with response := none, request := none }
      ((s.port .maintenance).request.map (t.takeFrame .maintenance)).getD t := by
  have present : (s.port .maintenance).response.isNone = false := by simpa using ready
  unfold State.responseEnds
  simp only [h, present, Bool.or_self, Bool.false_eq_true, if_false]
  split
  next e => rw [e]; rfl
  next e => rw [e]; rfl

/-- Settles O18. -/
theorem portBuffersWork : Obligations.PortBuffersWork := by
  unfold Obligations.PortBuffersWork
  refine ⟨fun s p bytes b => ⟨fun ho => ?format, fun ho => ?cut⟩, fun s live => ⟨fun p => ?discarded, fun p c r hc held => ?meets,
    fun c r hc free ready => ?holds, fun ready free => ?sent, fun code ready held => ?badHeld, fun c r hc ready held => ?heldTaken,
    ⟨(s.port .controller).statusByte, (s.port .controller).response⟩, rfl, rfl, ?whole, ?early⟩⟩
  case format => exact congrArg _ (State.frameArrives_malformed ho _)
  case cut => exact congrArg _ (State.frameArrives_malformed ho _)
  case discarded =>
    show Host.Outcome.next (if s.inReset then s else s.markDiscard p) = _
    rw [live]
    rfl
  case meets => rw [exec_frameArrives hc, State.frameArrives_held live held]; rfl
  case holds => rw [exec_frameArrives hc, State.frameArrives_ready live free ready]
  case sent =>
    show Host.Outcome.next s.responseEnds = _
    rw [State.responseEnds_ready live ready, free]
    show Host.Outcome.next (s.setPort .maintenance { s.port .maintenance with response := none, request := none }) = _
    rw [← free]
  case badHeld =>
    show Host.Outcome.next s.responseEnds = _
    rw [State.responseEnds_ready live ready, held]
    rfl
  case heldTaken =>
    show Host.Outcome.next s.responseEnds = _
    have open_ : (s.setPort .maintenance { s.port .maintenance with response := none, request := none }).portOpen .maintenance :=
      ⟨live, rfl, fun _ => rfl⟩
    rw [State.responseEnds_ready live ready, held, exec_frameArrives hc, State.frameArrives_open open_]
    rfl
  case whole =>
    show Host.Outcome.next (s.readOut true) = _
    simp [State.readOut, live]
  case early =>
    show Host.Outcome.next (s.readOut false) = _
    simp [State.readOut, live]

end Sys2Proof.Machine
end

section
/-! The requests of the staging record, of the switch entries and of a new hold (1.8, 2.3, 3.6), and their statements. -/

namespace Sys2Proof.Machine

/-! ### A request whose work the ports take no part in -/

section
variable {c : Instr} {p : Port} {r : Request} {s t : State} {d : Completion}

/-- As `exec_answered`, where the owning block leaves the ports alone: the answer is built on the ports as they stood. -/
theorem exec_answered_ports (hc : asRequest c = some (p, r)) (hs : s.ready p) (hp : p = .maintenance → controllerOnly r = false)
    (plain : isConditional r = false) (moves : isReading r = false) (hd : (s.taking p).carryOut p r = (t, d))
    (ports : t.rqi = (s.taking p).rqi) :
    exec c s = .next (State.answer { t with rqi := s.rqi } p (requestCode r) d.code d.data).arbitrate := by
  rw [exec_answered hc hs hp plain moves hd, State.answer_of_rqi ports]

end

/-! ### The staging record (R56, R57, R61, R62) -/

/-- Settles O27. -/
theorem openAndDiscardGroupEdit : Obligations.OpenAndDiscardGroupEdit := by
  unfold Obligations.OpenAndDiscardGroupEdit
  refine ⟨fun s p hs => ⟨fun l closed => ?opens, fun l busy => ?busy, ?range⟩, fun s p hs => ⟨fun closed => ?already, fun g own => ?discards⟩⟩
  case opens =>
    have carried : (s.taking p).carryOut p (.openGroupEdit (.named l)) =
        (State.taking { s with fsu.staging := some ⟨l, p, s.fsu.groups.get l⟩ } p, .done (.staging l (s.fsu.groups.get l))) := by
      simp [State.carryOut, State.openGroupEdit, named?, closed, State.group]
      rfl
    rw [exec_answered (c := .openGroupEdit p (.named l)) rfl hs (fun _ => rfl) rfl rfl carried, State.answer_taking]
    rfl
  case busy =>
    have carried : (s.taking p).carryOut p (.openGroupEdit (.named l)) = (s.taking p, .refuse .refusedBusy) := by
      simp [State.carryOut, State.openGroupEdit, named?, busy]
    exact (exec_unmoved (c := .openGroupEdit p (.named l)) rfl hs (fun _ => rfl) rfl rfl carried :)
  case range => exact (exec_unmoved (c := .openGroupEdit p .unnamed) rfl hs (fun _ => rfl) rfl rfl rfl :)
  case already =>
    have carried : (s.taking p).carryOut p .discardGroupEdit = (s.taking p, .already) := by
      simp [State.carryOut, State.discardGroupEdit, closed]
    exact (exec_unmoved (c := .discardGroupEdit p) rfl hs (fun _ => rfl) rfl rfl carried :)
  case discards =>
    by_cases right : g.owner = p ∨ s.lines.lkey = true
    · have carried : (s.taking p).carryOut p .discardGroupEdit =
          (State.taking { s with fsu.staging := none } p, .done (.discarded g.level g.owner)) := by
        simp [State.carryOut, State.discardGroupEdit, own, right]
        rfl
      rw [exec_answered (c := .discardGroupEdit p) rfl hs (fun _ => rfl) rfl rfl carried, State.answer_taking, if_pos right]
      rfl
    · have carried : (s.taking p).carryOut p .discardGroupEdit = (s.taking p, .refuse .refusedSequence) := by
        simp [State.carryOut, State.discardGroupEdit, own, right]
      rw [exec_unmoved (c := .discardGroupEdit p) rfl hs (fun _ => rfl) rfl rfl carried, if_neg right]
      rfl

theorem State.ownStaging_of {s : State} {p : Port} {g : Staging} (h : s.fsu.staging = some g) (own : g.owner = p) :
    s.ownStaging p = some g := by simp [State.ownStaging, h, own]

theorem State.ownStaging_none {s : State} {p : Port} (h : ∀ g, s.fsu.staging = some g → g.owner ≠ p) : s.ownStaging p = none := by
  unfold State.ownStaging
  cases e : s.fsu.staging with
  | none => rfl
  | some g => simp [h g e]

section
variable {s : State} {p : Port} {g : Staging}

/-- An edit in range is written into staging. -/
theorem exec_editGroup_inRange (hs : s.ready p) (open_ : s.fsu.staging = some g) (own : g.owner = p) {f : GroupField} {v : GroupValue}
    {group : Group} (h : g.group.edit f v = some group) :
    exec (.editGroup p (.named f) v) s = .next (State.arbitrate (State.answer
      { s with fsu.staging := some { g with group := group } } p 0x31 .done (.edited f v))) := by
  have carried : (s.taking p).carryOut p (.editGroup (.named f) v) =
      (State.taking { s with fsu.staging := some { g with group := group } } p, .done (.edited f v)) := by
    have owned := State.ownStaging_of (s := s.taking p) open_ own
    simp [State.carryOut, State.editGroup, owned, named?, h]
    rfl
  rw [exec_answered (c := .editGroup p (.named f) v) rfl hs (fun _ => rfl) rfl rfl carried, State.answer_taking]
  rfl

/-- An edit out of range leaves staging. -/
theorem exec_editGroup_outOfRange (hs : s.ready p) (open_ : s.fsu.staging = some g) (own : g.owner = p) {f : GroupField}
    {v : GroupValue} (h : g.group.edit f v = none) :
    exec (.editGroup p (.named f) v) s = .next (State.arbitrate (s.answer p 0x31 .refusedRange .empty)) := by
  have carried : (s.taking p).carryOut p (.editGroup (.named f) v) = (s.taking p, .refuse .refusedRange) := by
    have owned := State.ownStaging_of (s := s.taking p) open_ own
    simp [State.carryOut, State.editGroup, owned, named?, h]
  exact (exec_unmoved (c := .editGroup p (.named f) v) rfl hs (fun _ => rfl) rfl rfl carried :)

/-- A quantity in the range of its field is written, and any other is refused. -/
theorem exec_editGroup_quantity (hs : s.ready p) (open_ : s.fsu.staging = some g) (own : g.owner = p) {f : GroupField} {lo hi : Nat}
    {put : Nat → Group} (h : ∀ a, g.group.edit f (.quantity a) = if amountWithin a lo hi then some (put a.units) else none)
    (a : Amount) :
    (a.finer = false → lo ≤ a.units → a.units ≤ hi →
      exec (.editGroup p (.named f) (.quantity a)) s = .next (State.arbitrate (State.answer
        { s with fsu.staging := some { g with group := put a.units } } p 0x31 .done (.edited f (.quantity a))))) ∧
    (a.finer = true ∨ a.units < lo ∨ hi < a.units →
      exec (.editGroup p (.named f) (.quantity a)) s = .next (State.arbitrate (s.answer p 0x31 .refusedRange .empty))) := by
  refine ⟨fun whole low high => exec_editGroup_inRange hs open_ own ?_, fun out => exec_editGroup_outOfRange hs open_ own ?_⟩
  · rw [h, if_pos]
    simp [amountWithin, whole, low, high]
  · rw [h, if_neg]
    simp only [amountWithin, Bool.and_eq_true, Bool.not_eq_true', decide_eq_true_eq, not_and, not_le]
    intro inside
    obtain ⟨whole, low⟩ := inside
    rcases out with finer | below | above
    · rw [whole] at finer
      cases finer
    · omega
    · exact above

end

/-- Settles O28. -/
theorem editGroupEditsStaging : Obligations.EditGroupEditsStaging := by
  unfold Obligations.EditGroupEditsStaging
  refine ⟨fun s p g hs open_ own => ?_, fun s p hs other => ⟨?commit, fun f v => ?edit⟩⟩
  · intro edited quantity
    have ranged : ∀ f lo hi put, (∀ a, g.group.edit f (.quantity a) = if amountWithin a lo hi then some (put a.units) else none) →
        quantity f lo hi put := fun _ _ _ _ h => exec_editGroup_quantity hs open_ own h
    have marked : ∀ f b group, g.group.edit f (.yesNo b) = some group → edited f (.yesNo b) group :=
      fun _ _ _ h => exec_editGroup_inRange hs open_ own h
    have unnamed : ∀ v, exec (.editGroup p .unnamed v) s = .next (State.arbitrate (s.answer p 0x31 .refusedRange .empty)) := by
      intro v
      have carried : (s.taking p).carryOut p (.editGroup .unnamed v) = (s.taking p, .refuse .refusedRange) := by
        have owned := State.ownStaging_of (s := s.taking p) open_ own
        simp [State.carryOut, State.editGroup, owned, named?]
      exact (exec_unmoved (c := .editGroup p .unnamed v) rfl hs (fun _ => rfl) rfl rfl carried :)
    clear_value quantity edited
    exact ⟨ranged _ _ _ _ fun _ => rfl, ranged _ _ _ _ fun _ => rfl, ranged _ _ _ _ fun _ => rfl, ranged _ _ _ _ fun _ => rfl,
      ranged _ _ _ _ fun _ => rfl, ranged _ _ _ _ fun _ => rfl, ranged _ _ _ _ fun _ => rfl, ranged _ _ _ _ fun _ => rfl,
      fun b => marked _ b _ rfl, fun b => marked _ b _ rfl, fun b => marked _ b _ rfl, fun b => marked _ b _ rfl, unnamed⟩
  case commit =>
    have carried : (s.taking p).carryOut p .commitGroup = (s.taking p, .refuse .refusedSequence) := by
      have none := State.ownStaging_none (s := s.taking p) other
      simp [State.carryOut, State.commitGroup, none]
    exact (exec_unmoved (c := .commitGroup p) rfl hs (fun _ => rfl) rfl rfl carried :)
  case edit =>
    have carried : (s.taking p).carryOut p (.editGroup f v) = (s.taking p, .refuse .refusedSequence) := by
      have none := State.ownStaging_none (s := s.taking p) other
      simp [State.carryOut, State.editGroup, none]
    exact (exec_unmoved (c := .editGroup p f v) rfl hs (fun _ => rfl) rfl rfl carried :)

/-! ### The switch entries (R12, R13) -/

/-- The fields of a loaded switch entry are in range. -/
def switchFits (e : SwitchLoad) (k : SwitchNo) (cls : SwitchClass) : Prop :=
  1 ≤ e.address ∧ e.address ≤ 254 ∧ 1 ≤ e.multiplier ∧ e.multiplier ≤ 4000 ∧ e.shift ≤ 3 ∧
    (∀ m, e.mechanism = some m → m.finer = false ∧ 5 ≤ m.units ∧ m.units ≤ 100) ∧ (k = 0 ↔ cls = .headBreaker)

theorem optAmount_iff (o : Option Amount) (lo hi : Nat) :
    optAmount o lo hi = true ↔ ∀ m, o = some m → m.finer = false ∧ lo ≤ m.units ∧ m.units ≤ hi := by
  cases o <;> simp [optAmount, amountWithin, and_assoc]

/-- An entry is taken exactly when its fields are named and in range. -/
theorem switchLoad?_eq_some {k : SwitchNo} {e : SwitchLoad} {z : ZoneNo} {cls : SwitchClass} {sensing : Bool}
    (hz : e.downstream = z.val) (hc : e.cls = .named cls) (hn : e.sensing = .named sensing) (fits : switchFits e k cls) :
    switchLoad? k e = some
      { cls := cls, address := BitVec.ofNat 8 e.address, downstream := z, sensing := sensing
        multiplier := e.multiplier, shift := e.shift, mechanism := match e.mechanism with | some m => m.units | none => 30 } := by
  obtain ⟨a, b, c, d, sh, mech, head⟩ := fits
  have time := (optAmount_iff e.mechanism 5 100).mpr mech
  have kind : ((k == 0) == (cls == .headBreaker)) = true := by
    by_cases zero : k = 0
    · simp [zero, head.mp zero]
    · have : cls ≠ .headBreaker := fun h => zero (head.mpr h)
      simp [zero, this]
  unfold switchLoad?
  simp only [hz, hc, hn, zoneNo?_val, named?, a, b, c, d, sh, time, kind, decide_true, Bool.and_self, if_true]
  cases e.mechanism <;> rfl

theorem switchLoad?_eq_none {k : SwitchNo} {e : SwitchLoad}
    (out : e.address = 0 ∨ 254 < e.address ∨ 31 < e.downstream ∨ e.multiplier = 0 ∨ 4000 < e.multiplier ∨ 3 < e.shift
      ∨ (∃ m, e.mechanism = some m ∧ (m.finer = true ∨ m.units < 5 ∨ 100 < m.units))
      ∨ ¬ (k = 0 ↔ e.cls = .named .headBreaker) ∨ e.cls = .unnamed ∨ e.sensing = .unnamed) : switchLoad? k e = none := by
  unfold switchLoad?
  split
  next z cls sensing hz hc hn =>
    rw [if_neg]
    intro inRange
    simp only [Bool.and_eq_true, decide_eq_true_eq, optAmount_iff, beq_iff_eq] at inRange
    obtain ⟨⟨⟨⟨⟨⟨a, b⟩, c⟩, d⟩, sh⟩, mech⟩, kind⟩ := inRange
    have zone : e.downstream < 32 := by
      by_contra high
      rw [zoneNo?_eq_none (by omega)] at hz
      cases hz
    have cls' : e.cls = .named cls := by
      cases h : e.cls <;> simp_all [named?]
    have sensing' : e.sensing ≠ .unnamed := fun h => by simp [h, named?] at hn
    rcases out with h | h | h | h | h | h | ⟨m, em, h⟩ | h | h | h
    · omega
    · omega
    · omega
    · omega
    · omega
    · omega
    · have := mech m em
      rcases h with finer | low | high
      · rw [finer] at this; cases this.1
      · omega
      · omega
    · refine h ?_
      rw [cls']
      by_cases zero : k = 0
      · simp_all
      · simp_all
    · rw [cls'] at h; cases h
    · exact sensing' h
  next => rfl

theorem State.configureBusy_eq (s : State) (k : SwitchNo) : s.configureBusy k = true ↔
    (s.runtime k).slot.isSome = true ∨ (s.runtime k).inFlight.isSome = true ∨ s.ehu.huntCase.step.isSome = true := by
  simp [State.configureBusy, State.stepUnderWay, or_assoc]

theorem State.configureBusy_false {s : State} {k : SwitchNo} (slot : (s.runtime k).slot = none)
    (flight : (s.runtime k).inFlight = none) (step : s.ehu.huntCase.step = none) : s.configureBusy k = false := by
  rw [← Bool.not_eq_true, State.configureBusy_eq]
  simp [slot, flight, step]

/-- What a write of a switch entry leaves (R12, R13). -/
theorem State.writeConfig_spec {s : State} (clean : s.svu.badCodes = []) (k : SwitchNo) (c : Option SwitchConfig) :
    (s.writeConfig k c).config k = c ∧ (∀ j, j ≠ k → (s.writeConfig k c).config j = s.config j)
      ∧ (s.writeConfig k c).fmu.reachTable = none ∧ (s.writeConfig k c).fmu.zones = s.fmu.zones
      ∧ (s.writeConfig k c).fmu.mode = s.fmu.mode
      ∧ (s.writeConfig k c).runtime k = Runtime.start ∧ (∀ j, j ≠ k → (s.writeConfig k c).runtime j = s.runtime j)
      ∧ (s.writeConfig k c).sou = { s.sou with
          runtime := (s.writeConfig k c).sou.runtime
          awaited := s.sou.awaited.map fun a => if a.switch = k then { a with withdrawn := true } else a }
      ∧ (s.writeConfig k c).htu = s.htu ∧ (s.writeConfig k c).fsu = s.fsu ∧ (s.writeConfig k c).rcs = s.rcs
      ∧ (s.writeConfig k c).ehu = s.ehu ∧ (s.writeConfig k c).svu = s.svu ∧ (s.writeConfig k c).rqi = s.rqi := by
  refine ⟨?_, fun j hj => ?_, rfl, rfl, rfl, ?_, fun j hj => ?_, rfl, rfl, rfl, rfl, rfl, ?_, rfl⟩
  · simp [State.writeConfig, State.config, State.withdrawRuntime, State.setRuntime, State.recode]
  · have : (k : Nat) ≠ j := fun h => hj (Fin.ext h.symm)
    simp [State.writeConfig, State.config, State.withdrawRuntime, State.setRuntime, State.recode, this]
  · exact State.runtime_setRuntime_same _ _ _
  · exact State.runtime_setRuntime_other _ _ hj
  · have same : s.svu.badCodes.filter (· != .switch k) = s.svu.badCodes := by rw [clean]; rfl
    simp only [State.writeConfig, State.withdrawRuntime, State.setRuntime, State.recode, same]

/-- The requests of a switch entry that pass their checks write it. -/
theorem exec_writesConfig {c : Instr} {p : Port} {r : Request} {s : State} {k : SwitchNo} {entry : Option SwitchConfig}
    (hc : asRequest c = some (p, r)) (hs : s.ready p) (hp : p = .maintenance → controllerOnly r = false)
    (plain : isConditional r = false) (moves : isReading r = false) (code : requestCode r = 0x13)
    (mode : s.fmu.mode = .commissioning)
    (hd : (s.taking p).carryOut p r = ((s.taking p).writeConfig k entry, .done)) :
    ∃ t : State, exec c s = .next (State.arbitrate (t.answer p 0x13 .done .empty))
      ∧ t.config k = entry ∧ (∀ j, j ≠ k → t.config j = s.config j)
      ∧ t.fmu.reachTable = none ∧ t.fmu.zones = s.fmu.zones ∧ t.fmu.mode = .commissioning
      ∧ t.runtime k = Runtime.start ∧ (∀ j, j ≠ k → t.runtime j = s.runtime j)
      ∧ t.sou = { s.sou with
          runtime := t.sou.runtime
          awaited := s.sou.awaited.map fun a => if a.switch = k then { a with withdrawn := true } else a }
      ∧ t.htu = s.htu ∧ t.fsu = s.fsu ∧ t.rcs = s.rcs ∧ t.ehu = s.ehu ∧ t.svu = s.svu ∧ t.rqi = s.rqi := by
  have clean : (s.taking p).svu.badCodes = [] := hs.2.2
  obtain ⟨config, others, reach, zones, mode', runtime, runtimes, sou, htu, fsu, rcs, ehu, svu, rqi⟩ :=
    State.writeConfig_spec clean k entry
  refine ⟨{ (s.taking p).writeConfig k entry with rqi := s.rqi }, ?_, config, others, reach, zones, mode'.trans mode, runtime,
    runtimes, sou, htu, fsu, rcs, ehu, svu, rfl⟩
  rw [exec_answered_ports hc hs hp plain moves hd rqi, code]
  rfl

section
variable {s : State} (p : Port) (k : SwitchNo) {e : SwitchLoad}

theorem State.configureSwitch_service (n : Nat) (mode : s.fmu.mode = .service) :
    s.configureSwitch n e = (s, .refuse .refusedMode) := by simp [State.configureSwitch, mode]

theorem State.removeSwitch_service (n : Nat) (mode : s.fmu.mode = .service) :
    s.removeSwitch n = (s, .refuse .refusedMode) := by simp [State.removeSwitch, mode]

theorem State.configureSwitch_outOfRange {n : Nat} (mode : s.fmu.mode = .commissioning)
    (out : ∀ k : SwitchNo, k.val = n → switchLoad? k e = none) : s.configureSwitch n e = (s, .refuse .refusedRange) := by
  unfold State.configureSwitch
  simp only [mode, reduceCtorEq, if_false]
  by_cases low : n < 16
  · have same := switchNo?_val ⟨n, low⟩
    simp only at same
    simp [same, out ⟨n, low⟩ rfl]
  · simp [switchNo?_eq_none (show 16 ≤ n by omega)]

theorem State.configureSwitch_some {c : SwitchConfig} (mode : s.fmu.mode = .commissioning) (load : switchLoad? k e = some c) :
    s.configureSwitch k.val e = if s.configureBusy k then (s, .refuse .refusedBusy) else (s.writeConfig k (some c), .done) := by
  simp [State.configureSwitch, mode, load]

theorem State.removeSwitch_outOfRange {n : Nat} (mode : s.fmu.mode = .commissioning) (out : 16 ≤ n) :
    s.removeSwitch n = (s, .refuse .refusedRange) := by
  simp [State.removeSwitch, mode, switchNo?_eq_none out]

theorem State.removeSwitch_val (mode : s.fmu.mode = .commissioning) : s.removeSwitch k.val =
    if s.configureBusy k then (s, .refuse .refusedBusy) else if s.configured k = false then (s, .already)
    else (s.writeConfig k none, .done) := by
  simp [State.removeSwitch, mode]

end

/-- Settles O20. -/
theorem configureSwitchWritesTheEntry : Obligations.ConfigureSwitchWritesTheEntry := by
  unfold Obligations.ConfigureSwitchWritesTheEntry
  refine ⟨?written, fun s p k hs mode slot flight step => ⟨fun bare => ?already, fun configured => ?removed⟩,
    fun s p e hs => ⟨fun mode n => ⟨?serviceEntry, ?serviceRemoval⟩, fun mode => ⟨fun n out => ?range, fun n out => ?removalRange,
      fun k busy => ⟨?busyRemoval, fun a b z c d sh mech head cls sensing => ?busyEntry⟩⟩⟩⟩
  case written =>
    intro s p k z cls sensing e hs mode hcls hsensing slot flight step hz a b c d sh mech head
    have load := switchLoad?_eq_some hz hcls hsensing ⟨a, b, c, d, sh, mech, head⟩
    have free := State.configureBusy_false (s := s.taking p) slot flight step
    have carried := State.configureSwitch_some (s := s.taking p) k mode load
    rw [free] at carried
    exact exec_writesConfig (c := .configureSwitch p k.val e) rfl hs (fun _ => rfl) rfl rfl rfl mode carried
  case already =>
    have free := State.configureBusy_false (s := s.taking p) slot flight step
    have carried := State.removeSwitch_val (s := s.taking p) k mode
    rw [free, if_neg (by simp), if_pos (show (s.taking p).configured k = false from bare)] at carried
    exact (exec_unmoved (c := .configureSwitchRemoval p k.val) rfl hs (fun _ => rfl) rfl rfl carried :)
  case removed =>
    have free := State.configureBusy_false (s := s.taking p) slot flight step
    have carried := State.removeSwitch_val (s := s.taking p) k mode
    rw [free, if_neg (by simp), if_neg (show ¬ (s.taking p).configured k = false by
      rw [show (s.taking p).configured k = s.configured k from rfl, configured]; simp)] at carried
    exact exec_writesConfig (c := .configureSwitchRemoval p k.val) rfl hs (fun _ => rfl) rfl rfl rfl mode carried
  case serviceEntry =>
    exact (exec_unmoved (c := .configureSwitch p n e) rfl hs (fun _ => rfl) rfl rfl
      (State.configureSwitch_service (s := s.taking p) n mode) :)
  case serviceRemoval =>
    exact (exec_unmoved (c := .configureSwitchRemoval p n) rfl hs (fun _ => rfl) rfl rfl
      (State.removeSwitch_service (s := s.taking p) n mode) :)
  case range =>
    have refused : ∀ k : SwitchNo, k.val = n → switchLoad? k e = none := by
      intro k hk
      have zero : k = 0 ↔ n = 0 := by rw [← hk, Fin.ext_iff]; rfl
      rcases out with high | out
      · omega
      · rw [← zero] at out
        exact switchLoad?_eq_none out
    exact (exec_unmoved (c := .configureSwitch p n e) rfl hs (fun _ => rfl) rfl rfl
      (State.configureSwitch_outOfRange (s := s.taking p) mode refused) :)
  case removalRange =>
    exact (exec_unmoved (c := .configureSwitchRemoval p n) rfl hs (fun _ => rfl) rfl rfl
      (State.removeSwitch_outOfRange (s := s.taking p) mode out) :)
  case busyRemoval =>
    have carried := State.removeSwitch_val (s := s.taking p) k mode
    rw [if_pos (((s.taking p).configureBusy_eq k).mpr busy)] at carried
    exact (exec_unmoved (c := .configureSwitchRemoval p k.val) rfl hs (fun _ => rfl) rfl rfl carried :)
  case busyEntry =>
    obtain ⟨cls', hcls⟩ : ∃ x, e.cls = .named x := by
      cases h : e.cls with
      | named x => exact ⟨x, rfl⟩
      | unnamed => exact absurd h cls
    obtain ⟨sensing', hsensing⟩ : ∃ x, e.sensing = .named x := by
      cases h : e.sensing with
      | named x => exact ⟨x, rfl⟩
      | unnamed => exact absurd h sensing
    have head' : k = 0 ↔ cls' = .headBreaker := by rw [head, hcls]; simp
    have load := switchLoad?_eq_some (z := ⟨e.downstream, by omega⟩) rfl hcls hsensing ⟨a, b, c, d, sh, mech, head'⟩
    have carried := State.configureSwitch_some (s := s.taking p) k mode load
    rw [if_pos (((s.taking p).configureBusy_eq k).mpr busy)] at carried
    exact (exec_unmoved (c := .configureSwitch p k.val e) rfl hs (fun _ => rfl) rfl rfl carried :)

/-! ### A new hold (R23 to R27) -/

theorem scope?_eq_some {l : List Nat} (some_ : l ≠ []) (low : ∀ z ∈ l, z ≤ 31) :
    scope? l = some (zonesWhere fun z => l.contains z.val) := by
  unfold scope?
  rw [if_neg]
  simp only [Bool.or_eq_true, List.isEmpty_iff, List.any_eq_true, decide_eq_true_eq, not_or, not_exists, not_and, not_le]
  exact ⟨some_, fun z hz => by have := low z hz; omega⟩

theorem scope?_eq_none {l : List Nat} (out : l = [] ∨ ∃ z ∈ l, 31 < z) : scope? l = none := by
  unfold scope?
  rw [if_pos]
  simp only [Bool.or_eq_true, List.isEmpty_iff, List.any_eq_true, decide_eq_true_eq]
  exact out

/-- The placement a body in range asks for (R24). -/
theorem State.placement?_eq_some (s : State) (p : Port) {b : PlaceBody} {kind : HoldKind} {strength : Strength}
    (some_ : b.scope ≠ []) (low : ∀ z ∈ b.scope, z ≤ 31) (hkind : b.kind = .named kind) (hstrength : b.strength = .named strength)
    (owner : strength = .owned → b.tag.isSome = true) (tag : b.tag ≠ some 0)
    (expiry : ∀ m, b.expiry = some m → strength ≠ .pinned ∧ s.svu.minute < m) :
    s.placement? p b = some
      { kind := kind, strength := strength, origin := originOf p, scope := zonesWhere fun z => b.scope.contains z.val
        tag := b.tag, expiry := b.expiry, reason := b.reason, cause := none, placed := s.svu.minute, version := 0 } := by
  unfold State.placement?
  simp only [scope?_eq_some some_ low, hkind, hstrength, named?]
  rw [if_neg]
  simp only [Bool.or_eq_true, Bool.and_eq_true, beq_iff_eq, not_or, not_and]
  refine ⟨⟨⟨fun h => ?_, fun h => ?_⟩, ?_⟩, tag⟩
  · have := owner h
    cases e : b.tag <;> simp_all
  · cases e : b.expiry with
    | none => simp
    | some m => exact absurd h (expiry m e).1
  · cases e : b.expiry with
    | none => simp
    | some m =>
      have later := (expiry m e).2
      simpa [BitVec.lt_def] using later

theorem State.placement?_eq_none (s : State) (p : Port) {b : PlaceBody}
    (out : b.scope = [] ∨ (∃ z ∈ b.scope, 31 < z) ∨ b.kind = .unnamed ∨ b.strength = .unnamed
      ∨ (b.strength = .named .owned ∧ b.tag = none) ∨ (b.strength = .named .pinned ∧ b.expiry.isSome = true)
      ∨ (∃ m, b.expiry = some m ∧ m ≤ s.svu.minute)) : s.placement? p b = none := by
  unfold State.placement?
  split
  next z kind strength hz hk hg =>
    rw [if_pos]
    simp only [Bool.or_eq_true, Bool.and_eq_true, beq_iff_eq]
    rcases out with h | h | h | h | ⟨h, tag⟩ | ⟨h, expiry⟩ | ⟨m, h, early⟩
    · rw [scope?_eq_none (.inl h)] at hz; cases hz
    · rw [scope?_eq_none (.inr h)] at hz; cases hz
    · simp [h, named?] at hk
    · simp [h, named?] at hg
    · simp only [h, named?, Option.some.injEq] at hg
      exact .inl (.inl (.inl ⟨hg.symm, by simp [tag]⟩))
    · simp only [h, named?, Option.some.injEq] at hg
      exact .inl (.inl (.inr ⟨hg.symm, expiry⟩))
    · refine .inl (.inr ?_)
      simpa [h, BitVec.le_def] using early
  next => rfl

/-- The reach is read from the feeder model, the positions and the free-value counter. -/
theorem State.reach_congr {s t : State} (hd : t.draws = s.draws) (hf : t.fmu = s.fmu) (hs : t.sou = s.sou) (k : SwitchNo) :
    t.reach k = s.reach k := by
  simp only [State.reach, State.walkReach, hf, hd, State.config_congr hf, State.runtime_congr hs]

/-- The switches whose CLOSE in flight a hold would block, by R39. -/
theorem State.tooLate_eq {s t : State} (hd : t.draws = s.draws) (hf : t.fmu = s.fmu) (hs : t.sou = s.sou) (h : Hold) :
    t.tooLate h = allSwitches.filter fun k => (s.runtime k).inFlight.any fun f =>
      f.request.action == .toClose && h.scope.meets (s.reach k)
        && (h.kind == .noClose || f.request.classes.closeKind == .automatic) := by
  simp only [State.tooLate, Hold.blocks, State.runtime_congr hs, State.reach_congr hd hf hs, Bool.and_assoc]

/-- Settles O23. -/
theorem placeHoldPlaces : Obligations.PlaceHoldPlaces := by
  unfold Obligations.PlaceHoldPlaces
  refine ⟨?placed, fun s p b hs => ⟨fun out => ?range, fun fits full => ?full⟩⟩
  case placed =>
    intro s p b kind strength i hs some_ low hkind hstrength owner tag expiry room empty lower
    let h : Hold := { kind := kind, strength := strength, origin := originOf p, scope := zonesWhere fun z => b.scope.contains z.val
                      tag := b.tag, expiry := b.expiry, reason := b.reason, cause := none, placed := s.svu.minute, version := 0 }
    have asked : (s.taking p).placement? p b = some h :=
      State.placement?_eq_some _ p some_ low hkind hstrength owner tag expiry
    have placed := State.placeHold_of (s := s.taking p) empty lower h
    have slot := State.placeHold_slot (s := s.taking p) empty lower h
    obtain ⟨-, draws, -, fmu, fsu, sou, rcs, ehu, svu⟩ := State.placeHold_frame (s.taking p) h
    have late := State.tooLate_eq (s := s) (t := ((s.taking p).placeHold h).1) draws fmu sou h
    have counts : ((s.taking p).placeHold h).1.htu.counts = s.htu.counts.modify (· + 1) (originOf p) := by rw [placed]; rfl
    have ports : ((s.taking p).placeHold h).1.rqi = ((s.notify .hold).taking p).rqi := by
      rw [placed]
      cases p <;> rfl
    have handle : ((s.taking p).placeHold h).2 = some ⟨i, (s.slot i).useCount⟩ := by rw [placed]; rfl
    clear placed
    have carried : (s.taking p).carryOut p (.placeHold b) = (((s.taking p).placeHold h).1,
        .done (.placed ⟨i, (s.slot i).useCount⟩ 0 (((s.taking p).placeHold h).1.tooLate h))) := by
      have space : ¬ Config.portHolds ≤ (s.taking p).htu.counts.controller + (s.taking p).htu.counts.maintenance :=
        Nat.not_le_of_lt room
      show (s.taking p).placeRequest p b = _
      unfold State.placeRequest
      simp only [asked, space, if_false]
      generalize (s.taking p).placeHold h = x at handle
      obtain ⟨t, y⟩ := x
      cases handle
      rfl
    have answered := exec_answered (c := .placeHold p b) rfl hs (fun _ => rfl) rfl rfl carried
    rw [State.answer_of_rqi ports] at answered
    generalize ((s.taking p).placeHold h).1 = t at *
    refine ⟨h, { t with rqi := (s.notify .hold).rqi }, rfl, ?_, ?_, fun j hj => ?_, counts, rfl, fmu, fsu, sou, rcs, ehu, svu⟩
    · rw [answered, late]
      rfl
    · exact (slot i).trans (if_pos rfl)
    · exact (slot j).trans (if_neg (Ne.symm hj))
  case range =>
    have none := State.placement?_eq_none (s.taking p) p (b := b) out
    have carried : (s.taking p).carryOut p (.placeHold b) = (s.taking p, .refuse .refusedRange) := by
      simp [State.carryOut, State.placeRequest, none]
    exact (exec_unmoved (c := .placeHold p b) rfl hs (fun _ => rfl) rfl rfl carried :)
  case full =>
    obtain ⟨h, asked⟩ := Option.isSome_iff_exists.mp fits
    have carried : (s.taking p).carryOut p (.placeHold b) = (s.taking p, .refuse .refusedFull) := by
      have asked' : (s.taking p).placement? p b = some h := asked
      simp [State.carryOut, State.placeRequest, asked', Config.portHolds, full]
    exact (exec_unmoved (c := .placeHold p b) rfl hs (fun _ => rfl) rfl rfl carried :)

end Sys2Proof.Machine
end

section
/-! The requests of the switches' records and of the link settings, the poll timers, and the commands that find nothing to act on
(5.4, 5.6, 5.8, 5.9, 12). -/

namespace Sys2Proof.Machine

/-! ### Polls wanted (R100) -/

theorem Runtime.wantPoll_isSome (r : Runtime) (c : PollClass) : (r.wantPoll c).pollWanted.isSome = true := by
  unfold Runtime.wantPoll
  split
  next e =>
    split
    · rfl
    · rw [e]; rfl
  next => rfl

theorem Runtime.wantPoll_none {r : Runtime} (h : r.pollWanted = none) (c : PollClass) :
    r.wantPoll c = { r with pollWanted := some c } := by simp [Runtime.wantPoll, h]

theorem State.wantPoll_other (s : State) {j k : SwitchNo} (h : j ≠ k) (c : PollClass) : (s.wantPoll k c).runtime j = s.runtime j :=
  State.runtime_setRuntime_other _ _ h

theorem State.wantPoll_same (s : State) (k : SwitchNo) (c : PollClass) : (s.wantPoll k c).runtime k = (s.runtime k).wantPoll c :=
  State.runtime_setRuntime_same _ _ _

/-- Polls wanted of the switches of a list without repetitions: each of its switches wants one, and no other changes. -/
theorem foldl_wantPoll_runtime {l : List SwitchNo} (hl : l.Nodup) (c : PollClass) (s : State) (k : SwitchNo) :
    (l.foldl (fun u k => u.wantPoll k c) s).runtime k = if k ∈ l then (s.runtime k).wantPoll c else s.runtime k := by
  induction l generalizing s with
  | nil => simp
  | cons j l ih =>
    obtain ⟨fresh, hl⟩ := List.nodup_cons.mp hl
    rw [List.foldl_cons, ih hl]
    by_cases e : k = j
    · subst e
      simp [fresh, State.wantPoll_same]
    · simp [e, State.wantPoll_other s e]

theorem foldl_wantPoll_eq (l : List SwitchNo) (c : PollClass) (s : State) :
    l.foldl (fun u k => u.wantPoll k c) s = { s with sou.runtime := (l.foldl (fun u k => u.wantPoll k c) s).sou.runtime } := by
  induction l generalizing s with
  | nil => rfl
  | cons k l ih => rw [List.foldl_cons, ih]; rfl

/-- Settles O43. -/
theorem pollTimersExpire : Obligations.PollTimersExpire := by
  unfold Obligations.PollTimersExpire
  intro s hs
  refine ⟨fun running => ?routine, fun running => ?head⟩
  case routine =>
    refine ⟨s.routineExpired, congrArg _ (State.expiry_working hs (·.sou.routineTimer) _ _ running), ?_, fun k => ?_⟩
    · unfold State.routineExpired
      dsimp only
      rw [foldl_wantPoll_eq]
      rfl
    · have polled := foldl_wantPoll_runtime (l := allSwitches.filter s.routinePolls)
        ((List.nodup_finRange 16).filter _) .routine s k
      refine Eq.trans (show s.routineExpired.runtime k = (State.runtime _ k) from rfl) (polled.trans ?_)
      have picked : k ∈ allSwitches.filter s.routinePolls ↔ s.configured k = true ∧ s.fmu.mode = .service
          ∧ (s.runtime k).condition ≠ .failed ∧ (s.runtime k).pollWanted = none := by
        simp [mem_allSwitches, State.routinePolls, State.inService, and_assoc]
      simp only [picked]
      split
      next h => rw [Runtime.wantPoll_none h.2.2.2]
      next => rfl
  case head =>
    refine ⟨s.headExpired, congrArg _ (State.expiry_working hs (·.sou.headTimer) _ _ running), ?_, fun k hk => ?_, ?_⟩
    · unfold State.headExpired
      dsimp only
      split <;> rfl
    · unfold State.headExpired
      dsimp only
      split
      · rfl
      · exact State.wantPoll_other s hk _
    · have wanted : (s.runtime 0).wantPoll .head = if (s.runtime 0).pollWanted = some .hunt then s.runtime 0
          else { s.runtime 0 with pollWanted := some .head } := by
        unfold Runtime.wantPoll
        cases e : (s.runtime 0).pollWanted with
        | none => simp
        | some c => 
          cases c
          case hunt => rfl
          case head => exact (congrArg (fun w => { s.runtime 0 with pollWanted := w }) e :)
          case routine => rfl
      unfold State.headExpired
      dsimp only
      split
      next failed => rw [if_pos (.inl failed)]; rfl
      next fit =>
        refine (State.wantPoll_same s 0 .head).trans (wanted.trans ?_)
        simp only [fit, false_or]

/-! ### CLEAR SWITCH FAILURE and RETRY PROFILE (R93, R99) -/

theorem State.setRuntime_self (s : State) (k : SwitchNo) : s.setRuntime k (s.runtime k) = s := by
  simp [State.setRuntime, State.runtime]

/-- A condition cleared: the record is SOUND, the EHU may resume its case, and polls may be wanted. -/
theorem State.setCondition_sound (s : State) (k : SwitchNo) :
    (s.setRuntime k { s.runtime k with condition := .sound }).Polled (s.setCondition k .sound) := by
  unfold State.setCondition
  split
  next sound =>
    have same : s.setRuntime k { s.runtime k with condition := .sound } = s := by
      rw [show ({ s.runtime k with condition := .sound } : Runtime) = s.runtime k by rw [← sound]]
      exact State.setRuntime_self s k
    rw [same]
    exact .refl s
  next =>
    unfold State.conditionReport
    split
    · exact State.checkResume_polled _
    · split
      next head =>
        simp only [Bool.and_eq_true, beq_iff_eq, bne_iff_ne, ne_eq] at head
        obtain ⟨rfl, unsound⟩ := head
        exact absurd (by rw [State.runtime_setRuntime_same]) unsound
      next => exact .refl _

/-- CLEAR SWITCH FAILURE of a configured switch. -/
theorem State.clearFailure_configured {s : State} {k : SwitchNo} (h : s.configured k = true) :
    ∃ t, s.clearFailure k.val = (t, if (s.runtime k).condition = .failed then .done else .already)
      ∧ (s.setRuntime k { s.runtime k with condition := .sound }).Polled t
      ∧ ((s.runtime k).condition = .failed → s.fmu.mode = .service → (t.runtime k).pollWanted.isSome = true)
      ∧ ((s.runtime k).condition = .sound → t = s) := by
  have cleared := State.setCondition_sound s k
  by_cases failed : (s.runtime k).condition = .failed
  · by_cases service : s.fmu.mode = .service
    · refine ⟨(s.setCondition k .sound).wantPoll k .routine, ?_, cleared.trans (State.wantPoll_polled _ k .routine),
        fun _ _ => ?_, fun sound => ?_⟩
      · simp [State.clearFailure, h, failed, service]
      · rw [State.wantPoll_same]
        exact Runtime.wantPoll_isSome _ _
      · rw [sound] at failed
        cases failed
    · refine ⟨s.setCondition k .sound, by simp [State.clearFailure, h, failed, service], cleared,
        fun _ mode => absurd mode service, fun sound => ?_⟩
      rw [sound] at failed
      cases failed
  · refine ⟨s.setCondition k .sound, by simp [State.clearFailure, h, failed], cleared, fun h => absurd h failed, fun sound => ?_⟩
    simp [State.setCondition, sound]

theorem State.clearFailure_unconfigured {s : State} {k : SwitchNo} (h : s.configured k = false) :
    s.clearFailure k.val = (s, .refuse .refusedState) := by simp [State.clearFailure, h]

theorem State.clearFailure_outOfRange (s : State) {n : Nat} (h : 16 ≤ n) : s.clearFailure n = (s, .refuse .refusedRange) := by
  simp [State.clearFailure, switchNo?_eq_none h]

section
variable {s : State} {k : SwitchNo}

theorem State.retryProfile_unconfigured (h : s.configured k = false) : s.retryProfile k.val = (s, .refuse .refusedState) := by
  simp [State.retryProfile, h]

theorem State.retryProfile_outOfRange (s : State) {n : Nat} (h : 16 ≤ n) : s.retryProfile n = (s, .refuse .refusedRange) := by
  simp [State.retryProfile, switchNo?_eq_none h]

theorem State.retryProfile_failed (h : s.configured k = true) (failed : (s.runtime k).condition = .failed) :
    s.retryProfile k.val = (s, .refuse .refusedFailed) := by
  simp [State.retryProfile, h, failed]

theorem State.retryProfile_noProfile (h : s.configured k = true) (fit : (s.runtime k).condition ≠ .failed)
    (none : s.requiredProfile k = none) : s.retryProfile k.val = (s, .refuse .refusedState) := by
  simp [State.retryProfile, h, fit, none]

theorem State.retryProfile_confirmed {code : Nat} (h : s.configured k = true) (fit : (s.runtime k).condition ≠ .failed)
    (required : s.requiredProfile k = some code) (state : (s.runtime k).profileState = .confirmed)
    (confirmed : (s.runtime k).confirmed = some code) : s.retryProfile k.val = (s, .already (.switchNumber k)) := by
  simp [State.retryProfile, h, fit, required, state, confirmed]

theorem State.retryProfile_pushes {code : Nat} (h : s.configured k = true) (fit : (s.runtime k).condition ≠ .failed)
    (required : s.requiredProfile k = some code)
    (owed : (s.runtime k).profileState ≠ .confirmed ∨ (s.runtime k).confirmed ≠ some code) :
    s.retryProfile k.val = (if (s.runtime k).pushWanted || s.pushAwaited k then s
      else s.setRuntime k { s.runtime k with pushWanted := true, profileState := .pending }, .accepted (.switchNumber k)) := by
  have open_ : ((s.runtime k).profileState = .confirmed && (s.runtime k).confirmed = some code) = false := by
    simpa [imp_iff_not_or] using owed
  simp only [State.retryProfile, switchNo?_val, h, fit, required, open_, Bool.not_true, Bool.false_eq_true, if_false]
  split <;> rfl

end

/-- Settles O34. -/
theorem failureClearedAndProfileRetried : Obligations.FailureClearedAndProfileRetried := by
  unfold Obligations.FailureClearedAndProfileRetried
  intro s p k hs
  refine ⟨fun bare => ⟨?clearBare, ?retryBare⟩, fun configured => ⟨?clear, fun failed => ?retryFailed, fun fit none => ?retryNone,
    fun code fit required => ⟨fun state confirmed => ?retryMet, fun owed => ?retry⟩⟩, fun n out => ⟨?clearRange, ?retryRange⟩⟩
  case clearBare =>
    exact (exec_unmoved (c := .clearSwitchFailure p k.val) rfl hs (fun _ => rfl) rfl rfl
      (State.clearFailure_unconfigured (s := s.taking p) bare) :)
  case retryBare =>
    exact (exec_unmoved (c := .retryProfile p k.val) rfl hs (fun _ => rfl) rfl rfl
      (State.retryProfile_unconfigured (s := s.taking p) bare) :)
  case clear =>
    obtain ⟨t, carried, ⟨others, rcs, rqi, -, runtime⟩, polled, quiet⟩ := State.clearFailure_configured (s := s.taking p) configured
    have answered := exec_answered_ports (c := .clearSwitchFailure p k.val) rfl hs (fun _ => rfl) rfl rfl carried rqi
    simp only [State.others, Prod.mk.injEq] at others
    obtain ⟨-, -, -, fmu, htu, fsu, svu⟩ := others
    have here := runtime k
    rw [State.runtime_setRuntime_same] at here
    have elsewhere : ∀ j, j ≠ k → t.runtime j = { s.runtime j with pollWanted := (t.runtime j).pollWanted } := by
      intro j hj
      have there := runtime j
      rwa [State.runtime_setRuntime_other _ _ hj] at there
    have others : ∀ j, j ≠ k → (t.runtime j).condition = (s.runtime j).condition := fun j hj =>
      (congrArg Runtime.condition (elsewhere j hj) :)
    have kept : ∀ j, (t.runtime j).slot = (s.runtime j).slot ∧ (t.runtime j).inFlight = (s.runtime j).inFlight
        ∧ (t.runtime j).position = (s.runtime j).position := by
      intro j
      by_cases e : j = k
      · subst e
        exact ⟨(congrArg Runtime.slot here :), (congrArg Runtime.inFlight here :), (congrArg Runtime.position here :)⟩
      · have there := elsewhere j e
        exact ⟨(congrArg Runtime.slot there :), (congrArg Runtime.inFlight there :), (congrArg Runtime.position there :)⟩
    have sound : (t.runtime k).condition = .sound := (congrArg Runtime.condition here :)
    refine ⟨{ t with rqi := s.rqi }, ?_, sound, others, polled, kept, fun sound => ?_, fmu, htu, fsu, rcs, svu, rfl⟩
    · rw [answered]
      by_cases failed : (s.runtime k).condition = .failed
      · rw [if_pos failed, if_pos (show ((s.taking p).runtime k).condition = .failed from failed)]
        rfl
      · rw [if_neg failed, if_neg (show ¬ ((s.taking p).runtime k).condition = .failed from failed)]
        rfl
    · rw [quiet sound]
      rfl
  case retryFailed =>
    exact (exec_unmoved (c := .retryProfile p k.val) rfl hs (fun _ => rfl) rfl rfl
      (State.retryProfile_failed (s := s.taking p) configured failed) :)
  case retryNone =>
    exact (exec_unmoved (c := .retryProfile p k.val) rfl hs (fun _ => rfl) rfl rfl
      (State.retryProfile_noProfile (s := s.taking p) configured fit none) :)
  case retryMet =>
    exact (exec_unmoved (c := .retryProfile p k.val) rfl hs (fun _ => rfl) rfl rfl
      (State.retryProfile_confirmed (s := s.taking p) configured fit required state confirmed) :)
  case retry =>
    have carried := State.retryProfile_pushes (s := s.taking p) configured fit required owed
    have same : (((s.taking p).runtime k).pushWanted || (s.taking p).pushAwaited k) = ((s.runtime k).pushWanted || s.pushAwaited k) :=
      rfl
    rw [same] at carried
    by_cases asked : ((s.runtime k).pushWanted || s.pushAwaited k) = true
    · rw [if_pos asked] at carried ⊢
      exact (exec_unmoved (c := .retryProfile p k.val) rfl hs (fun _ => rfl) rfl rfl carried :)
    · rw [if_neg asked] at carried ⊢
      exact (exec_answered_ports (c := .retryProfile p k.val) rfl hs (fun _ => rfl) rfl rfl carried rfl :)
  case clearRange =>
    exact (exec_unmoved (c := .clearSwitchFailure p n) rfl hs (fun _ => rfl) rfl rfl
      (State.clearFailure_outOfRange (s.taking p) out) :)
  case retryRange =>
    exact (exec_unmoved (c := .retryProfile p n) rfl hs (fun _ => rfl) rfl rfl
      (State.retryProfile_outOfRange (s.taking p) out) :)

/-! ### SET LINK SETTINGS (R103) -/

theorem optWithin_iff (o : Option Nat) : optWithin o 0 3 = true ↔ ∀ n, o = some n → n ≤ 3 := by
  cases o <;> simp [optWithin]

theorem linkInRange_iff (f : LinkFields) : linkInRange f = true ↔
    (∀ a, f.answerTime = some a → a.finer = false ∧ 2 ≤ a.units ∧ a.units ≤ 50)
      ∧ (∀ a, f.pollInterval = some a → a.finer = false ∧ 10 ≤ a.units ∧ a.units ≤ 3600)
      ∧ (∀ a, f.headInterval = some a → a.finer = false ∧ 2 ≤ a.units ∧ a.units ≤ 60)
      ∧ (∀ n, f.reclose = some n → n ≤ 3) ∧ (∀ n, f.controller = some n → n ≤ 3) ∧ (∀ n, f.maintenance = some n → n ≤ 3)
      ∧ (∀ n, f.hunt = some n → n ≤ 3) ∧ (∀ n, f.profile = some n → n ≤ 3) ∧ (∀ n, f.poll = some n → n ≤ 3) := by
  simp only [linkInRange, Bool.and_eq_true, optAmount_iff, List.all_cons, List.all_nil, Bool.and_true, optWithin_iff, and_assoc]

theorem LinkSettings.write_eq (l : LinkSettings) (f : LinkFields) : l.write f =
    { answerTime := match f.answerTime with | some a => a.units | none => l.answerTime
      pollInterval := match f.pollInterval with | some a => a.units | none => l.pollInterval
      headInterval := match f.headInterval with | some a => a.units | none => l.headInterval
      reclose := match f.reclose with | some n => n | none => l.reclose
      controller := match f.controller with | some n => n | none => l.controller
      maintenance := match f.maintenance with | some n => n | none => l.maintenance
      hunt := match f.hunt with | some n => n | none => l.hunt
      profile := match f.profile with | some n => n | none => l.profile
      poll := match f.poll with | some n => n | none => l.poll } := by
  have amount : ∀ (o : Option Amount) (n : Nat), (o.map (·.units)).getD n = match o with | some a => a.units | none => n := by
    intro o n
    cases o <;> rfl
  have level : ∀ (o : Option Nat) (n : Nat), o.getD n = match o with | some a => a | none => n := by
    intro o n
    cases o <;> rfl
  unfold LinkSettings.write
  simp only [amount, level]

/-- A poll timer restarted by a new interval, as the statement writes it. -/
theorem restart_eq (t : Timer) (old new : Nat) :
    (if t.isRunning && old != new then Timer.start (10 * new) else t) =
      if t ≠ .stopped ∧ new ≠ old then .running (10 * new) (10 * new) else t := by
  have runs : t.isRunning = true ↔ t ≠ .stopped := by cases t <;> simp [Timer.isRunning]
  by_cases h : t ≠ .stopped ∧ new ≠ old
  · rw [if_pos h, if_pos]
    · rfl
    · simp [runs.mpr h.1, Ne.symm h.2]
  · rw [if_neg h, if_neg]
    simp only [Bool.and_eq_true, runs, bne_iff_ne, ne_eq]
    exact fun ⟨started, other⟩ => h ⟨started, Ne.symm other⟩

/-- The link settings written (R103; log entry 30). -/
theorem State.writeLink_eq (s : State) (l : LinkSettings) : s.writeLink l =
    { s with
      sou.link := l
      sou.routineTimer := if s.sou.routineTimer ≠ .stopped ∧ l.pollInterval ≠ s.sou.link.pollInterval then
        .running (10 * l.pollInterval) (10 * l.pollInterval) else s.sou.routineTimer
      sou.headTimer := if s.sou.headTimer ≠ .stopped ∧ l.headInterval ≠ s.sou.link.headInterval then
        .running (10 * l.headInterval) (10 * l.headInterval) else s.sou.headTimer } := by
  simp only [State.writeLink, restart_eq]

/-- Settles O35. -/
theorem setLinkSettingsWrites : Obligations.SetLinkSettingsWrites := by
  unfold Obligations.SetLinkSettingsWrites
  intro s f hs amount level inRange old new
  have range : linkInRange f = true ↔ inRange := linkInRange_iff f
  have write : old.write f = new := LinkSettings.write_eq old f
  have side : Port.controller = .maintenance → controllerOnly (.setLinkSettings f) = false := nofun
  clear_value inRange new
  refine ⟨fun out => ?_, fun fits same => ?_, fun fits other => ?_⟩
  · have carried : (s.taking .controller).carryOut .controller (.setLinkSettings f) = (s.taking .controller, .refuse .refusedRange) := by
      have outside : linkInRange f = false := by
        rw [← Bool.not_eq_true, range]
        exact out
      simp [State.carryOut, State.setLinkSettings, outside]
    exact (exec_unmoved (c := .setLinkSettings .controller f) rfl hs side rfl rfl carried :)
  · have carried : (s.taking .controller).carryOut .controller (.setLinkSettings f) = (s.taking .controller, .already (.link new)) := by
      have same' : s.sou.link.write f = s.sou.link := write.trans same
      simp [State.carryOut, State.setLinkSettings, range.mpr fits, same', same]
      rfl
    exact (exec_unmoved (c := .setLinkSettings .controller f) rfl hs side rfl rfl carried :)
  · have carried : (s.taking .controller).carryOut .controller (.setLinkSettings f) =
        ((s.taking .controller).writeLink new, .done (.link new)) := by
      have write' : s.sou.link.write f = new := write
      have other' : new ≠ s.sou.link := other
      simp [State.carryOut, State.setLinkSettings, range.mpr fits, write', other']
    have answered := exec_answered_ports (c := .setLinkSettings .controller f) rfl hs side rfl rfl carried rfl
    rw [answered, State.writeLink_eq]
    rfl

/-! ### Commands with nothing to act on (R83, R162, R166, R169) -/

/-- The events of the blocks while they do not work. -/
theorem State.expiry_idle {s : State} (h : s.live = false) (timer : State → Timer) (reads : RecordId → Bool) (f : State → State) :
    s.expiry timer reads f = s := by
  simp [State.expiry, State.event_idle h]

theorem State.expiry_stopped {s : State} (timer : State → Timer) (h : timer s = .stopped) (reads : RecordId → Bool)
    (f : State → State) : s.expiry timer reads f = s := by
  simp [State.expiry, h, Timer.isRunning]

theorem State.fromUnit_idle {s : State} (h : s.live = false) (a : Byte) (f : State → SwitchNo → State) : s.fromUnit a f = s := by
  simp [State.fromUnit, h]

theorem State.receiveBytes_idle {s : State} (h : s.live = false) (b : List Byte) : s.receiveBytes b = s := by
  unfold State.receiveBytes
  split
  · rfl
  · exact State.fromUnit_idle h _ _

/-- A frame from no configured switch, with nothing to verify. -/
theorem State.fromUnit_nobody {s : State} (clean : s.svu.badCodes = []) {a : Byte} (none : s.ownerOf a = none)
    (f : State → SwitchNo → State) : s.fromUnit a f = s := by
  unfold State.fromUnit
  split
  · simp only [State.verifyReads_sound _ _ clean, none, ite_self, clean, List.any_nil, Bool.false_eq_true, if_false]
  · rfl

/-- An event of the field link, the timers or the scan changes nothing while the blocks do not work. -/
theorem exec_blockEvent_idle {c : Instr} {s : State} (h : s.live = false) (block : isBlockEvent c = true) : exec c s = .next s := by
  cases c <;> cases block
  case answerFrame a b r => exact congrArg _ (State.fromUnit_idle h _ _)
  case stateFrame a p r => exact congrArg _ (State.fromUnit_idle h _ _)
  case tripFrame a f => exact congrArg _ (State.fromUnit_idle h _ _)
  case fieldByteTimeout b => rfl
  case inboundFrameDiscarded b => exact congrArg _ (State.receiveBytes_idle h _)
  case scanPass l =>
    show Host.Outcome.next (s.scan l) = _
    simp [State.scan, h]
  all_goals exact congrArg Host.Outcome.next (State.expiry_idle h _ _ _)

/-- In the hold in reset the lines and the supply alone are taken. -/
theorem exec_inReset {c : Instr} {s : State} (h : s.inReset = true) (other : isLineEvent c = false) : exec c s = .next s := by
  have idle : s.live = false := by simp [State.live, h]
  have held : ∀ p f, s.frameArrives p f = s := fun p f => by simp [State.frameArrives, h]
  have counts : ∀ e f, s.timeEvent e f = s := fun e f => by simp [State.timeEvent, h]
  cases e : asRequest c with
  | some pr => rw [exec_request e, State.requestArrives, held]
  | none =>
    by_cases block : isBlockEvent c = true
    · exact exec_blockEvent_idle idle block
    · rw [Bool.not_eq_true] at block
      cases c <;> cases e <;> cases block <;> cases other
      all_goals show Host.Outcome.next _ = _
      all_goals simp [h, held, counts, State.readOut, State.responseEnds]

/-- Settles O41. -/
theorem commandsWithNothingToActOn : Obligations.CommandsWithNothingToActOn := by
  unfold Obligations.CommandsWithNothingToActOn
  intro c s
  refine ⟨fun halted block => ?_, fun held other => exec_inReset held other, fun stopped => ?_, fun a clean none frame => ?_,
    fun b => ⟨rfl, fun bad => ?_⟩⟩
  · exact exec_blockEvent_idle (by simp [State.live, halted]) block
  · rcases stopped with ⟨rfl, h⟩ | ⟨k, rfl, h⟩ | ⟨rfl, h⟩ | ⟨rfl, h⟩ | ⟨k, rfl, h⟩ | ⟨k, rfl, h⟩ | ⟨rfl, h⟩ | ⟨rfl, h⟩ | ⟨rfl, h⟩
      | ⟨rfl, h⟩
    all_goals exact congrArg Host.Outcome.next (State.expiry_stopped _ h _ _)
  · rcases frame with ⟨b, r, rfl⟩ | ⟨p, r, rfl⟩ | ⟨f, rfl⟩
    all_goals exact congrArg Host.Outcome.next (State.fromUnit_nobody clean none _)
  · show Host.Outcome.next (s.receiveBytes b) = _
    simp [State.receiveBytes, bad]

end Sys2Proof.Machine
end

section
/-! The field link's frames, the lines and the arbiter (5.5, 9.5, 12.2). -/

namespace Sys2Proof.Machine

/-! ### Frames from a unit (R181, 12.2) -/

theorem parseInbound_bytes (address : Byte) (m : Inbound) (h : ∀ reason, m = .answer true reason → reason = 0) :
    parseInbound (m.bytes address) = some (address, m) := by
  cases m with
  | answer accepted reason =>
    cases accepted with
    | true =>
      obtain rfl : reason = 0 := h reason rfl
      exact parseInbound_linkFrame address 0x81 [0x00, 0x00] (by simp)
    | false => exact parseInbound_linkFrame address 0x81 [0x01, reason] (by simp)
  | state position residual =>
    cases residual with
    | none => cases position <;> exact (parseInbound_linkFrame address 0x82 [_, 0x00, 0x00, 0x00] (by simp))
    | some n =>
      have framed : ∀ p : Byte, parseInbound (linkFrame address 0x82 (p :: 0x01 :: be16 n.toNat))
          = (inboundBody 0x82 (p :: 0x01 :: be16 n.toNat)).map (address, ·) := fun p =>
        parseInbound_linkFrame _ _ _ (by simp [be16])
      have read : some (BitVec.ofNat 8 (n.toNat / 256) ++ BitVec.ofNat 8 n.toNat) = some n := congrArg some (be16_read n)
      cases position
      case opened => exact (framed 0x01).trans (congrArg (fun r => some (address, Inbound.state .opened r)) read)
      case closed => exact (framed 0x02).trans (congrArg (fun r => some (address, Inbound.state .closed r)) read)
  | trip fault => cases fault <;> exact (parseInbound_linkFrame address 0x83 [_] (by simp))

/-- Settles O46. -/
theorem inboundFramesReadBack : Obligations.InboundFramesReadBack := by
  unfold Obligations.InboundFramesReadBack
  refine ⟨fun address m h => ⟨parseInbound_bytes address m h, fun s => ?_⟩, by decide +kernel⟩
  have taken : s.receiveBytes (m.bytes address) = s.fromUnit address fun t k => t.takeInbound k m := by
    rw [State.receiveBytes, parseInbound_bytes address m h]
  show Host.Outcome.next (s.receiveBytes (m.bytes address)) = _
  rw [taken]
  cases m <;> rfl

/-! ### The lines (R54, R166) -/

/-- The hold in reset as the statement of the lines describes it. -/
theorem State.volatileStart_seq (s : State) (k : SwitchNo) : s.volatileStart.seq k = Sequence.start (s.seq k).marker := by
  simp [State.volatileStart, State.seq]

/-- Settles O58. -/
theorem linesHoldThePart : Obligations.LinesHoldThePart := by
  unfold Obligations.LinesHoldThePart
  intro s cut
  refine ⟨fun b => rfl, fun asserted => ?_, fun low => ?_, fun free => ?_⟩
  · show Host.Outcome.next (if s.lines.reset then s else _) = _
    rw [if_pos asserted]
  · show Host.Outcome.next (if s.lines.supplyLow then s else _) = _
    rw [if_pos low]
  · have unasserted : s.lines.reset = false ∧ s.lines.supplyLow = false := by simpa [State.inReset] using free
    obtain ⟨reset, low⟩ := unasserted
    have entered : s.enterReset = s.volatileStart := by simp [State.enterReset, free]
    have seqs := s.volatileStart_seq
    intro held
    refine ⟨⟨{ s.volatileStart.corrupt cut with lines.reset := true }, ?_, ?_, rfl⟩,
      ⟨{ s.volatileStart.corrupt cut with lines.supplyLow := true, lines.fell := true }, ?_, ?_, rfl⟩⟩
    · show Host.Outcome.next (if s.lines.reset then s else _) = _
      rw [entered, reset]
      rfl
    · refine ⟨rfl, rfl, rfl, rfl, rfl, rfl, rfl, rfl, seqs, rfl, rfl, rfl, rfl, rfl, rfl, rfl, rfl, rfl, rfl, rfl, fun p => ?_⟩
      cases p <;> rfl
    · show Host.Outcome.next (if s.lines.supplyLow then s else _) = _
      rw [entered, low]
      rfl
    · have inReset : (s.lines.reset || true) = true := Bool.or_true _
      refine ⟨inReset, ?_, ?_, rfl, rfl, rfl, rfl, rfl, seqs, rfl, rfl, rfl, rfl, rfl, rfl, rfl, rfl, rfl, rfl, rfl, fun p => ?_⟩
      · show (!(s.lines.reset || true) && _) = false
        rw [inReset]
        rfl
      · show (!(s.lines.reset || true) && _) = false
        rw [inReset]
        rfl
      · cases p <;> rfl

/-! ### The arbiter (R94) -/

def Claim.switchNo : Claim → SwitchNo
  | .operation k _ => k
  | .push k => k
  | .poll k _ => k

theorem State.switchNo_of_claimsOf {s : State} {k : SwitchNo} {c : Claim} (h : c ∈ s.claimsOf k) : c.switchNo = k := by
  unfold State.claimsOf at h
  dsimp only at h
  split at h
  next => cases h
  next =>
    simp only [List.mem_append] at h
    rcases h with (h | h) | h
    · split at h
      next => split at h <;> simp_all [Claim.switchNo]
      next => cases h
    · split at h <;> simp_all [Claim.switchNo]
    · split at h
      next => split at h <;> simp_all [Claim.switchNo]
      next => cases h

/-- The claims stand in the order of their switches. -/
theorem State.claims_ascending (s : State) : s.claims.Pairwise fun a b => a.switchNo ≤ b.switchNo := by
  have ascending : allSwitches.Pairwise (· < ·) := List.pairwise_lt_finRange 16
  unfold State.claims
  generalize allSwitches = l at ascending
  induction l with
  | nil => exact .nil
  | cons k l ih =>
    obtain ⟨first, rest⟩ := List.pairwise_cons.mp ascending
    rw [List.flatMap_cons, List.pairwise_append]
    refine ⟨List.Pairwise.imp_of_mem (R := fun _ _ => True) (fun ha hb _ => ?_) (List.pairwise_of_forall fun _ _ => trivial), ih rest, fun a ha b hb => ?_⟩
    · rw [State.switchNo_of_claimsOf ha, State.switchNo_of_claimsOf hb]
    · obtain ⟨j, hj, hb⟩ := List.mem_flatMap.mp hb
      rw [State.switchNo_of_claimsOf ha, State.switchNo_of_claimsOf hb]
      exact (first j hj).le

/-- The order of R94 between two claims, the first picked before the second. -/
def State.Precedes (s : State) (c d : Claim) : Prop :=
  (d.isOpen = true → c.isOpen = true ∧ c.switchNo ≤ d.switchNo) ∧
  (c.isOpen = false → s.levelOf d < s.levelOf c ∨ (s.levelOf d = s.levelOf c ∧
    (c.order < d.order ∨ (c.order = d.order ∧ c.switchNo ≤ d.switchNo))))

theorem State.precedes_refl (s : State) (c : Claim) : s.Precedes c c := by simp [State.Precedes]

/-- A later claim that is not ahead is preceded. -/
theorem State.precedes_of_not_ahead {s : State} {b c : Claim} (h : s.ahead c b = false) (asc : b.switchNo ≤ c.switchNo) :
    s.Precedes b c := by
  unfold State.ahead at h
  unfold State.Precedes
  cases hc : c.isOpen <;> cases hb : b.isOpen <;> simp_all; omega

/-- A claim ahead of one that precedes a third precedes the third. -/
theorem State.precedes_of_ahead {s : State} {b c d : Claim} (h : s.ahead c b = true) (hd : s.Precedes b d) : s.Precedes c d := by
  unfold State.ahead at h
  unfold State.Precedes at hd ⊢
  cases hc : c.isOpen <;> cases hb : b.isOpen <;> cases hd' : d.isOpen <;> simp_all; omega

/-- The pick over a list: the first element, and then each that is better than the one picked before. -/
def firstBest {α : Type} (better : α → α → Bool) (l : List α) : Option α :=
  l.foldl (fun best c => match best with
    | none => some c
    | some b => if better c b then some c else some b) none

section
variable {α : Type} {better : α → α → Bool} {before R : α → α → Prop}

/-- A pick under way over an ordered list: its result stands in relation `R` to every element, where an element picked keeps that
relation to a later one not better, and a better one takes it over. -/
theorem foldl_pick (refl : ∀ a, R a a) (keeps : ∀ a b, better b a = false → before a b → R a b)
    (takes : ∀ a b c, better b a = true → R a c → R b c) (l seen : List α) (order : (seen ++ l).Pairwise before)
    (b : α) (mem : b ∈ seen) (best : ∀ d ∈ seen, R b d) :
    ∃ c, l.foldl (fun best c => match best with
        | none => some c
        | some b => if better c b then some c else some b) (some b) = some c
      ∧ c ∈ seen ++ l ∧ ∀ d ∈ seen ++ l, R c d := by
  induction l generalizing seen b with
  | nil => exact ⟨b, rfl, by simpa using mem, by simpa using best⟩
  | cons x l ih =>
    have split : seen ++ x :: l = (seen ++ [x]) ++ l := by simp
    rw [split] at order ⊢
    have earlier : before b x := (List.pairwise_append.mp (List.pairwise_append.mp order).1).2.2 b mem x (List.mem_singleton.mpr rfl)
    rw [List.foldl_cons]
    cases h : better x b with
    | true =>
      simp only [h, if_true]
      refine ih (seen ++ [x]) order x (by simp) fun d hd => ?_
      rcases List.mem_append.mp hd with hd | hd
      · exact takes b x d h (best d hd)
      · rw [List.mem_singleton.mp hd]
        exact refl x
    | false =>
      simp only [h, Bool.false_eq_true, if_false]
      refine ih (seen ++ [x]) order b (by simp [mem]) fun d hd => ?_
      rcases List.mem_append.mp hd with hd | hd
      · exact best d hd
      · rw [List.mem_singleton.mp hd]
        exact keeps b x h earlier

/-- What is picked of an ordered list that is not empty. -/
theorem firstBest_spec (refl : ∀ a, R a a) (keeps : ∀ a b, better b a = false → before a b → R a b)
    (takes : ∀ a b c, better b a = true → R a c → R b c) {l : List α} (order : l.Pairwise before) (some_ : l ≠ []) :
    ∃ c, firstBest better l = some c ∧ c ∈ l ∧ ∀ d ∈ l, R c d := by
  cases l with
  | nil => exact absurd rfl some_
  | cons x l => exact foldl_pick refl keeps takes l [x] order x (by simp) (by simp [refl x])

end

/-- The pick: none without a claim, and otherwise the claim that precedes every one. -/
theorem State.pickClaim_nil {s : State} (h : s.claims = []) : s.pickClaim = none := by
  rw [State.pickClaim, h]
  rfl

theorem State.pickClaim_eq (s : State) : s.pickClaim = firstBest s.ahead s.claims := by
  unfold State.pickClaim firstBest
  congr 1
  funext best c
  cases best <;> rfl

theorem State.pickClaim_spec {s : State} (h : s.claims ≠ []) :
    ∃ c, s.pickClaim = some c ∧ c ∈ s.claims ∧ ∀ d ∈ s.claims, s.Precedes c d := by
  rw [State.pickClaim_eq]
  exact firstBest_spec s.precedes_refl (fun _ _ => State.precedes_of_not_ahead) (fun _ _ _ => State.precedes_of_ahead)
    s.claims_ascending h

theorem State.arbitrate_nothing {s : State} (h : s.claims = []) : s.arbitrate = s := by
  unfold State.arbitrate
  split
  · rw [State.arbitrateFor, State.pickClaim_nil h]
    exact ite_self _
  · rfl

/-- Settles O44. -/
theorem arbiterPicksByR94 : Obligations.ArbiterPicksByR94 := by
  unfold Obligations.ArbiterPicksByR94
  intro s
  refine ⟨State.arbitrate_awaited, State.arbitrate_idle, ⟨fun none => ?_, State.pickClaim_nil⟩, State.arbitrate_nothing,
    fun c live free pick => ?_, fun c pick => ?_⟩
  · by_contra claims
    obtain ⟨c, pick, -⟩ := State.pickClaim_spec claims
    rw [none] at pick
    cases pick
  · have picks : s.arbitrate = State.arbitrateFor 63 (s.serveClaim c) := by
      rw [State.arbitrate, if_pos live, State.arbitrateFor, free, pick]
      rfl
    refine ⟨picks, fun sent => ?_⟩
    rw [picks, State.arbitrateFor, if_pos sent]
  · have claims : s.claims ≠ [] := fun h => by
      rw [State.pickClaim_nil h] at pick
      cases pick
    obtain ⟨c', pick', mem, best⟩ := State.pickClaim_spec claims
    obtain rfl : c' = c := Option.some.inj (pick'.symm.trans pick)
    refine ⟨mem, fun d hd => ?_⟩
    have first := best d hd
    cases c' <;> cases d <;> exact first

/-! ### The gate of a CLOSE (R96) -/

/-- A close is permitted when every hold that meets the reach is a NO_RECLOSE, and the close is deliberate. -/
theorem State.closePermitted_iff (s : State) (k : SwitchNo) (kind : CloseKind) :
    s.closePermitted k kind = true ↔
      ∀ i h, s.holdAt i = some h → h.scope.meets (s.reach k) = true → h.kind = .noReclose ∧ kind = .deliberate := by
  have each : ∀ h : Hold, h.blocks kind (s.reach k) = false ↔
      (h.scope.meets (s.reach k) = true → h.kind = .noReclose ∧ kind = .deliberate) := by
    intro h
    unfold Hold.blocks
    cases h.scope.meets (s.reach k) <;> cases h.kind <;> cases kind <;> decide
  simp only [State.closePermitted, State.blockers, State.slotsWhere, List.isEmpty_iff, List.filter_eq_nil_iff, mem_allSlots,
    Option.any_eq_true, forall_const, not_exists, not_and, Bool.not_eq_true, each]

theorem Classes.closeKind_deliberate (c : Classes) : c.closeKind = .deliberate ↔ c.reclose = false ∧ c.hunt = false := by
  unfold Classes.closeKind
  cases c.reclose <;> cases c.hunt <;> decide

/-- The gate passed: no hold blocks, and an automatic close meets the other tests. -/
theorem State.gate_passed {s : State} {k : SwitchNo} {c : Classes} (h : s.gate k c.closeKind = none) :
    (∀ i h, s.holdAt i = some h → h.scope.meets (s.reach k) = true → h.kind = .noReclose ∧ c.reclose = false ∧ c.hunt = false)
      ∧ (c.reclose = true ∨ c.hunt = true →
        (s.runtime k).condition = .sound ∧ (s.runtime k).profileState = .confirmed
          ∧ (s.runtime k).confirmed = s.requiredProfile k ∧ s.fmu.mode = .service) := by
  unfold State.gate at h
  simp only [← Classes.closeKind_deliberate]
  by_cases permitted : s.closePermitted k c.closeKind = true
  · refine ⟨(s.closePermitted_iff k c.closeKind).mp permitted, fun auto => ?_⟩
    have automatic : (c.closeKind == CloseKind.deliberate) = false := by
      unfold Classes.closeKind
      rcases auto with auto | auto <;> simp [auto]
    simp only [permitted, automatic, Bool.not_true, Bool.false_eq_true, if_false] at h
    split at h
    next => cases h
    next sound =>
      split at h
      next => cases h
      next profile =>
        split at h
        next => cases h
        next service =>
          simp only [State.profileConfirmed, Bool.not_eq_true, Bool.not_eq_false', Bool.and_eq_true, beq_iff_eq] at profile
          exact ⟨by simpa using sound, profile.1.1, profile.2, by simpa using service⟩
  · simp [permitted] at h

/-- What stands of R96 where OPERATE is transmitted. -/
def State.SendsOperate (u : State) (k : SwitchNo) (q : OpRequest) : Prop :=
  (u.runtime k).slot = some q ∧ (u.runtime k).inFlight = none ∧ u.sou.awaited = none ∧ u.configured k = true
    ∧ (u.runtime k).position ≠ targetOf q.action ∧ (q.action = .toClose → u.gate k q.classes.closeKind = none)

theorem State.operation_claim {s : State} {k : SwitchNo} {q : OpRequest} (h : Claim.operation k q ∈ s.claims) :
    (s.runtime k).slot = some q ∧ (s.runtime k).inFlight = none ∧ s.configured k = true := by
  obtain ⟨j, -, h⟩ := List.mem_flatMap.mp h
  obtain rfl : k = j := State.switchNo_of_claimsOf h
  unfold State.claimsOf at h
  dsimp only at h
  split at h
  next => cases h
  next idle =>
    refine ⟨?_, by simpa using idle, ?_⟩
    all_goals
      simp only [List.mem_append] at h
      rcases h with (h | h) | h
      · split at h
        next => split at h <;> simp_all
        next => cases h
      · split at h <;> simp_all
      · split at h
        next => split at h <;> simp_all
        next => cases h

theorem State.endRequest_awaited (s : State) (k : SwitchNo) (q : OpRequest) (res : OpResult) :
    (s.endRequest k q res).sou.awaited = s.sou.awaited := congrArg (·.2.1) (s.endRequest_motion k q res)

/-- A claim served on a free link either leaves it free, or sends; an OPERATE only where R96 allows it. -/
theorem State.serveClaim_sends {s : State} {c : Claim} (free : s.sou.awaited = none) (mem : c ∈ s.claims) :
    (s.serveClaim c).sou.awaited = none
      ∨ (∃ k q, s.serveClaim c = s.sendOperate k q ∧ s.SendsOperate k q)
      ∨ ∃ k kind, (s.serveClaim c).sou.awaited = some ⟨k, kind, false⟩ ∧ kind ≠ .operate := by
  cases c with
  | operation k q =>
    obtain ⟨slot, idle, configured⟩ := State.operation_claim mem
    have ends : ∀ res, ((s.setRuntime k { s.runtime k with slot := none }).endRequest k q res).sou.awaited = none :=
      fun res => (State.endRequest_awaited _ k q res).trans free
    show (s.pickOperation k q).sou.awaited = none ∨ (∃ k' q', s.pickOperation k q = _ ∧ _) ∨ _
    unfold State.pickOperation
    dsimp only
    split
    next => exact .inl (ends _)
    next away =>
      cases action : q.action with
      | toOpen =>
        exact .inr (.inl ⟨k, q, rfl, slot, idle, free, configured, away, fun h => by rw [action] at h; cases h⟩)
      | toClose =>
        cases gate : s.gate k q.classes.closeKind with
        | none => exact .inr (.inl ⟨k, q, rfl, slot, idle, free, configured, away, fun _ => gate⟩)
        | some g => exact .inl (ends _)
  | push k =>
    show (s.pickPush k).sou.awaited = none ∨ _ ∨ ∃ k' kind, (s.pickPush k).sou.awaited = _ ∧ _
    unfold State.pickPush
    split
    next code _ => exact .inr (.inr ⟨k, .setProfile code, rfl, nofun⟩)
    next => exact .inl free
  | poll k c => exact .inr (.inr ⟨k, .poll c, rfl, nofun⟩)

/-- An OPERATE that the arbiter sends leaves from a state in which R96 allows it. -/
theorem State.arbitrateFor_sends (n : Nat) {s : State} {k : SwitchNo} (free : s.sou.awaited = none)
    (sent : (State.arbitrateFor n s).sou.awaited = some ⟨k, .operate, false⟩) :
    ∃ (u : State) (q : OpRequest), State.arbitrateFor n s = u.sendOperate k q ∧ u.SendsOperate k q := by
  induction n generalizing s with
  | zero =>
    rw [State.arbitrateFor, free] at sent
    cases sent
  | succ n ih =>
    rw [State.arbitrateFor, free] at sent ⊢
    simp only [Option.isSome_none, Bool.false_eq_true, if_false] at sent ⊢
    cases pick : s.pickClaim with
    | none =>
      rw [pick] at sent
      rw [show s.sou.awaited = some _ from sent] at free
      cases free
    | some c =>
      rw [pick] at sent
      simp only at sent ⊢
      have claims : s.claims ≠ [] := fun h => by
        rw [State.pickClaim_nil h] at pick
        cases pick
      obtain ⟨c', pick', mem, -⟩ := State.pickClaim_spec claims
      obtain rfl : c' = c := Option.some.inj (pick'.symm.trans pick)
      have stays : ∀ {u : State}, u.sou.awaited.isSome = true → State.arbitrateFor n u = u := by
        intro u h
        cases n with
        | zero => rfl
        | succ n => rw [State.arbitrateFor, if_pos h]
      rcases State.serveClaim_sends free mem with quiet | ⟨j, q, served, sends⟩ | ⟨j, kind, other, notOperate⟩
      · exact ih quiet sent
      · have kept : State.arbitrateFor n (s.serveClaim c') = s.sendOperate j q := by
          rw [stays (by rw [served]; rfl), served]
        rw [kept] at sent ⊢
        obtain rfl : j = k := congrArg Awaited.switch (Option.some.inj sent)
        exact ⟨s, q, rfl, sends⟩
      · rw [stays (by rw [other]; rfl), other] at sent
        exact absurd (congrArg Awaited.kind (Option.some.inj sent)) notOperate

/-- Settles O45. -/
theorem noCloseLeavesAgainstTheGate : Obligations.NoCloseLeavesAgainstTheGate := by
  unfold Obligations.NoCloseLeavesAgainstTheGate
  intro s k free sent
  by_cases live : s.live = true
  · rw [State.arbitrate, if_pos live] at sent ⊢
    obtain ⟨u, q, eq, slot, idle, awaited, configured, away, gate⟩ := State.arbitrateFor_sends 64 free sent
    refine ⟨u, q, slot, eq, idle, awaited, configured, ?_, fun close => State.gate_passed (gate close)⟩
    cases action : q.action <;> rw [action] at away <;> exact away
  · rw [State.arbitrate_idle (by simpa using live), free] at sent
    cases sent

end Sys2Proof.Machine
end

section
/-! The requests of the watch and the hunt case, and a confirmed episode (7.3 to 7.5, 8.5 to 8.8). -/

namespace Sys2Proof.Machine

/-! ### Operations of the EHU on a port that has just taken a request -/

theorem State.notify_taking (s : State) (p : Port) (n : Notice) : (s.taking p).notify n = (s.notify n).taking p := by
  cases p <;> rfl

theorem foldl_wantPoll_taking (l : List SwitchNo) (c : PollClass) (s : State) (p : Port) :
    l.foldl (fun u k => u.wantPoll k c) (s.taking p) = (l.foldl (fun u k => u.wantPoll k c) s).taking p := by
  induction l generalizing s with
  | nil => rfl
  | cons k l ih => exact ih (s.wantPoll k c)

theorem State.enterLocating_taking (s : State) (p : Port) : (s.taking p).enterLocating = s.enterLocating.taking p := by
  unfold State.enterLocating
  dsimp only
  rw [show (s.taking p).locatingPolls = s.locatingPolls from rfl, foldl_wantPoll_taking]
  rfl

theorem State.startCase_taking (s : State) (p : Port) (o : StartOrigin) (e : Bool) :
    (s.taking p).startCase o e = (s.startCase o e).taking p := by
  rw [State.startCase, State.startCase, ← State.enterLocating_taking, ← State.notify_taking]
  rfl

theorem State.attemptFailed_taking (s : State) (p : Port) (r : StartRefusal) :
    (s.taking p).attemptFailed r = (s.attemptFailed r).taking p := by
  unfold State.attemptFailed
  dsimp only
  rw [show (s.taking p).ehu = s.ehu from rfl]
  split
  · rfl
  · cases p <;> rfl

theorem State.attemptStart_taking (s : State) (p : Port) : (s.taking p).attemptStart = s.attemptStart.taking p := by
  unfold State.attemptStart
  rw [show (s.taking p).startChecks = s.startChecks from rfl, show (s.taking p).ehu = s.ehu from rfl]
  split
  · exact State.startCase_taking s p _ _
  · exact State.attemptFailed_taking s p _
  · exact State.attemptFailed_taking s p _

theorem State.concludeAbandoned_taking (s : State) (p : Port) (r : AbandonReason) :
    (s.taking p).concludeAbandoned r = (s.concludeAbandoned r).taking p := by cases p <;> rfl

/-! ### SET HUNT PARAMETERS (R126, R127) -/

theorem optNamed?_eq_none {α : Type} (o : Option (Choice α)) : optNamed? o = none ↔ o = some .unnamed := by
  rcases o with _ | _ | _ <;> simp [optNamed?, named?]

/-- A named choice that is carried, or none. -/
theorem optNamed?_getD (o : Option (Choice Bool)) (x : Option Bool) (old : Bool) :
    optNamed? o = some x → x.getD old = match o with | some (.named a) => a | _ => old := by
  intro h
  rcases o with _ | _ | _ <;> cases h <;> rfl

theorem units_getD (o : Option Amount) (old : Nat) :
    (o.map (·.units)).getD old = match o with | some a => a.units | none => old := by cases o <;> rfl

theorem HuntParams.write_none {p : HuntParams} {f : HuntFields}
    (h : ¬ (f.autoStart ≠ some .unnamed ∧ f.essential ≠ some .unnamed ∧ optAmount f.confirm 10 600 = true
      ∧ optAmount f.listen 5 120 = true ∧ optAmount f.settle 2 30 = true ∧ optAmount f.observe 5 60 = true)) :
    p.write f = none := by
  unfold HuntParams.write
  split
  next a e auto essential =>
    refine if_neg fun fits => h ⟨fun u => ?_, fun u => ?_, ?_⟩
    · rw [(optNamed?_eq_none _).mpr u] at auto
      cases auto
    · rw [(optNamed?_eq_none _).mpr u] at essential
      cases essential
    · simpa only [Bool.and_eq_true, and_assoc] using fits
  next => rfl

theorem HuntParams.write_some {p : HuntParams} {f : HuntFields}
    (h : f.autoStart ≠ some .unnamed ∧ f.essential ≠ some .unnamed ∧ optAmount f.confirm 10 600 = true
      ∧ optAmount f.listen 5 120 = true ∧ optAmount f.settle 2 30 = true ∧ optAmount f.observe 5 60 = true) :
    p.write f = some
      { autoStart := match f.autoStart with | some (.named b) => b | _ => p.autoStart
        confirm := match f.confirm with | some a => a.units | none => p.confirm
        listen := match f.listen with | some a => a.units | none => p.listen
        settle := match f.settle with | some a => a.units | none => p.settle
        observe := match f.observe with | some a => a.units | none => p.observe
        essential := match f.essential with | some (.named b) => b | _ => p.essential } := by
  obtain ⟨auto, essential, confirm, listen, settle, observe⟩ := h
  obtain ⟨a, ha⟩ := Option.ne_none_iff_exists'.mp (mt (optNamed?_eq_none f.autoStart).mp auto)
  obtain ⟨e, he⟩ := Option.ne_none_iff_exists'.mp (mt (optNamed?_eq_none f.essential).mp essential)
  simp only [HuntParams.write, ha, he, confirm, listen, settle, observe, Bool.and_self, if_true, optNamed?_getD _ _ _ ha,
    optNamed?_getD _ _ _ he, units_getD]

/-- Settles O48. -/
theorem setHuntParametersWrites : Obligations.SetHuntParametersWrites := by
  unfold Obligations.SetHuntParametersWrites
  intro s f hs amount inRange old new written
  have range : inRange ↔ (f.autoStart ≠ some .unnamed ∧ f.essential ≠ some .unnamed ∧ optAmount f.confirm 10 600 = true
      ∧ optAmount f.listen 5 120 = true ∧ optAmount f.settle 2 30 = true ∧ optAmount f.observe 5 60 = true) := by
    simp only [optAmount_iff]
    exact Iff.rfl
  have side : Port.controller = .maintenance → controllerOnly (.setHuntParameters f) = false := nofun
  have fits : inRange → old.write f = some new := fun h => HuntParams.write_some (range.mp h)
  clear_value inRange new
  refine ⟨fun out => ?_, fun h same => ?_, fun h other => ⟨fun retries => ?_, fun stands => ?_⟩⟩
  · have carried : (s.taking .controller).carryOut .controller (.setHuntParameters f) = (s.taking .controller, .refuse .refusedRange) := by
      have outside : s.ehu.params.write f = none := HuntParams.write_none fun fit => out (range.mpr fit)
      simp [State.carryOut, State.setHuntParameters, outside]
    exact (exec_unmoved (c := .setHuntParameters .controller f) rfl hs side rfl rfl carried :)
  · have carried : (s.taking .controller).carryOut .controller (.setHuntParameters f)
        = (s.taking .controller, .already (.params new)) := by
      have write : s.ehu.params.write f = some new := fits h
      have same' : new = s.ehu.params := same
      simp [State.carryOut, State.setHuntParameters, write, same']
    exact (exec_unmoved (c := .setHuntParameters .controller f) rfl hs side rfl rfl carried :)
  all_goals
    have write : s.ehu.params.write f = some new := fits h
    have other' : new ≠ s.ehu.params := other
  · obtain ⟨off, on, watching, confirmed⟩ := retries
    have tries : State.retryStart { s.taking .controller with ehu.params := new } = (written.taking .controller).attemptStart := by
      have due : (s.ehu.watch.state == .watching && s.ehu.watch.confirmed && new.autoStart) = true := by
        rw [watching, confirmed, on]
        rfl
      exact if_pos due
    have carried : (s.taking .controller).carryOut .controller (.setHuntParameters f)
        = (written.attemptStart.taking .controller, .done (.params new)) := by
      have off' : s.ehu.params.autoStart = false := off
      rw [← State.attemptStart_taking, ← tries]
      simp [State.carryOut, State.setHuntParameters, write, other', on, off']
    have answered := exec_answered (c := .setHuntParameters .controller f) rfl hs side rfl rfl carried
    rw [State.answer_taking] at answered
    exact answered
  · have carried : (s.taking .controller).carryOut .controller (.setHuntParameters f)
        = (written.taking .controller, .done (.params new)) := by
      have quiet : (if (new.autoStart && !s.ehu.params.autoStart) = true then
          State.retryStart { s.taking .controller with ehu.params := new } else { s.taking .controller with ehu.params := new })
            = written.taking .controller := by
        split
        next turned =>
          simp only [Bool.and_eq_true, Bool.not_eq_true'] at turned
          refine if_neg fun due => stands ?_
          simp only [Bool.and_eq_true, beq_iff_eq] at due
          exact ⟨turned.2, turned.1, due.1.1, due.1.2⟩
        next => rfl
      rw [← quiet]
      simp [State.carryOut, State.setHuntParameters, write, other']
    have answered := exec_answered (c := .setHuntParameters .controller f) rfl hs side rfl rfl carried
    rw [State.answer_taking] at answered
    exact answered

/-! ### The start of a case (R130, R131, R132) -/

theorem State.headFit_iff (s : State) : s.headFit = true ↔
    (∃ c, s.config 0 = some c ∧ c.sensing = true) ∧ (s.runtime 0).position = .closed ∧ (s.runtime 0).condition = .sound := by
  simp only [State.headFit, Bool.and_eq_true, beq_iff_eq, Option.any_eq_true, and_assoc]

/-- The checks passed. -/
theorem State.startChecks_pass {s : State} (mode : s.fmu.mode = .service) (idle : s.ehu.huntCase.state = .idle)
    (fit : s.headFit = true) (room : s.htu.counts.hunt < 6) : s.startChecks = none := by
  simp [State.startChecks, mode, idle, fit, Config.huntHolds, Nat.not_le.mpr room]

/-- The last check failed. -/
theorem State.startChecks_full {s : State} (mode : s.fmu.mode = .service) (idle : s.ehu.huntCase.state = .idle)
    (fit : s.headFit = true) (full : 6 ≤ s.htu.counts.hunt) : s.startChecks = some .refusedFull := by
  simp [State.startChecks, mode, idle, fit, Config.huntHolds, full]

/-- An earlier check failed. -/
theorem State.startChecks_undue {s : State} (undue : ¬ (s.fmu.mode = .service ∧ s.ehu.huntCase.state = .idle ∧ s.headFit = true)) :
    ∃ c, s.startChecks = some c ∧ c ≠ .refusedFull := by
  unfold State.startChecks
  cases mode : s.fmu.mode with
  | commissioning => exact ⟨_, rfl, nofun⟩
  | service =>
    cases state : s.ehu.huntCase.state with
    | idle =>
      have unfit : s.headFit = false := by simpa [mode, state] using undue
      rw [unfit]
      exact ⟨_, rfl, nofun⟩
    | locating => exact ⟨_, rfl, nofun⟩
    | stepping => exact ⟨_, rfl, nofun⟩
    | suspended => exact ⟨_, rfl, nofun⟩
    | concluded => exact ⟨_, rfl, nofun⟩

theorem Runtime.wantPoll_hunt (r : Runtime) : r.wantPoll .hunt = { r with pollWanted := some .hunt } := by
  unfold Runtime.wantPoll
  cases e : r.pollWanted with
  | none => rfl
  | some c =>
    cases c
    case hunt => exact (congrArg (fun w => { r with pollWanted := w }) e :)
    all_goals rfl

/-- The polls that entering LOCATING wants (R132). -/
theorem State.enterLocating_runtime (s : State) (k : SwitchNo) : s.enterLocating.runtime k =
    if (s.config k).any (·.sensing) = true ∧ (s.runtime k).position = .closed
        ∧ ∃ j ∈ s.ehu.huntCase.candidates, s.candidateBelow k j = true then
      { s.runtime k with pollWanted := some .hunt }
    else s.runtime k := by
  have polled := foldl_wantPoll_runtime (l := allSwitches.filter s.locatingPolls) ((List.nodup_finRange 16).filter _) .hunt s k
  have picked : k ∈ allSwitches.filter s.locatingPolls ↔ (s.config k).any (·.sensing) = true
      ∧ (s.runtime k).position = .closed ∧ ∃ j ∈ s.ehu.huntCase.candidates, s.candidateBelow k j = true := by
    simp only [List.mem_filter, mem_allSwitches, true_and, State.locatingPolls, Bool.and_eq_true, beq_iff_eq, List.any_eq_true,
      and_assoc]
  rw [Runtime.wantPoll_hunt] at polled
  simp only [picked] at polled
  exact polled

/-- What a case start makes of the EHU's records. -/
theorem State.startCase_ehu (s : State) (o : StartOrigin) (e : Bool) : (s.startCase o e).ehu =
    { s.ehu with
      huntCase := { s.freshCase o e with
        state := .locating, clearedInWindow := false, listen := .start (10 * s.ehu.params.listen) }
      watch := { s.ehu.watch with state := .hunting, confirmTimer := .stopped, confirmed := false, lastRefusal := none } } := by
  rw [State.startCase, State.enterLocating_ehu]
  rfl

theorem State.startCase_noticed (s : State) (o : StartOrigin) (e : Bool) : (s.startCase o e).noticed .hunt :=
  State.noticed_of_rqi (State.enterLocating_polled _).2.2.1 (State.noticed_notify _ _)

/-- What a case start leaves alone. -/
theorem State.startCase_frame (s : State) (o : StartOrigin) (e : Bool) :
    (s.startCase o e).others = s.others ∧ (s.startCase o e).rcs = s.rcs :=
  ⟨(State.enterLocating_polled _).1, (State.enterLocating_polled _).2.1⟩

/-- The case that a port's start opens. -/
theorem State.startCase_case (s : State) (p : Port) (essential : Option Bool) :
    (s.startCase (startOriginOf p) (essential.getD s.ehu.params.essential)).ehu.huntCase = { HuntCase.cold with
      number := if s.ehu.huntCase.number = 65535 then 1 else s.ehu.huntCase.number + 1
      state := .locating, startMinute := some s.svu.minute
      startOrigin := some (match p with | .controller => .controller | .maintenance => .maintenance)
      essential := match essential with | some b => b | none => s.ehu.params.essential
      candidates := s.switchesInPreorder.filter fun k => (s.config k).any fun c => (s.reach 0).has c.downstream
      listen := .running (10 * s.ehu.params.listen) (10 * s.ehu.params.listen) } := by
  rw [State.startCase_ehu]
  cases p <;> cases essential <;> rfl

/-- Settles O49. -/
theorem startHuntOpensACase : Obligations.StartHuntOpensACase := by
  unfold Obligations.StartHuntOpensACase
  intro s p essential hs sent fit number
  have fits : s.headFit = true ↔ fit := s.headFit_iff
  have refused : ∀ c, s.startChecks = some c →
      sent = .next (State.arbitrate (s.answer p 0x51 c .empty)) := by
    intro c fails
    have carried : (s.taking p).carryOut p (.startHunt (essential.map .named)) = (s.taking p, .refuse c) := by
      have fails' : (s.taking p).startChecks = some c := fails
      simp [State.carryOut, State.startHunt, fails']
    exact (exec_unmoved (c := .startHunt p (essential.map .named)) rfl hs (fun _ => rfl) rfl rfl carried :)
  refine ⟨?_, fun mode => refused _ ?_, fun mode state => refused _ ?_, fun mode running started => refused _ ?_,
    fun mode idle unfit => refused _ ?_, fun mode idle fit full => refused _ (State.startChecks_full mode idle (fits.mpr fit) full),
    fun mode idle fit room => ?_⟩
  · exact (exec_unmoved (c := .startHunt p (some .unnamed)) (d := .refuse .refusedRange) rfl hs (fun _ => rfl) rfl rfl rfl :)
  · simp [State.startChecks, mode]
  · simp [State.startChecks, mode, state]
  · simp [State.startChecks, mode, running, started]
  · have unfit' : s.headFit = false := by
      rw [← Bool.not_eq_true, fits]
      exact unfit
    simp [State.startChecks, mode, idle, unfit']
  · have pass := State.startChecks_pass mode idle (fits.mpr fit) room
    have ehu := s.startCase_ehu (startOriginOf p) (essential.getD s.ehu.params.essential)
    have carried : (s.taking p).carryOut p (.startHunt (essential.map .named))
        = ((s.startCase (startOriginOf p) (essential.getD s.ehu.params.essential)).taking p, .accepted (.caseNumber number)) := by
      have pass' : (s.taking p).startChecks = none := pass
      have numbered : ((s.startCase (startOriginOf p) (essential.getD s.ehu.params.essential)).taking p).ehu.huntCase.number
          = number := congrArg (·.huntCase.number) ehu
      rw [← numbered, ← State.startCase_taking]
      simp [State.carryOut, State.startHunt, pass']
    have answered := exec_answered (c := .startHunt p (essential.map .named)) rfl hs (fun _ => rfl) rfl rfl carried
    rw [State.answer_taking] at answered
    obtain ⟨others, rcs⟩ := s.startCase_frame (startOriginOf p) (essential.getD s.ehu.params.essential)
    simp only [State.others, Prod.mk.injEq] at others
    obtain ⟨-, -, -, fmu, htu, fsu, svu⟩ := others
    have case_ := s.startCase_case p essential
    refine ⟨_, answered, case_, ?_, fun k => ?_, State.startCase_noticed _ _ _, fmu, htu, fsu, rcs, svu⟩
    · rw [ehu]
    · rw [case_]
      exact State.enterLocating_runtime _ k

/-! ### The requests of an open or concluded case (R149, R150, R152, R154) -/

theorem State.stillStopped_iff (s : State) (p : Suspension) : s.stillStopped p = true ↔ match p.kind with
    | .trip => s.ehu.runningCount ≠ 0
    | .switchFailed => (s.runtime p.switch).condition = .failed
    | .headSilent => (s.runtime 0).condition ≠ .sound := by
  obtain ⟨kind, k⟩ := p
  cases kind <;> simp [State.stillStopped]

theorem State.resumeHunt_refused {s : State} (h : s.ehu.huntCase.state ≠ .suspended) :
    s.resumeHunt = (s, .refuse .refusedState) := by
  unfold State.resumeHunt
  dsimp only
  split
  next e _ => exact absurd e h
  next => rfl

theorem State.resumeHunt_suspended {s : State} {cause : Suspension} (state : s.ehu.huntCase.state = .suspended)
    (suspension : s.ehu.huntCase.suspension = some cause) :
    s.resumeHunt = if s.stillStopped cause then (s, .refuse .refusedState)
      else (s.resumeCase, .accepted (.caseNumber s.ehu.huntCase.number)) := by
  simp only [State.resumeHunt, state, suspension]

theorem State.closeHuntCase_concluded {s : State} (h : s.ehu.huntCase.state = .concluded) : s.closeHuntCase =
    ({ s with
      ehu.huntCase := s.ehu.huntCase.closed
      ehu.watch := if s.ehu.watch.state = .hunting then
          if s.ehu.watch.episode = true then
            { s.ehu.watch with
              state := .watching, confirmed := false
              confirmTimer := .running (10 * s.ehu.params.confirm) (10 * s.ehu.params.confirm) }
          else { s.ehu.watch with state := .idle }
        else s.ehu.watch }, .done) := by
  simp only [State.closeHuntCase, h, State.rearmWatch, beq_iff_eq]
  split
  · split <;> rfl
  · rfl

/-- Settles O50. -/
theorem huntCaseRequests : Obligations.HuntCaseRequests := by
  unfold Obligations.HuntCaseRequests
  intro s p hs c
  refine ⟨fun other => ?notSuspended, fun cause suspended suspension => ?suspended,
    fun idle => ?abandonIdle, fun concluded => ?abandonConcluded, fun open_ => ?abandons,
    fun st stepping step => ⟨fun none => ?abandonPends, fun pending => ?abandonPending⟩, fun idle => ?closeIdle,
    fun started running => ?closeOpen, fun concluded => ?closes⟩
  case notSuspended =>
    exact (exec_unmoved (c := .resumeHunt p) rfl hs (fun _ => rfl) rfl rfl (State.resumeHunt_refused (s := s.taking p) other) :)
  case' suspended =>
    intro stopped
    refine ⟨fun stop => ?stopped, fun free => ?resumes⟩
  case stopped =>
    have stops : (s.taking p).stillStopped cause = true := ((s.taking p).stillStopped_iff cause).mpr stop
    have carried : (s.taking p).resumeHunt = (s.taking p, .refuse .refusedState) := by
      rw [State.resumeHunt_suspended (s := s.taking p) suspended suspension, if_pos stops]
    exact (exec_unmoved (c := .resumeHunt p) rfl hs (fun _ => rfl) rfl rfl carried :)
  case resumes =>
    have runs : (s.taking p).stillStopped cause = false := by
      rw [← Bool.not_eq_true, (s.taking p).stillStopped_iff cause]
      exact free
    have carried : (s.taking p).resumeHunt = (s.resumeCase.taking p, .accepted (.caseNumber c.number)) := by
      have resumed : (s.taking p).resumeCase = s.resumeCase.taking p :=
        State.enterLocating_taking { s with ehu.huntCase.suspension := none } p
      rw [State.resumeHunt_suspended (s := s.taking p) suspended suspension, runs, resumed]
      rfl
    have answered := exec_answered (c := .resumeHunt p) rfl hs (fun _ => rfl) rfl rfl carried
    rw [State.answer_taking] at answered
    obtain ⟨others, rcs, rqi, -, -⟩ := State.enterLocating_polled { s with ehu.huntCase.suspension := none }
    simp only [State.others, Prod.mk.injEq] at others
    obtain ⟨-, -, -, fmu, htu, fsu, svu⟩ := others
    exact ⟨_, answered, State.enterLocating_ehu _, State.enterLocating_runtime _, fmu, htu, fsu, rcs, svu, rqi⟩
  case abandonIdle =>
    have carried : (s.taking p).abandonHunt = (s.taking p, .refuse .refusedState) := by
      simp [State.abandonHunt, show s.ehu.huntCase.state = .idle from idle]
    exact (exec_unmoved (c := .abandonHunt p) rfl hs (fun _ => rfl) rfl rfl carried :)
  case abandonConcluded =>
    have carried : (s.taking p).abandonHunt = (s.taking p, .already) := by
      simp [State.abandonHunt, show s.ehu.huntCase.state = .concluded from concluded]
    exact (exec_unmoved (c := .abandonHunt p) rfl hs (fun _ => rfl) rfl rfl carried :)
  case abandons =>
    have carried : (s.taking p).abandonHunt = ((s.concludeAbandoned .port).taking p, .done) := by
      rw [← State.concludeAbandoned_taking]
      rcases open_ with state | state <;>
        simp [State.abandonHunt, show s.ehu.huntCase.state = _ from state]
    have answered := exec_answered (c := .abandonHunt p) rfl hs (fun _ => rfl) rfl rfl carried
    rw [State.answer_taking] at answered
    exact answered
  case abandonPends =>
    have carried : (s.taking p).abandonHunt = ({ s.taking p with ehu.pendingAbandon := some .port }, .done (.steppingOn st.switch)) := by
      simp [State.abandonHunt, show s.ehu.huntCase.state = .stepping from stepping, State.pendAbandon,
        show s.ehu.pendingAbandon = .none from none, State.steppingData,
        show s.ehu.huntCase.step = some st from step]
    exact (exec_answered_ports (c := .abandonHunt p) rfl hs (fun _ => rfl) rfl rfl carried rfl :)
  case abandonPending =>
    have carried : (s.taking p).abandonHunt = (s.taking p, .already (.steppingOn st.switch)) := by
      simp [State.abandonHunt, show s.ehu.huntCase.state = .stepping from stepping,
        show s.ehu.pendingAbandon.isSome = true from pending, State.steppingData,
        show s.ehu.huntCase.step = some st from step]
    exact (exec_unmoved (c := .abandonHunt p) rfl hs (fun _ => rfl) rfl rfl carried :)
  case closeIdle =>
    have carried : (s.taking p).closeHuntCase = (s.taking p, .already) := by
      simp [State.closeHuntCase, show s.ehu.huntCase.state = .idle from idle]
    exact (exec_unmoved (c := .closeHuntCase p) rfl hs (fun _ => rfl) rfl rfl carried :)
  case closeOpen =>
    have carried : (s.taking p).closeHuntCase = (s.taking p, .refuse .refusedState) := by
      unfold State.closeHuntCase
      split
      next e => exact absurd e started
      next e => rfl
      next => rfl
      next => rfl
      next e => exact absurd e running
    exact (exec_unmoved (c := .closeHuntCase p) rfl hs (fun _ => rfl) rfl rfl carried :)
  case closes =>
    have carried := State.closeHuntCase_concluded (s := s.taking p) concluded
    exact (exec_answered_ports (c := .closeHuntCase p) rfl hs (fun _ => rfl) rfl rfl carried rfl :)

/-! ### A confirmed episode (R125, R126) -/

/-- Settles O51. -/
theorem confirmTimerExpires : Obligations.ConfirmTimerExpires := by
  unfold Obligations.ConfirmTimerExpires
  intro s hs running confirmed due
  have isDue : (confirmed.fmu.mode = .service ∧ confirmed.ehu.huntCase.state = .idle ∧ confirmed.headFit = true) ↔ due := by
    rw [State.headFit_iff]
    exact Iff.rfl
  have expires : exec .confirmTimerExpiry s = .next s.confirmExpired.arbitrate :=
    congrArg Host.Outcome.next (State.expiry_working hs (·.ehu.watch.confirmTimer) linkReads State.confirmExpired running)
  have attempts : s.ehu.params.autoStart = true → s.confirmExpired = confirmed.attemptStart := fun on => if_pos on
  refine ⟨fun off => ?_, fun on now room => ?_, fun on undue => ?_⟩
  · rw [expires, show s.confirmExpired = confirmed.notify .hunt from if_neg (by simp [off])]
  · obtain ⟨mode, idle, fit⟩ := isDue.mpr now
    have starts : confirmed.attemptStart = confirmed.startCase .auto s.ehu.params.essential := by
      rw [State.attemptStart, State.startChecks_pass mode idle fit room]
    rw [expires, attempts on, starts]
    have ehu := confirmed.startCase_ehu .auto s.ehu.params.essential
    obtain ⟨others, rcs⟩ := confirmed.startCase_frame .auto s.ehu.params.essential
    simp only [State.others, Prod.mk.injEq] at others
    obtain ⟨-, -, -, fmu, htu, fsu, svu⟩ := others
    refine ⟨_, rfl, ?_, ?_, ?_, ?_, ?_, ?_, ?_, State.startCase_noticed _ _ _, fmu, htu, fsu, rcs, svu⟩
    all_goals rw [ehu]
    all_goals rfl
  · have failed : ∃ r : StartRefusal, (r = .full ↔ due) ∧ confirmed.attemptStart = confirmed.attemptFailed r := by
      by_cases now : due
      · obtain ⟨mode, idle, fit⟩ := isDue.mpr now
        exact ⟨.full, by simp [now], by rw [State.attemptStart, State.startChecks_full mode idle fit (undue now)]⟩
      · obtain ⟨c, fails, other⟩ := State.startChecks_undue (mt isDue.mp now)
        refine ⟨.state, by simp [now], ?_⟩
        unfold State.attemptStart
        rw [fails]
        cases c <;> first | rfl | exact absurd rfl other
    obtain ⟨r, full, attempt⟩ := failed
    rw [expires, attempts on, attempt]
    refine ⟨_, r, full, rfl, ?_⟩
    unfold State.attemptFailed
    dsimp only
    by_cases same : s.ehu.watch.lastRefusal = some r
    · rw [if_pos (show confirmed.ehu.watch.lastRefusal = some r from same), if_pos same]
      exact ⟨rfl, rfl, by simpa using full, rfl, rfl, rfl, rfl, rfl, rfl, rfl⟩
    · rw [if_neg (show ¬ confirmed.ehu.watch.lastRefusal = some r from same), if_neg same]
      exact ⟨rfl, rfl, by simpa using full, State.noticed_notify _ _, rfl, rfl, rfl, rfl, rfl, rfl⟩

end Sys2Proof.Machine
end

section
/-! The operation slot (R90, R91, R92), and OPERATE SWITCH. -/

namespace Sys2Proof.Machine

/-! ### R90's table -/

theorem Runtime.met_iff (r : Runtime) (a : SwitchAction) : r.met a = true ↔ r.inFlight = none ∧ r.position = targetOf a := by
  simp [Runtime.met]

section
variable {s : State} {k : SwitchNo}

theorem State.enterSlot_met {q : OpRequest} (h : (s.runtime k).met q.action = true) :
    s.enterSlot k q = (s.endInSlot k q .already, .already) := by rw [State.enterSlot, if_pos h]

theorem State.enterSlot_unmet {q : OpRequest} (h : (s.runtime k).met q.action = false) :
    s.enterSlot k q = (s.setRuntime k { s.runtime k with slot := some q }, .taken) := by
  rw [State.enterSlot, if_neg (by simp [h])]

theorem State.requestSlot_empty {q : OpRequest} (h : (s.runtime k).slot = none) : s.requestSlot k q = s.enterSlot k q := by
  obtain ⟨a, c⟩ := q
  cases a <;> simp [State.requestSlot, h]

theorem State.requestSlot_merge {cs c : Classes} (h : (s.runtime k).slot = some ⟨.toOpen, cs⟩) :
    s.requestSlot k ⟨.toOpen, c⟩ = (s.setRuntime k { s.runtime k with slot := some ⟨.toOpen, cs.union c⟩ }, .taken) := by
  simp [State.requestSlot, h]

theorem State.requestSlot_preempt {cs c : Classes} (h : (s.runtime k).slot = some ⟨.toClose, cs⟩) :
    s.requestSlot k ⟨.toOpen, c⟩ = State.enterSlot
      ((s.setRuntime k { s.runtime k with slot := none }).endInSlot k ⟨.toClose, cs⟩ .preEmpted) k ⟨.toOpen, c⟩ := by
  simp [State.requestSlot, h]

theorem State.requestSlot_busy {c : Classes} (h : (s.runtime k).slot.isSome = true) :
    s.requestSlot k ⟨.toClose, c⟩ = (s, .busy) := by
  obtain ⟨q, e⟩ := Option.isSome_iff_exists.mp h
  simp [State.requestSlot, e]

end

/-! ### The end of a request in the slot (R89) -/

/-- What the end of a request in a switch's slot changes: the records of that switch, the notices, the polls wanted and the case that a
report of the running sequences may resume. -/
structure State.EndedInSlot (s : State) (k : SwitchNo) (q : OpRequest) (res : OpResult) (t : State) : Prop where
  others : t.others = s.others
  noticed : t.noticed .operation
  disturbed : t.ehu.disturbed = s.ehu.disturbed
  seq : ∀ j, j ≠ k → t.seq j = s.seq j
  runtime : ∀ j, j ≠ k → t.runtime j = { s.runtime j with pollWanted := (t.runtime j).pollWanted }
  record : t.runtime k = { s.runtime k with
    lastResult := some ⟨q.action, q.classes, res⟩, pollWanted := (t.runtime k).pollWanted }

theorem State.endInSlot_spec (s : State) (k : SwitchNo) (q : OpRequest) (res : OpResult) :
    s.EndedInSlot k q res (s.endInSlot k q res) := by
  have told : (s.recordResult k q res).Told k (s.endInSlot k q res) := State.rcsResult_told _ k _ _ _
  refine ⟨told.others, told.noticed (State.noticed_notify _ _), ?_, fun j hj => told.seq_other hj, fun j hj => ?_, ?_⟩
  · rw [told.ehu]
    rfl
  · have there := told.runtime j
    have same : (s.recordResult k q res).runtime j = s.runtime j := State.runtime_setRuntime_other _ _ hj
    rwa [same] at there
  · have here := told.runtime k
    have same : (s.recordResult k q res).runtime k = { s.runtime k with lastResult := some ⟨q.action, q.classes, res⟩ } :=
      State.runtime_setRuntime_same _ _ _
    rwa [same] at here

/-- A sequence after an OPEN met already (R115). -/
def Sequence.openMet (q : Sequence) (cancel : Bool) : Sequence :=
  match q.state with
  | .opened | .lockout | .outOfService => q
  | .reclosing _ => if cancel then q.settled .opened else q
  | .deadTime _ | .closed | .reclaim _ | .uncertain => q.settled .opened

/-- A sequence whose reclose, waiting in the slot, an OPEN has pre-empted (R112). -/
def Sequence.preEmpted (q : Sequence) (cs : Classes) : Sequence :=
  match q.state with
  | .reclosing _ => if cs.reclose = true ∧ q.cancel = false then
      { q with note := none, cancel := true, marker := none, deadTimer := .stopped, tripClass := none } else q
  | _ => q

/-- A sequence cancelled: the writing of it starts and stops no sequence. -/
theorem State.cancelSeq_eq (s : State) (k : SwitchNo) : s.cancelSeq k =
    s.putSeq k { s.seq k with cancel := true, marker := none, deadTimer := .stopped, tripClass := none } := by
  simp [State.cancelSeq, State.setSeq]

/-- An OPEN that ends ALREADY at an OPEN switch. -/
theorem State.endInSlot_open_already {s : State} {k : SwitchNo} (position : (s.runtime k).position = .opened) (c : Classes)
    (j : SwitchNo) : (s.endInSlot k ⟨.toOpen, c⟩ .already).seq j = if j = k then (s.seq k).openMet (s.seq k).cancel else s.seq j := by
  have same : s.seq j = if j = k then s.seq k else s.seq j := by by_cases x : j = k <;> simp [x]
  have position' : ((s.recordResult k ⟨.toOpen, c⟩ .already).runtime k).position = .opened := by
    rw [show (s.recordResult k ⟨.toOpen, c⟩ .already).runtime k = _ from State.runtime_setRuntime_same _ _ _]
    exact position
  have recorded : (s.recordResult k ⟨.toOpen, c⟩ .already).seq = s.seq := rfl
  unfold State.endInSlot State.rcsResult State.rcsOpenResult State.settleByPosition Sequence.openMet
  dsimp only
  rw [recorded, position']
  cases state : (s.seq k).state
  case reclosing n =>
    cases cancel : (s.seq k).cancel <;> simp [State.settleSeq_seq, recorded]
    intro e
    rw [e]
  all_goals simp [State.settleSeq_seq, recorded]
  all_goals
    intro e
    rw [e]

/-- A CLOSE that ends ALREADY, not the RCS's own, moves no sequence. -/
theorem State.endInSlot_close_already (s : State) (k : SwitchNo) {c : Classes} (port : c.reclose = false) :
    s.endInSlot k ⟨.toClose, c⟩ .already = s.recordResult k ⟨.toClose, c⟩ .already := by
  unfold State.endInSlot State.rcsResult State.rcsCloseResult
  simp only [port, Bool.false_eq_true, if_false]
  split <;> first | contradiction | rfl

/-- A CLOSE that ends PRE-EMPTED. -/
theorem State.endInSlot_preEmpted (s : State) (k : SwitchNo) (cs : Classes) (j : SwitchNo) :
    (s.endInSlot k ⟨.toClose, cs⟩ .preEmpted).seq j = if j = k then (s.seq k).preEmpted cs else s.seq j := by
  have same : s.seq j = if j = k then s.seq k else s.seq j := by by_cases x : j = k <;> simp [x]
  have recorded : (s.recordResult k ⟨.toClose, cs⟩ .preEmpted).seq = s.seq := rfl
  unfold State.endInSlot State.rcsResult State.rcsCloseResult Sequence.preEmpted
  dsimp only
  rw [recorded]
  cases own : cs.reclose with
  | false =>
    cases state : (s.seq k).state <;> simp [recorded, ← same]
  | true =>
    cases state : (s.seq k).state <;> simp [recorded, ← same]
    case reclosing n =>
      cases cancel : (s.seq k).cancel
      case true => simp [recorded, ← same]
      case false =>
        simp only [Bool.false_eq_true, if_false, if_true, State.recloseEnded, State.cancelSeq, State.setSeq_seq, recorded,
          state]
        split <;> rfl

theorem Sequence.preEmpted_state (q : Sequence) (cs : Classes) : (q.preEmpted cs).state = q.state := by
  unfold Sequence.preEmpted
  split
  · split <;> rfl
  · rfl

theorem Sequence.preEmpted_idle {q : Sequence} (h : q.state.owes = false) (cs : Classes) : q.preEmpted cs = q := by
  unfold Sequence.preEmpted
  split
  next e => simp [e, SeqState.owes] at h
  next => rfl

/-- A pre-empted sequence cancelled: its note apart, as if it had not been pre-empted. -/
theorem Sequence.preEmpted_cancelled (q : Sequence) (cs : Classes) :
    { q.preEmpted cs with cancel := true, marker := none, deadTimer := .stopped, tripClass := none } =
      { q with cancel := true, marker := none, deadTimer := .stopped, tripClass := none, note := (q.preEmpted cs).note } := by
  unfold Sequence.preEmpted
  split
  · split <;> rfl
  · rfl

/-- A pre-empted sequence that an OPEN met already then settles. -/
theorem Sequence.openMet_preEmpted (q : Sequence) (cs : Classes) :
    (q.preEmpted cs).openMet (q.preEmpted cs).cancel = q.openMet (q.cancel || cs.reclose) := by
  unfold Sequence.preEmpted
  cases state : q.state
  case reclosing n =>
    cases own : cs.reclose <;> cases cancel : q.cancel <;> simp [Sequence.openMet, state, cancel, Sequence.settled]
  all_goals simp [Sequence.openMet, state]

/-! ### A port operation accepted (R91, R115, R116) -/

section
variable {s : State} {k : SwitchNo} {a : SwitchAction}

theorem State.rcsAccepted_rqi (s : State) (k : SwitchNo) (a : SwitchAction) : (s.rcsAccepted k a).rqi = s.rqi := by
  unfold State.rcsAccepted
  split
  · exact State.setSeq_rqi _ _ _
  · exact State.setSeq_rqi _ _ _
  · exact State.setSeq_rqi _ _ _
  · rfl

/-- No sequence owes a reclose. -/
theorem State.rcsAccepted_idle (h : (s.seq k).state.owes = false) : s.rcsAccepted k a = s := by
  unfold State.rcsAccepted
  split <;> simp_all [SeqState.owes]

/-- An OPEN accepted for a sequence that owes a reclose. -/
theorem State.rcsAccepted_cancels (h : (s.seq k).state.owes = true) : s.rcsAccepted k .toOpen = s.cancelSeq k := by
  unfold State.rcsAccepted
  cases e : (s.seq k).state <;> simp_all [SeqState.owes]

/-- A CLOSE accepted in DEAD_TIME. -/
theorem State.rcsAccepted_takesOver {n : Nat} (h : (s.seq k).state = .deadTime n) :
    s.rcsAccepted k .toClose = s.settleSeq k .opened := by
  simp [State.rcsAccepted, h]

end

/-- What an accepted port operation changes of a state whose slot it has filled. -/
structure State.Accepted (s : State) (k : SwitchNo) (a : SwitchAction) (t : State) : Prop where
  others : t.others = s.others
  rqi : t.rqi = s.rqi
  runtime : ∀ j, t.runtime j = { s.runtime j with pollWanted := (t.runtime j).pollWanted }
  seq : ∀ j, j ≠ k → t.seq j = s.seq j
  disturbed : t.ehu.disturbed = s.ehu.disturbed
  idle : (s.seq k).state.owes = false → t = s
  cancels : a = .toOpen → (s.seq k).state.owes = true →
    t = s.putSeq k { s.seq k with cancel := true, marker := none, deadTimer := .stopped, tripClass := none }
  takesOver : ∀ n, a = .toClose → (s.seq k).state = .deadTime n → t.seq k = (s.seq k).settled .opened

theorem State.rcsAccepted_spec (s : State) (k : SwitchNo) (a : SwitchAction) : s.Accepted k a (s.rcsAccepted k a) := by
  have told := s.rcsAccepted_told k a
  refine ⟨told.others, s.rcsAccepted_rqi k a, told.runtime, fun j hj => told.seq_other hj, ?_, State.rcsAccepted_idle, ?_, ?_⟩
  · rw [told.ehu]
  · rintro rfl owes
    rw [State.rcsAccepted_cancels owes, State.cancelSeq_eq]
  · rintro n rfl due
    rw [State.rcsAccepted_takesOver due, State.settleSeq_seq _ _ _ (.inl rfl), if_pos rfl]

/-! ### OPERATE SWITCH (R90, R91) -/

theorem State.disturb_eq (s : State) : s.disturb =
    if s.ehu.huntCase.step.any (·.outcome.isNone) then { s with ehu.disturbed := true } else s := by
  unfold State.disturb
  split
  next e => simp [e]
  next other =>
    cases e : s.ehu.huntCase.step with
    | none => rfl
    | some st =>
      obtain ⟨k, phase, outcome⟩ := st
      cases outcome with
      | none => exact absurd e (other k phase)
      | some o => rfl

/-- What a port is told of the slot's answer. -/
def State.portAnswered (k : SwitchNo) (a : SwitchAction) : State × SlotAnswer → State × Completion
  | (t, .taken) => (t.rcsAccepted k a, .accepted (.operation k a))
  | (t, .already) => (t, .already)
  | (t, _) => (t, .refuse .refusedBusy)

theorem State.disturb_taking (s : State) (p : Port) : (s.taking p).disturb = { s.taking p with
    ehu := (if s.ehu.huntCase.step.any (·.outcome.isNone) then { s with ehu.disturbed := true } else s).ehu } := by
  rw [State.disturb_eq]
  by_cases step : s.ehu.huntCase.step.any (·.outcome.isNone) = true
  · rw [if_pos step, if_pos (show (s.taking p).ehu.huntCase.step.any (·.outcome.isNone) = true from step)]
    rfl
  · rw [if_neg step, if_neg (show ¬ (s.taking p).ehu.huntCase.step.any (·.outcome.isNone) = true from step)]
    rfl

section
variable {s : State} {p : Port} {k : SwitchNo}

theorem State.operateSwitch_checked {a : SwitchAction} (configured : s.configured k = true) (free : s.underTest k = false) :
    s.operateSwitch p k.val (.named a) = s.disturb.operateChecked p k a := by
  simp [State.operateSwitch, named?, configured, free, State.huntOperateTaken]

/-- The checks of R91 passed, the request meets R90's table. -/
theorem State.operateChecked_allowed {a : SwitchAction}
    (allowed : a = .toOpen ∨ ((s.runtime k).condition ≠ .failed ∧ s.closePermitted k .deliberate = true)) :
    s.operateChecked p k a = State.portAnswered k a (s.requestSlot k ⟨a, .ofPort p⟩) := by
  unfold State.operateChecked State.portAnswered
  rcases allowed with rfl | ⟨fit, permitted⟩
  · rfl
  · cases a
    · rfl
    · simp [fit, permitted] <;> rfl

end

theorem Classes.ofPort_reclose (p : Port) : (Classes.ofPort p).reclose = false := by cases p <;> rfl

/-- The part once a port's operation is taken and reported to the EHU. -/
def State.operateTaken (s : State) (p : Port) : State :=
  { s.taking p with ehu := (if s.ehu.huntCase.step.any (·.outcome.isNone) then { s with ehu.disturbed := true } else s).ehu }

section
variable {s t : State} {p : Port} {k : SwitchNo} {a : SwitchAction} {d : Completion}

/-- OPERATE SWITCH of a configured switch that is not under test. -/
theorem exec_operate (hs : s.ready p) (configured : s.configured k = true) (free : s.underTest k = false)
    (checked : (s.operateTaken p).operateChecked p k a = (t, d)) :
    exec (.operateSwitch p k.val (.named a)) s = .next (t.answer p 0x40 d.code d.data).arbitrate := by
  have carried : (s.taking p).operateSwitch p k.val (.named a) = (t, d) := by
    rw [State.operateSwitch_checked (s := s.taking p) configured free, State.disturb_taking]
    exact checked
  exact (exec_answered (c := .operateSwitch p k.val (.named a)) rfl hs (fun _ => rfl) rfl rfl carried :)

theorem exec_operate_ports (hs : s.ready p) (configured : s.configured k = true) (free : s.underTest k = false)
    (checked : (s.operateTaken p).operateChecked p k a = (t, d)) (ports : t.rqi = (s.operateTaken p).rqi) :
    exec (.operateSwitch p k.val (.named a)) s = .next (State.answer { t with rqi := s.rqi } p 0x40 d.code d.data).arbitrate := by
  rw [exec_operate hs configured free checked, State.answer_of_rqi ports]

end

section
variable {s : State} {p : Port} {k : SwitchNo} {a : SwitchAction}

/-- An operation that finds the slot empty and is not met. -/
theorem State.operateChecked_fills
    (allowed : a = .toOpen ∨ ((s.runtime k).condition ≠ .failed ∧ s.closePermitted k .deliberate = true))
    (unmet : ¬ ((s.runtime k).inFlight = none ∧ (s.runtime k).position = targetOf a)) (empty : (s.runtime k).slot = none) :
    s.operateChecked p k a =
      ((s.setRuntime k { s.runtime k with slot := some ⟨a, .ofPort p⟩ }).rcsAccepted k a, .accepted (.operation k a)) := by
  rw [State.operateChecked_allowed allowed, State.requestSlot_empty empty,
    State.enterSlot_unmet (Bool.eq_false_iff.mpr (mt (Runtime.met_iff _ _).mp unmet))]
  rfl

/-- An operation met already with the slot empty. -/
theorem State.operateChecked_met
    (allowed : a = .toOpen ∨ ((s.runtime k).condition ≠ .failed ∧ s.closePermitted k .deliberate = true))
    (met : (s.runtime k).inFlight = none ∧ (s.runtime k).position = targetOf a) (empty : (s.runtime k).slot = none) :
    s.operateChecked p k a = (s.endInSlot k ⟨a, .ofPort p⟩ .already, .already) := by
  rw [State.operateChecked_allowed allowed, State.requestSlot_empty empty,
    State.enterSlot_met (q := ⟨a, .ofPort p⟩) ((Runtime.met_iff _ _).mpr met)]
  rfl

/-- An OPEN merged with one that stands in the slot. -/
theorem State.operateChecked_merge {cs : Classes} (slot : (s.runtime k).slot = some ⟨.toOpen, cs⟩) :
    s.operateChecked p k .toOpen =
      ((s.setRuntime k { s.runtime k with slot := some ⟨.toOpen, cs.union (.ofPort p)⟩ }).rcsAccepted k .toOpen,
        .accepted (.operation k .toOpen)) := by
  rw [State.operateChecked_allowed (.inl rfl), State.requestSlot_merge slot]
  rfl

/-- The part once a CLOSE in a switch's slot has ended PRE-EMPTED. -/
def State.preEmptSlot (s : State) (k : SwitchNo) (cs : Classes) : State :=
  (s.setRuntime k { s.runtime k with slot := none }).endInSlot k ⟨.toClose, cs⟩ .preEmpted

/-- What the pre-emption changes. -/
theorem State.preEmptSlot_spec (s : State) (k : SwitchNo) (cs : Classes) :
    (s.preEmptSlot k cs).others = s.others ∧ (s.preEmptSlot k cs).noticed .operation
      ∧ (s.preEmptSlot k cs).ehu.disturbed = s.ehu.disturbed
      ∧ (∀ j, (s.preEmptSlot k cs).seq j = if j = k then (s.seq k).preEmpted cs else s.seq j)
      ∧ (∀ j, j ≠ k → (s.preEmptSlot k cs).runtime j =
          { s.runtime j with pollWanted := ((s.preEmptSlot k cs).runtime j).pollWanted })
      ∧ (s.preEmptSlot k cs).runtime k = { s.runtime k with
          slot := none, lastResult := some ⟨.toClose, cs, .preEmpted⟩
          pollWanted := ((s.preEmptSlot k cs).runtime k).pollWanted } := by
  have ended := (s.setRuntime k { s.runtime k with slot := none }).endInSlot_spec k ⟨.toClose, cs⟩ .preEmpted
  refine ⟨ended.others, ended.noticed, ended.disturbed, State.endInSlot_preEmpted _ k cs, fun j hj => ?_, ?_⟩
  · have there := ended.runtime j hj
    rwa [State.runtime_setRuntime_other _ _ hj] at there
  · have here := ended.record
    rwa [State.runtime_setRuntime_same] at here

/-- An OPEN that pre-empts a CLOSE and takes its place. -/
theorem State.operateChecked_preEmpts {cs : Classes} (slot : (s.runtime k).slot = some ⟨.toClose, cs⟩)
    (unmet : ¬ ((s.runtime k).inFlight = none ∧ (s.runtime k).position = .opened)) :
    s.operateChecked p k .toOpen =
      (((s.preEmptSlot k cs).setRuntime k
        { (s.preEmptSlot k cs).runtime k with slot := some ⟨.toOpen, .ofPort p⟩ }).rcsAccepted k .toOpen,
        .accepted (.operation k .toOpen)) := by
  obtain ⟨-, -, -, -, -, here⟩ := s.preEmptSlot_spec k cs
  have unmet' : ((s.preEmptSlot k cs).runtime k).met .toOpen = false := by
    rw [here]
    exact Bool.eq_false_iff.mpr (mt (Runtime.met_iff _ _).mp unmet)
  rw [State.operateChecked_allowed (.inl rfl), State.requestSlot_preempt slot]
  exact congrArg _ (State.enterSlot_unmet (q := ⟨.toOpen, .ofPort p⟩) unmet')

/-- An OPEN that pre-empts a CLOSE and is met already. -/
theorem State.operateChecked_preEmptsMet {cs : Classes} (slot : (s.runtime k).slot = some ⟨.toClose, cs⟩)
    (met : (s.runtime k).inFlight = none ∧ (s.runtime k).position = .opened) :
    s.operateChecked p k .toOpen = ((s.preEmptSlot k cs).endInSlot k ⟨.toOpen, .ofPort p⟩ .already, .already) := by
  obtain ⟨-, -, -, -, -, here⟩ := s.preEmptSlot_spec k cs
  have met' : ((s.preEmptSlot k cs).runtime k).met .toOpen = true := by
    rw [here]
    exact (Runtime.met_iff _ _).mpr met
  rw [State.operateChecked_allowed (.inl rfl), State.requestSlot_preempt slot]
  exact congrArg _ (State.enterSlot_met (q := ⟨.toOpen, .ofPort p⟩) met')

end

theorem State.others_fields {s t : State} (h : t.others = s.others) :
    t.fmu = s.fmu ∧ t.htu = s.htu ∧ t.fsu = s.fsu ∧ t.svu = s.svu ∧ t.lines = s.lines := by
  simp only [State.others, Prod.mk.injEq] at h
  obtain ⟨-, -, lines, fmu, htu, fsu, svu⟩ := h
  exact ⟨fmu, htu, fsu, svu, lines⟩

/-- The ports apart, the taking changes the disturbance mark alone. -/
theorem State.operateTaken_rqi (s : State) (p : Port) : { s.operateTaken p with rqi := s.rqi } =
    if s.ehu.huntCase.step.any (·.outcome.isNone) then { s with ehu.disturbed := true } else s := by
  unfold State.operateTaken
  split <;> rfl

/-- Settles O33. -/
theorem operateSwitchFillsTheSlot : Obligations.OperateSwitchFillsTheSlot := by
  unfold Obligations.OperateSwitchFillsTheSlot
  refine ⟨fun s p k a hs configured free => ?known, fun s p hs => ⟨fun n a out => ?range, fun k a bare => ?bare,
    fun k configured test => ⟨?testOpen, ?testClose⟩⟩⟩
  case range =>
    have refused : (s.taking p).operateSwitch p n a = (s.taking p, .refuse .refusedRange) := by
      unfold State.operateSwitch
      rcases out with out | rfl
      · rw [switchNo?_eq_none out]
      · cases switchNo? n <;> rfl
    exact (exec_unmoved (c := .operateSwitch p n a) rfl hs (fun _ => rfl) rfl rfl refused :)
  case bare =>
    have refused : (s.taking p).operateSwitch p k.val (.named a) = (s.taking p, .refuse .refusedState) := by
      simp [State.operateSwitch, named?, show (s.taking p).configured k = false from bare]
    exact (exec_unmoved (c := .operateSwitch p k.val (.named a)) rfl hs (fun _ => rfl) rfl rfl refused :)
  case testOpen =>
    have answer : (s.taking p).operateSwitch p k.val (.named .toOpen) = (s.taking p, .already) := by
      simp [State.operateSwitch, named?, show (s.taking p).configured k = true from configured,
        show (s.taking p).underTest k = true from test]
    exact (exec_unmoved (c := .operateSwitch p k.val (.named .toOpen)) rfl hs (fun _ => rfl) rfl rfl answer :)
  case testClose =>
    have answer : (s.taking p).operateSwitch p k.val (.named .toClose) = (s.taking p, .refuse .refusedBusy) := by
      simp [State.operateSwitch, named?, show (s.taking p).configured k = true from configured,
        show (s.taking p).underTest k = true from test]
    exact (exec_unmoved (c := .operateSwitch p k.val (.named .toClose)) rfl hs (fun _ => rfl) rfl rfl answer :)
  case known =>
    intro sent target u met cancelled opened allowed
    have target_eq : targetOf a = target := by cases a <;> rfl
    have met_iff : (((s.operateTaken p).runtime k).inFlight = none ∧ ((s.operateTaken p).runtime k).position = targetOf a) ↔ met := by
      rw [target_eq]
      exact Iff.rfl
    have taken : u = { s.operateTaken p with rqi := s.rqi } := (State.operateTaken_rqi s p).symm
    clear_value target
    refine ⟨fun h unmet empty => ?fills, fun cs open_ merged idle => ?merges, fun cs open_ merged owes => ?mergesCancels,
      fun cs open_ hm closing => ?preEmptsMet, fun cs open_ unmet closing => ?preEmpts, fun h hm empty => ?metAlready,
      fun close => ⟨fun failed => ?failed, fun fit held => ?held, fun h full => ?busy⟩⟩
    case fills =>
      obtain ⟨w, hw⟩ : ∃ w : State, w = (s.operateTaken p).setRuntime k { s.runtime k with slot := some ⟨a, .ofPort p⟩ } := ⟨_, rfl⟩
      have accepted := State.rcsAccepted_spec w k a
      have rqi : w.rqi = (s.operateTaken p).rqi := by rw [hw]; rfl
      have checked : (s.operateTaken p).operateChecked p k a = (w.rcsAccepted k a, .accepted (.operation k a)) := by
        rw [hw]
        exact State.operateChecked_fills h (mt met_iff.mp unmet) empty
      have carried := exec_operate_ports hs configured free checked (accepted.rqi.trans rqi)
      have wseq : w.seq = s.seq := by rw [hw]; rfl
      have wehu : w.ehu = u.ehu := by rw [hw]; rfl
      have here : w.runtime k = { s.runtime k with slot := some ⟨a, .ofPort p⟩ } := by
        rw [hw, State.runtime_setRuntime_same]
      have there : ∀ j, j ≠ k → w.runtime j = s.runtime j := fun j hj => by
        rw [hw, State.runtime_setRuntime_other _ _ hj]
        rfl
      obtain ⟨fmu, htu, fsu, svu, lines⟩ := State.others_fields (accepted.others.trans (by rw [hw]; rfl : w.others = s.others))
      have record := accepted.runtime
      have seq : ∀ j, j ≠ k → (w.rcsAccepted k a).seq j = s.seq j := fun j hj => (accepted.seq j hj).trans (by rw [wseq])
      have still : ∀ j, ((w.rcsAccepted k a).runtime j).position = (s.runtime j).position
          ∧ ((w.rcsAccepted k a).runtime j).inFlight = (s.runtime j).inFlight
          ∧ ((w.rcsAccepted k a).runtime j).condition = (s.runtime j).condition
          ∧ ((w.rcsAccepted k a).runtime j).lastResult = (s.runtime j).lastResult := by
        intro j
        rw [record j]
        by_cases e : j = k
        · rw [e, here]
          exact ⟨rfl, rfl, rfl, rfl⟩
        · rw [there j e]
          exact ⟨rfl, rfl, rfl, rfl⟩
      refine ⟨{ w.rcsAccepted k a with rqi := s.rqi }, carried, ?_, fun j hj => ?_, still,
        ⟨fun open_ owes => ?_, fun n close due => ?_, fun idle => ?_, seq⟩, ?_, fun idle => ?_, fmu, htu, fsu, svu, rfl, lines⟩
      · show ((w.rcsAccepted k a).runtime k).slot = _
        rw [record k, here]
      · show ((w.rcsAccepted k a).runtime j).slot = _
        rw [record j, there j hj]
      · show (w.rcsAccepted k a).seq k = cancelled
        rw [accepted.cancels open_ (by rw [wseq]; exact owes), State.putSeq_seq, if_pos rfl, wseq]
      · have settled : (w.rcsAccepted k a).seq k = (s.seq k).settled .opened := by
          rw [accepted.takesOver n close (by rw [wseq]; exact due), wseq]
        exact ⟨(congrArg Sequence.state settled :), (congrArg Sequence.shotsUsed settled :),
          (congrArg Sequence.deadTimer settled :), (congrArg Sequence.marker settled :)⟩
      · show (w.rcsAccepted k a).seq k = s.seq k
        rw [accepted.idle (by rw [wseq]; exact idle), wseq]
      · show (w.rcsAccepted k a).ehu.disturbed = _
        rw [accepted.disturbed, wehu]
      · show (w.rcsAccepted k a).ehu = _
        rw [accepted.idle (by rw [wseq]; exact idle), wehu]
    case merges =>
      subst open_
      have accepted := State.rcsAccepted_spec ((s.operateTaken p).setRuntime k
        { s.runtime k with slot := some ⟨.toOpen, cs.union (.ofPort p)⟩ }) k .toOpen
      have carried := exec_operate_ports hs configured free (State.operateChecked_merge (s := s.operateTaken p) merged) accepted.rqi
      refine carried.trans ?_
      rw [show (s.operateTaken p).runtime k = s.runtime k from rfl, accepted.idle idle, taken]
      rfl
    case mergesCancels =>
      subst open_
      have accepted := State.rcsAccepted_spec ((s.operateTaken p).setRuntime k
        { s.runtime k with slot := some ⟨.toOpen, cs.union (.ofPort p)⟩ }) k .toOpen
      have carried := exec_operate_ports hs configured free (State.operateChecked_merge (s := s.operateTaken p) merged) accepted.rqi
      refine ⟨_, carried, ?_⟩
      rw [show (s.operateTaken p).runtime k = s.runtime k from rfl, accepted.cancels rfl owes]
      refine ⟨rfl, ?_, fun j hj => ?_, rfl, rfl, rfl, rfl, rfl, rfl, rfl⟩
      · exact (State.putSeq_seq _ _ _ _).trans (if_pos rfl)
      · exact (State.putSeq_seq _ _ _ _).trans (if_neg hj)
    case preEmptsMet =>
      subst open_
      obtain ⟨others, notice, disturbed, seq, elsewhere, here⟩ := (s.operateTaken p).preEmptSlot_spec k cs
      have met' := met_iff.mpr hm
      have carried := exec_operate hs configured free (State.operateChecked_preEmptsMet (s := s.operateTaken p) (p := p) closing met')
      have ended := ((s.operateTaken p).preEmptSlot k cs).endInSlot_spec k ⟨.toOpen, .ofPort p⟩ .already
      have settles := State.endInSlot_open_already (s := (s.operateTaken p).preEmptSlot k cs) (k := k)
        (by rw [here]; exact met'.2) (.ofPort p)
      have record := ended.record
      generalize ((s.operateTaken p).preEmptSlot k cs).endInSlot k ⟨.toOpen, .ofPort p⟩ .already = t at carried ended settles record
      rw [here] at record
      obtain ⟨fmu, htu, fsu, svu, lines⟩ := State.others_fields (ended.others.trans others)
      refine ⟨t, carried, by rw [record], by rw [record], ended.noticed, ended.disturbed.trans disturbed, ?_, fun j hj => ?_,
        fun j => ?_, fmu, htu, fsu, svu, lines⟩
      · rw [settles, if_pos rfl, seq k, if_pos rfl, Sequence.openMet_preEmpted]
        rfl
      · rw [settles, if_neg hj, seq j, if_neg hj]
        rfl
      · by_cases e : j = k
        · rw [e, record]
          exact ⟨rfl, rfl, fun other => absurd rfl other⟩
        · rw [ended.runtime j e, elsewhere j e]
          exact ⟨rfl, rfl, fun _ => rfl⟩
    case preEmpts =>
      subst open_
      obtain ⟨others, notice, disturbed, seq, elsewhere, here⟩ := (s.operateTaken p).preEmptSlot_spec k cs
      have carried := exec_operate hs configured free (State.operateChecked_preEmpts (s := s.operateTaken p) (p := p) closing
        (mt met_iff.mp unmet))
      obtain ⟨w, hw⟩ : ∃ w : State, w = ((s.operateTaken p).preEmptSlot k cs).setRuntime k
        { ((s.operateTaken p).preEmptSlot k cs).runtime k with slot := some ⟨.toOpen, .ofPort p⟩ } := ⟨_, rfl⟩
      rw [← hw] at carried
      have accepted := State.rcsAccepted_spec w k .toOpen
      have wseq : w.seq k = (s.seq k).preEmpted cs := by
        rw [hw]
        exact (seq k).trans (if_pos rfl)
      have owes : (w.seq k).state = (s.seq k).state := by rw [wseq, Sequence.preEmpted_state]
      have record : w.runtime k = { s.runtime k with
          slot := some ⟨.toOpen, .ofPort p⟩, lastResult := some ⟨.toClose, cs, .preEmpted⟩
          pollWanted := (((s.operateTaken p).preEmptSlot k cs).runtime k).pollWanted } := by
        rw [hw, State.runtime_setRuntime_same, here]
        rfl
      have noticed : (w.rcsAccepted k .toOpen).noticed .operation :=
        State.noticed_of_rqi (accepted.rqi.trans (by rw [hw]; rfl)) notice
      obtain ⟨fmu, htu, fsu, svu, -⟩ := State.others_fields (accepted.others.trans ((by rw [hw]; rfl : w.others = _).trans others))
      refine ⟨_, carried, ?_, ?_, ?_, fun due => ?_, fun idle => ?_, fun j hj => ?_, noticed, fmu, htu, fsu, svu⟩
      · rw [accepted.runtime k, record]
      · rw [accepted.runtime k, record]
      · exact accepted.disturbed.trans ((by rw [hw]; rfl : w.ehu.disturbed = _).trans disturbed)
      · rw [accepted.cancels rfl (by rw [owes]; exact due), State.putSeq_seq, if_pos rfl, wseq]
        exact Sequence.preEmpted_cancelled _ cs
      · rw [accepted.idle (by rw [owes]; exact idle), wseq]
        exact Sequence.preEmpted_idle idle cs
      · rw [accepted.seq j hj, hw]
        exact (seq j).trans (if_neg hj)
    case metAlready =>
      have met' := met_iff.mpr hm
      have carried := exec_operate hs configured free (State.operateChecked_met (s := s.operateTaken p) (p := p) h met' empty)
      have ended := (s.operateTaken p).endInSlot_spec k ⟨a, .ofPort p⟩ .already
      have record := ended.record
      obtain ⟨fmu, htu, fsu, svu, -⟩ := State.others_fields ended.others
      refine ⟨_, carried, by rw [record], ?_, ended.noticed, ended.disturbed, ?_, ended.seq, fmu, htu, fsu, svu⟩
      · rw [record]
        exact empty
      · cases a
        · exact (State.endInSlot_open_already (s := s.operateTaken p) met'.2 (.ofPort p) k).trans (if_pos rfl)
        · rw [State.endInSlot_close_already _ _ (Classes.ofPort_reclose p)]
          rfl
    case failed =>
      subst close
      have refused : (s.operateTaken p).operateChecked p k .toClose = (s.operateTaken p, .refuse .refusedFailed) := by
        simp [State.operateChecked, show ((s.operateTaken p).runtime k).condition = .failed from failed]
      refine (exec_operate_ports hs configured free refused rfl).trans ?_
      rw [taken]
      rfl
    case held =>
      subst close
      have refused : (s.operateTaken p).operateChecked p k .toClose = (s.operateTaken p, .refuse .refusedHeld) := by
        simp [State.operateChecked, show ((s.operateTaken p).runtime k).condition ≠ .failed from fit,
          show (s.operateTaken p).closePermitted k .deliberate = false from held]
      refine (exec_operate_ports hs configured free refused rfl).trans ?_
      rw [taken]
      rfl
    case busy =>
      subst close
      have refused : (s.operateTaken p).operateChecked p k .toClose = (s.operateTaken p, .refuse .refusedBusy) := by
        rw [State.operateChecked_allowed (s := s.operateTaken p) h, State.requestSlot_busy (s := s.operateTaken p) full]
        rfl
      refine (exec_operate_ports hs configured free refused rfl).trans ?_
      rw [taken]
      rfl

end Sys2Proof.Machine
end

section
/-! The expiry of the dead time and of the reclaim time (R108, R110, R111, R113). -/

namespace Sys2Proof.Machine

/-! ### R108's checks -/

theorem State.closePermitted_automatic (s : State) (k : SwitchNo) :
    s.closePermitted k .automatic = false ↔ ∃ i, (s.holdAt i).any (fun h => h.scope.meets (s.reach k)) = true := by
  rw [← Bool.not_eq_true, s.closePermitted_iff k .automatic]
  simp only [Option.any_eq_true, reduceCtorEq, and_false, imp_false, not_forall, not_not, exists_prop]

theorem State.profileConfirmed_iff {s : State} {k : SwitchNo} {g : Group} (h : s.effectiveGroup k = some g) :
    s.profileConfirmed k = true ↔ (s.runtime k).profileState = .confirmed ∧ (s.runtime k).confirmed = some g.profile := by
  simp only [State.profileConfirmed, State.requiredProfile, h, Option.map_some, Bool.and_eq_true, beq_iff_eq, and_assoc]
  constructor
  · exact fun ⟨state, _, code⟩ => ⟨state, code⟩
  · exact fun ⟨state, code⟩ => ⟨state, by rw [code]; rfl, code⟩

/-- The checks in their order (R108). -/
theorem State.recloseCheck_eq {s : State} {k : SwitchNo} {c : SwitchConfig} {g : Group} (config : s.config k = some c)
    (group : s.effectiveGroup k = some g) (used : Nat) (fault : FaultClass) : s.recloseCheck k used fault =
      if c.cls ≠ .headBreaker ∧ c.cls ≠ .recloser then some .cls
      else if g.shots < used + 1 then some .shots
      else if fault ≠ .phase ∧ g.recloseEarth = false then some .earth
      else if ∃ i, (s.holdAt i).any (fun h => h.scope.meets (s.reach k)) = true then some .held
      else if ¬ ((s.runtime k).profileState = .confirmed ∧ (s.runtime k).confirmed = some g.profile) then some .profile
      else if (s.runtime k).condition ≠ .sound then some .condition
      else none := by
  have cls : (!(c.cls == .headBreaker || c.cls == .recloser)) = true ↔ c.cls ≠ .headBreaker ∧ c.cls ≠ .recloser := by
    cases c.cls <;> decide
  have earth : (!(fault == .phase || g.recloseEarth)) = true ↔ fault ≠ .phase ∧ g.recloseEarth = false := by
    cases fault <;> cases g.recloseEarth <;> decide
  simp only [State.recloseCheck, config, group, cls, earth, Nat.lt_succ_iff, Bool.not_eq_true', State.closePermitted_automatic,
    ← State.profileConfirmed_iff group, Bool.not_eq_true, bne_iff_ne]

/-- A reclose that passes the checks is of a configured switch in condition SOUND. -/
theorem State.recloseCheck_passed {s : State} {k : SwitchNo} {used : Nat} {fault : FaultClass}
    (h : s.recloseCheck k used fault = none) : s.configured k = true ∧ (s.runtime k).condition = .sound := by
  cases config : s.config k with
  | none => simp [State.recloseCheck, config] at h
  | some c =>
    cases group : s.effectiveGroup k with
    | none => simp [State.recloseCheck, config, group] at h
    | some g =>
      refine ⟨by simp [State.configured, config], ?_⟩
      rw [State.recloseCheck_eq config group] at h
      by_contra unsound
      simp only [unsound, ne_eq, not_false_eq_true, if_true] at h
      (repeat' split at h) <;> cases h

/-! ### The expiries -/

/-- The request of reclose n, the checks passed. -/
theorem State.requestByBlock_checked {s : State} {k : SwitchNo} {q : OpRequest} (configured : s.configured k = true)
    (fit : (s.runtime k).condition ≠ .failed) : s.requestByBlock k q = s.requestSlot k q := by
  simp [State.requestByBlock, configured, fit]

/-- A reclose met already moves no sequence, the dead time standing. -/
theorem State.endInSlot_reclose_already {s : State} {k : SwitchNo} {n : Nat} (state : (s.seq k).state = .deadTime n) :
    s.endInSlot k ⟨.toClose, { reclose := true }⟩ .already = s.recordResult k ⟨.toClose, { reclose := true }⟩ .already := by
  have recorded : (s.recordResult k ⟨.toClose, { reclose := true }⟩ .already).seq = s.seq := rfl
  simp only [State.endInSlot, State.rcsResult, State.rcsCloseResult, recorded, state, if_true]

/-- What holds after the dead time of a switch, however it ends: the records of the other blocks and switches stand. -/
structure State.DeadTimeOver (s : State) (k : SwitchNo) (t : State) : Prop where
  seq : ∀ j, j ≠ k → t.seq j = s.seq j
  runtime : ∀ j, (t.runtime j).position = (s.runtime j).position ∧ (t.runtime j).inFlight = (s.runtime j).inFlight
    ∧ (j ≠ k → (t.runtime j).slot = (s.runtime j).slot)
  others : t.others = s.others

/-- A course of the RCS after a change of the switch's slot and last result. -/
theorem State.Told.deadTimeOver {s t u : State} {k : SwitchNo} (told : t.Told k u) (rcs : t.rcs = s.rcs)
    (others : t.others = s.others) (elsewhere : ∀ j, j ≠ k → t.runtime j = s.runtime j)
    (here : (t.runtime k).position = (s.runtime k).position ∧ (t.runtime k).inFlight = (s.runtime k).inFlight) :
    s.DeadTimeOver k u := by
  refine ⟨fun j hj => (told.seq_other hj).trans (State.seq_of_rcs rcs j), fun j => ?_, told.others.trans others⟩
  rw [told.runtime j]
  by_cases e : j = k
  · subst e
    exact ⟨here.1, here.2, fun other => absurd rfl other⟩
  · rw [elsewhere j e]
    exact ⟨rfl, rfl, fun _ => rfl⟩

theorem State.Told.deadTimeOver_refl {s t : State} {k : SwitchNo} (told : s.Told k t) : s.DeadTimeOver k t :=
  told.deadTimeOver rfl rfl (fun _ _ => rfl) ⟨rfl, rfl⟩

section
variable {s : State} {k : SwitchNo} {n : Nat} {fault : FaultClass}

theorem State.deadTimeExpired_fails {r : LockoutReason} (state : (s.seq k).state = .deadTime n)
    (trip : (s.seq k).tripClass = some fault) (fails : s.recloseCheck k (n - 1) fault = some r) :
    s.deadTimeExpired k = s.lockOut k r := by
  simp only [State.deadTimeExpired, state, trip, Option.getD_some, fails]

theorem State.deadTimeExpired_passes (state : (s.seq k).state = .deadTime n)
    (trip : (s.seq k).tripClass = some fault) (passes : s.recloseCheck k (n - 1) fault = none) :
    s.deadTimeExpired k = (s.requestSlot k ⟨.toClose, { reclose := true }⟩).1.recloseAnswered k n
      (s.requestSlot k ⟨.toClose, { reclose := true }⟩).2 := by
  obtain ⟨configured, sound⟩ := State.recloseCheck_passed passes
  have asked := State.requestByBlock_checked (q := ⟨.toClose, { reclose := true }⟩) configured (by rw [sound]; nofun)
  simp only [State.deadTimeExpired, state, trip, Option.getD_some, passes, asked]

end

/-- A lockout as the statement of the dead time describes it. -/
theorem State.lockOut_spec (s : State) (k : SwitchNo) (r : LockoutReason) :
    ((s.lockOut k r).seq k).state = .lockout ∧ ((s.lockOut k r).seq k).lastLockout = some ⟨r, s.svu.minute⟩
      ∧ ((s.lockOut k r).seq k).marker = none ∧ ((s.lockOut k r).seq k).deadTimer = .stopped
      ∧ (s.lockOut k r).noticed .lockout ∧ ((s.lockOut k r).runtime k).slot = (s.runtime k).slot := by
  have seq : (s.lockOut k r).seq k = (s.seq k).lockedOut r s.svu.minute := (s.lockOut_seq k k r).trans (if_pos rfl)
  rw [seq, (s.lockOut_told k r).runtime k]
  exact ⟨rfl, rfl, rfl, rfl, State.lockOut_noticed _ _ _, rfl⟩

/-- A reclose met already, as the statement of the dead time describes it. -/
theorem State.enterReclaim_spec {s : State} {k : SwitchNo} (empty : (s.runtime k).slot = none) (n : Nat) (res : OpResult) :
    let t := (s.recordResult k ⟨.toClose, { reclose := true }⟩ res).enterReclaim k n
    s.DeadTimeOver k t ∧ (t.seq k).deadTimer = .stopped ∧ (t.seq k).state = .reclaim n ∧ (t.seq k).shotsUsed = n
      ∧ (t.runtime k).slot = none
      ∧ ∀ g, s.effectiveGroup k = some g → (t.seq k).reclaimTimer = .running (10 * g.reclaim) (10 * g.reclaim) := by
  intro t
  have told : (s.recordResult k ⟨.toClose, { reclose := true }⟩ res).Told k t := State.enterReclaim_told _ k n
  have here : (s.recordResult k ⟨.toClose, { reclose := true }⟩ res).runtime k =
      { s.runtime k with lastResult := some ⟨.toClose, { reclose := true }, res⟩ } := State.runtime_setRuntime_same _ _ _
  have seq : t.seq k = { ((s.recordResult k ⟨.toClose, { reclose := true }⟩ res).seq k).moveTo (.reclaim n) with
      shotsUsed := n
      reclaimTimer := .start (10 * (((s.recordResult k ⟨.toClose, { reclose := true }⟩ res).effectiveGroup k).map (·.reclaim)).getD 0) } :=
    (State.setSeq_seq _ _ _ _).trans (if_pos rfl)
  refine ⟨told.deadTimeOver rfl rfl (fun j hj => State.runtime_setRuntime_other _ _ hj) (by rw [here]; exact ⟨rfl, rfl⟩), ?_, ?_, ?_, ?_,
    fun g group => ?_⟩
  · rw [seq]
    rfl
  · rw [seq]
    rfl
  · rw [seq]
  · rw [told.runtime k, here]
    exact empty
  · rw [seq, show (s.recordResult k ⟨.toClose, { reclose := true }⟩ res).effectiveGroup k = some g from group]
    rfl

/-- A reclose taken into the slot, as the statement of the dead time describes it. -/
theorem State.enterReclosing_spec (s : State) (k : SwitchNo) (n : Nat) (q : OpRequest) :
    let t := (s.setRuntime k { s.runtime k with slot := some q }).recloseAnswered k n .taken
    s.DeadTimeOver k t ∧ (t.seq k).deadTimer = .stopped ∧ (t.seq k).state = .reclosing n ∧ (t.seq k).shotsUsed = n
      ∧ (t.seq k).marker = (s.seq k).marker ∧ (t.runtime k).slot = some q := by
  intro t
  have told : (s.setRuntime k { s.runtime k with slot := some q }).Told k t := State.recloseAnswered_told _ k n .taken
  have here : (s.setRuntime k { s.runtime k with slot := some q }).runtime k = { s.runtime k with slot := some q } :=
    State.runtime_setRuntime_same _ _ _
  have seq : t.seq k = { (s.seq k).moveTo (.reclosing n) with shotsUsed := n } := (State.setSeq_seq _ _ _ _).trans (if_pos rfl)
  refine ⟨told.deadTimeOver rfl rfl (fun j hj => State.runtime_setRuntime_other _ _ hj) (by rw [here]; exact ⟨rfl, rfl⟩), ?_, ?_, ?_, ?_, ?_⟩
  · rw [seq]
    rfl
  · rw [seq]
    rfl
  · rw [seq]
  · rw [seq]
    rfl
  · rw [told.runtime k, here]

/-- Settles O47. -/
theorem deadTimeAndReclaimExpire : Obligations.DeadTimeAndReclaimExpire := by
  unfold Obligations.DeadTimeAndReclaimExpire
  refine ⟨fun s k used fault c g config group => State.recloseCheck_eq config group used fault,
    fun s k n hs => ⟨fun fault running state trip => ?dead, fun running state => ?reclaim⟩⟩
  case dead =>
    have expires : exec (.deadTimeExpiry k) s = .next (s.deadTimeExpired k).arbitrate :=
      congrArg Host.Outcome.next (State.expiry_working hs (fun t => (t.seq k).deadTimer) linkReads (·.deadTimeExpired k) running)
    have finish : s.DeadTimeOver k (s.deadTimeExpired k) → ((s.deadTimeExpired k).seq k).deadTimer = .stopped →
        ∀ P : State → Prop, P (s.deadTimeExpired k) → ∃ t : State, exec (.deadTimeExpiry k) s = .next t.arbitrate
        ∧ (t.seq k).deadTimer = .stopped ∧ (∀ j, j ≠ k → t.seq j = s.seq j)
        ∧ (∀ j, (t.runtime j).position = (s.runtime j).position ∧ (t.runtime j).inFlight = (s.runtime j).inFlight
            ∧ (j ≠ k → (t.runtime j).slot = (s.runtime j).slot))
        ∧ t.fmu = s.fmu ∧ t.htu = s.htu ∧ t.fsu = s.fsu ∧ t.svu = s.svu ∧ t.lines = s.lines ∧ P t := by
      intro ended timer P holds
      obtain ⟨fmu, htu, fsu, svu, lines⟩ := State.others_fields ended.others
      exact ⟨_, expires, timer, ended.seq, ended.runtime, fmu, htu, fsu, svu, lines, holds⟩
    cases check : s.recloseCheck k (n - 1) fault with
    | some r =>
      have ends := State.deadTimeExpired_fails state trip check
      obtain ⟨locked, reason, marker, timer, notice, slot⟩ := s.lockOut_spec k r
      rw [ends] at finish
      exact finish (s.lockOut_told k r).deadTimeOver_refl timer _ ⟨locked, reason, marker, notice, slot⟩
    | none =>
      have asks := State.deadTimeExpired_passes state trip check
      by_cases full : (s.runtime k).slot.isSome = true
      · obtain ⟨locked, reason, marker, timer, notice, slot⟩ := s.lockOut_spec k .closeFailed
        rw [asks, State.requestSlot_busy full] at finish
        simp only [full, if_true]
        exact finish (s.lockOut_told k .closeFailed).deadTimeOver_refl timer _ ⟨locked, reason, notice⟩
      · have empty : (s.runtime k).slot = none := by simpa using full
        rw [State.requestSlot_empty empty] at asks
        simp only [full, Bool.false_eq_true, if_false]
        by_cases met : (s.runtime k).inFlight = none ∧ (s.runtime k).position = .closed
        · rw [State.enterSlot_met (q := ⟨.toClose, { reclose := true }⟩) ((Runtime.met_iff _ _).mpr met),
            State.endInSlot_reclose_already state] at asks
          obtain ⟨ended, timer, outcome⟩ := State.enterReclaim_spec empty n .already
          rw [asks] at finish
          simp only [if_pos met]
          exact finish ended timer _ outcome
        · rw [State.enterSlot_unmet (q := ⟨.toClose, { reclose := true }⟩)
            (Bool.eq_false_iff.mpr (mt (Runtime.met_iff _ _).mp met))] at asks
          rw [asks] at finish
          obtain ⟨ended, timer, outcome⟩ := s.enterReclosing_spec k n ⟨.toClose, { reclose := true }⟩
          simp only [if_neg met]
          exact finish ended timer _ outcome
  case reclaim =>
    have expires : exec (.reclaimExpiry k) s = .next (s.settleSeq k .closed).arbitrate := by
      have settles : s.reclaimExpired k = s.settleSeq k .closed := by simp only [State.reclaimExpired, state]
      rw [← settles]
      exact congrArg Host.Outcome.next
        (State.expiry_working hs (fun t => (t.seq k).reclaimTimer) linkReads (·.reclaimExpired k) running)
    have told := s.settleSeq_told k .closed
    have seq := s.settleSeq_seq k k (.inr (.inl rfl))
    rw [if_pos rfl] at seq
    obtain ⟨fmu, htu, fsu, svu, lines⟩ := State.others_fields told.others
    refine ⟨_, expires, ?_, ?_, ?_, ?_, fun j hj => told.seq_other hj, fun j => ?_, fmu, htu, fsu, svu, State.setSeq_rqi _ _ _, lines⟩
    all_goals first | (rw [seq]; rfl) | skip
    rw [told.runtime j]

end Sys2Proof.Machine
end

section
/-! The conclusions of a case, its choosing, and the windows and timers of a step (8.1 to 8.5). -/

namespace Sys2Proof.Machine

/-! ### Conclusions that place a hold (R152) -/

/-- What a conclusion with a hold makes of the EHU's records. -/
theorem State.concludeWithHold_ehu (s : State) (r : ResultKind) (kind : HoldKind) (z : ZoneSet) :
    (s.concludeWithHold r kind z).ehu = { s.ehu with
      huntCase := { s.ehu.huntCase.conclude r with holdHandle := (s.concludeWithHold r kind z).ehu.huntCase.holdHandle }
      settleTimer := .stopped, observeTimer := .stopped } := by
  obtain ⟨-, -, -, -, -, -, -, ehu, -⟩ := (s.concludeCase r).placeHold_frame
    ((s.concludeCase r).deviceHold kind .plain .hunt z (.huntCase (s.concludeCase r).ehu.huntCase.number))
  rw [State.concludeWithHold_eq]
  dsimp only
  simp only [State.notify_ehu, ehu]
  rfl

theorem State.concludeWithHold_frame (s : State) (r : ResultKind) (kind : HoldKind) (z : ZoneSet) :
    (s.concludeWithHold r kind z).fmu = s.fmu ∧ (s.concludeWithHold r kind z).fsu = s.fsu
      ∧ (s.concludeWithHold r kind z).sou = s.sou ∧ (s.concludeWithHold r kind z).rcs = s.rcs
      ∧ (s.concludeWithHold r kind z).svu = s.svu := by
  obtain ⟨-, -, -, fmu, fsu, sou, rcs, -, svu⟩ := (s.concludeCase r).placeHold_frame
    ((s.concludeCase r).deviceHold kind .plain .hunt z (.huntCase (s.concludeCase r).ehu.huntCase.number))
  exact ⟨fmu, fsu, sou, rcs, svu⟩

/-- The HUNT hold of a conclusion, as the statements write it (R27). -/
def State.huntHold (s : State) (kind : HoldKind) (z : ZoneSet) : Hold :=
  { kind := kind, strength := .plain, origin := .hunt, scope := z, tag := none, expiry := none, reason := 0
    cause := some (.huntCase s.ehu.huntCase.number), placed := s.svu.minute, version := 0 }

/-- The hold stands in the lowest-numbered empty slot. -/
theorem State.concludeWithHold_at {s : State} {i : SlotNo} (empty : s.holdAt i = none)
    (lower : ∀ j, j < i → (s.holdAt j).isSome = true) (r : ResultKind) (kind : HoldKind) (z : ZoneSet) :
    (s.concludeWithHold r kind z).ehu.huntCase.holdHandle = some ⟨i, (s.slot i).useCount⟩
      ∧ (s.concludeWithHold r kind z).slot i = { s.slot i with hold := some (s.huntHold kind z) }
      ∧ (∀ j, j ≠ i → (s.concludeWithHold r kind z).slot j = s.slot j)
      ∧ (s.concludeWithHold r kind z).noticed .hunt ∧ (s.concludeWithHold r kind z).noticed .hold := by
  have placed := State.placeHold_of (s := s.concludeCase r) empty lower (s.huntHold kind z)
  have slot := State.placeHold_slot (s := s.concludeCase r) empty lower (s.huntHold kind z)
  have held : ((s.concludeCase r).placeHold (s.huntHold kind z)).1.noticed .hold := by
    rw [placed]
    exact State.noticed_notify _ _
  refine ⟨congrArg Prod.snd placed, ?_, fun j hj => ?_, State.noticed_notify _ _, State.noticed_kept _ _ _ held⟩
  · exact (slot i).trans (if_pos rfl)
  · exact (slot j).trans (if_neg (Ne.symm hj))

/-! ### Isolation (R153) -/

/-- With no case suspended the end of a request in a slot writes the SOU's records for that request alone. -/
theorem State.endInSlot_quiet {s : State} (quiet : s.ehu.huntCase.state ≠ .suspended) (k : SwitchNo) (q : OpRequest) (res : OpResult) :
    (s.endInSlot k q res).ehu = { s.ehu with runningCount := (s.endInSlot k q res).ehu.runningCount }
      ∧ (s.endInSlot k q res).sou = (s.recordResult k q res).sou
      ∧ ∀ n, s.noticed n → (s.endInSlot k q res).noticed n := by
  have told : (s.recordResult k q res).Told k (s.endInSlot k q res) := State.rcsResult_told _ k _ _ _
  exact ⟨told.quiet_ehu quiet, (told.quiet quiet).2, fun n hn => told.noticed (State.noticed_kept _ _ _ hn)⟩

/-- An OPEN asked of a switch's slot, by the table of R90. -/
structure State.OpenAsked (s : State) (k : SwitchNo) (c : Classes) (x : State × SlotAnswer) : Prop where
  others : x.1.others = s.others
  ehu : x.1.ehu = { s.ehu with runningCount := x.1.ehu.runningCount }
  elsewhere : ∀ j, j ≠ k → x.1.runtime j = s.runtime j
  kept : ∀ n, s.noticed n → x.1.noticed n
  merged : ∀ cs, (s.runtime k).slot = some ⟨.toOpen, cs⟩ →
    x.1.runtime k = { s.runtime k with slot := some ⟨.toOpen, cs.union c⟩ } ∧ x.2 = .taken
  taken : (s.runtime k).slot = none → ¬ ((s.runtime k).inFlight = none ∧ (s.runtime k).position = .opened) →
    x.1 = s.setRuntime k { s.runtime k with slot := some ⟨.toOpen, c⟩ } ∧ x.2 = .taken
  preEmpts : ∀ cs, (s.runtime k).slot = some ⟨.toClose, cs⟩ →
    ¬ ((s.runtime k).inFlight = none ∧ (s.runtime k).position = .opened) →
    x.1.runtime k = { s.runtime k with slot := some ⟨.toOpen, c⟩, lastResult := some ⟨.toClose, cs, .preEmpted⟩ }
      ∧ x.1.noticed .operation ∧ x.2 = .taken
  met : ((s.runtime k).inFlight = none ∧ (s.runtime k).position = .opened) → (∀ cs, (s.runtime k).slot ≠ some ⟨.toOpen, cs⟩) →
    x.1.runtime k = { s.runtime k with slot := none, lastResult := some ⟨.toOpen, c, .already⟩ }
      ∧ x.1.noticed .operation ∧ x.2 = .already

theorem State.recordResult_runtime (s : State) (k : SwitchNo) (q : OpRequest) (res : OpResult) (j : SwitchNo) :
    (s.recordResult k q res).runtime j =
      if j = k then { s.runtime k with lastResult := some ⟨q.action, q.classes, res⟩ } else s.runtime j := by
  by_cases e : j = k
  · subst e
    rw [if_pos rfl]
    exact State.runtime_setRuntime_same _ _ _
  · rw [if_neg e]
    exact State.runtime_setRuntime_other _ _ e

theorem State.endInSlot_runtime {s : State} (quiet : s.ehu.huntCase.state ≠ .suspended) (k : SwitchNo) (q : OpRequest)
    (res : OpResult) (j : SwitchNo) : (s.endInSlot k q res).runtime j =
      if j = k then { s.runtime k with lastResult := some ⟨q.action, q.classes, res⟩ } else s.runtime j := by
  rw [← State.recordResult_runtime]
  exact State.runtime_congr (State.endInSlot_quiet quiet k q res).2.1 j

/-- A slot filled with an OPEN. -/
theorem State.OpenAsked.fill {s : State} {k : SwitchNo} {c cs : Classes}
    (merged : ∀ ds, (s.runtime k).slot = some ⟨.toOpen, ds⟩ → cs = ds.union c)
    (taken : (s.runtime k).slot = none → cs = c) (open_ : ∀ ds, (s.runtime k).slot ≠ some ⟨.toClose, ds⟩)
    (unmet : ((s.runtime k).inFlight = none ∧ (s.runtime k).position = .opened) →
      ∃ ds, (s.runtime k).slot = some ⟨.toOpen, ds⟩) :
    s.OpenAsked k c (s.setRuntime k { s.runtime k with slot := some ⟨.toOpen, cs⟩ }, .taken) where
  others := rfl
  ehu := rfl
  elsewhere _ hj := State.runtime_setRuntime_other _ _ hj
  kept _ hn := hn
  merged ds slot := ⟨by rw [State.runtime_setRuntime_same, merged ds slot], rfl⟩
  taken slot _ := ⟨by rw [taken slot], rfl⟩
  preEmpts ds slot := absurd slot (open_ ds)
  met isMet other := by
    obtain ⟨ds, slot⟩ := unmet isMet
    exact absurd slot (other ds)

/-- A pre-emption with no case suspended. -/
theorem State.preEmptSlot_quiet {s : State} (quiet : s.ehu.huntCase.state ≠ .suspended) (k : SwitchNo) (cs : Classes) :
    (s.preEmptSlot k cs).ehu = { s.ehu with runningCount := (s.preEmptSlot k cs).ehu.runningCount }
      ∧ (∀ n, s.noticed n → (s.preEmptSlot k cs).noticed n)
      ∧ ∀ j, (s.preEmptSlot k cs).runtime j =
        if j = k then { s.runtime k with slot := none, lastResult := some ⟨.toClose, cs, .preEmpted⟩ } else s.runtime j := by
  have quiet' : (s.setRuntime k { s.runtime k with slot := none }).ehu.huntCase.state ≠ .suspended := quiet
  obtain ⟨ehu, -, kept⟩ := State.endInSlot_quiet quiet' k ⟨.toClose, cs⟩ .preEmpted
  refine ⟨ehu, kept, fun j => (State.endInSlot_runtime quiet' k ⟨.toClose, cs⟩ .preEmpted j).trans ?_⟩
  by_cases e : j = k
  · rw [if_pos e, if_pos e, State.runtime_setRuntime_same]
  · rw [if_neg e, if_neg e, State.runtime_setRuntime_other _ _ e]

/-- What R90's table makes of an OPEN, with no case suspended. -/
theorem State.requestSlot_open {s : State} (quiet : s.ehu.huntCase.state ≠ .suspended) (k : SwitchNo) (c : Classes) :
    s.OpenAsked k c (s.requestSlot k ⟨.toOpen, c⟩) := by
  cases slot : (s.runtime k).slot with
  | none =>
    rw [State.requestSlot_empty slot]
    by_cases met : (s.runtime k).inFlight = none ∧ (s.runtime k).position = .opened
    · rw [State.enterSlot_met (q := ⟨.toOpen, c⟩) ((Runtime.met_iff _ _).mpr met)]
      obtain ⟨ehu, sou, kept⟩ := State.endInSlot_quiet quiet k ⟨.toOpen, c⟩ .already
      have runtime := State.endInSlot_runtime quiet k ⟨.toOpen, c⟩ .already
      have ended := s.endInSlot_spec k ⟨.toOpen, c⟩ .already
      refine ⟨ended.others, ehu, fun j hj => (runtime j).trans (if_neg hj), kept, fun cs h => ?_, fun _ unmet => absurd met unmet,
        fun cs h => ?_, fun _ _ => ⟨?_, ended.noticed, rfl⟩⟩
      · rw [slot] at h
        cases h
      · rw [slot] at h
        cases h
      · refine (runtime k).trans ((if_pos rfl).trans ?_)
        rw [← slot]
    · rw [State.enterSlot_unmet (q := ⟨.toOpen, c⟩) (Bool.eq_false_iff.mpr (mt (Runtime.met_iff _ _).mp met))]
      refine .fill (fun ds h => ?_) (fun _ => rfl) (fun ds h => ?_) fun isMet => absurd isMet met
      · rw [slot] at h
        cases h
      · rw [slot] at h
        cases h
  | some q =>
    obtain ⟨action, cs⟩ := q
    cases action with
    | toOpen =>
      rw [State.requestSlot_merge slot]
      refine .fill (fun ds h => ?_) (fun h => ?_) (fun ds h => ?_) fun _ => ⟨cs, slot⟩
      · rw [slot] at h
        cases h
        rfl
      · rw [slot] at h
        cases h
      · rw [slot] at h
        cases h
    | toClose =>
      rw [State.requestSlot_preempt slot]
      obtain ⟨ehu, kept, runtime⟩ := State.preEmptSlot_quiet quiet k cs
      obtain ⟨others, notice, -⟩ := s.preEmptSlot_spec k cs
      have here := (runtime k).trans (if_pos rfl)
      change s.OpenAsked k c ((s.preEmptSlot k cs).enterSlot k ⟨.toOpen, c⟩)
      generalize s.preEmptSlot k cs = u at ehu kept runtime others notice here
      have noOpen : ∀ ds, (s.runtime k).slot ≠ some ⟨.toOpen, ds⟩ := by
        intro ds h
        rw [slot] at h
        cases h
      have occupied : (s.runtime k).slot ≠ none := by
        rw [slot]
        nofun
      by_cases met : (s.runtime k).inFlight = none ∧ (s.runtime k).position = .opened
      · rw [State.enterSlot_met (q := ⟨.toOpen, c⟩) (by rw [here]; exact (Runtime.met_iff _ _).mpr met)]
        have quiet' : u.ehu.huntCase.state ≠ .suspended := by
          rw [ehu]
          exact quiet
        obtain ⟨ehu', -, kept'⟩ := State.endInSlot_quiet quiet' k ⟨.toOpen, c⟩ .already
        have runtime' := State.endInSlot_runtime quiet' k ⟨.toOpen, c⟩ .already
        have ended := u.endInSlot_spec k ⟨.toOpen, c⟩ .already
        refine ⟨ended.others.trans others, ?_, fun j hj => ?_, fun n hn => kept' n (kept n hn), fun ds h => absurd h (noOpen ds),
          fun h => absurd h occupied, fun _ _ unmet => absurd met unmet, fun _ _ => ⟨?_, ended.noticed, rfl⟩⟩
        · rw [ehu', ehu]
        · exact (runtime' j).trans ((if_neg hj).trans ((runtime j).trans (if_neg hj)))
        · refine (runtime' k).trans ((if_pos rfl).trans ?_)
          rw [here]
      · rw [State.enterSlot_unmet (q := ⟨.toOpen, c⟩) (by
          rw [here]
          exact Bool.eq_false_iff.mpr (mt (Runtime.met_iff _ _).mp met))]
        refine ⟨others, ehu, fun j hj => ?_, fun n hn => kept n hn, fun ds h => absurd h (noOpen ds),
          fun h => absurd h occupied, fun ds h _ => ⟨?_, notice, rfl⟩, fun isMet => absurd isMet met⟩
        · exact (State.runtime_setRuntime_other _ _ hj).trans ((runtime j).trans (if_neg hj))
        · refine (State.runtime_setRuntime_same _ _ _).trans ?_
          rw [here]
          rw [slot] at h
          cases h
          rfl

theorem State.isolateFound_stays {s : State} {k : SwitchNo} (h : s.isolates k = false) : s.isolateFound k = s := by
  simp [State.isolateFound, h]

theorem HuntCase.nameLeftOpen_eq (c : HuntCase) (k : SwitchNo) (r : LeftOpenReason) : c.nameLeftOpen k r =
    { c with leftOpen := if c.leftOpen.any (·.switch == k) then c.leftOpen else c.leftOpen ++ [⟨k, r⟩] } := by
  unfold HuntCase.nameLeftOpen
  split <;> rfl

/-- A group in force is that of a configured switch. -/
theorem State.configured_of_group {s : State} {k : SwitchNo} {g : Group} (h : s.effectiveGroup k = some g) : s.configured k = true := by
  cases config : s.config k with
  | none => simp [State.effectiveGroup, State.districtOf, config] at h
  | some c => simp [State.configured, config]

theorem State.isolates_iff (s : State) (k : SwitchNo) : s.isolates k = true ↔
    k ≠ 0 ∧ (∃ g, s.effectiveGroup k = some g ∧ g.isolate = true)
      ∧ ((∀ z e, (s.subtree k).has z = true → (s.zone z).info = some e → e.essential = false)
        ∨ s.ehu.huntCase.essential = true) := by
  have essential : (!s.holdsEssential (s.subtree k)) = true ↔
      ∀ z e, (s.subtree k).has z = true → (s.zone z).info = some e → e.essential = false := by
    simp only [State.holdsEssential, State.zoneInfo, Bool.not_eq_true', List.any_eq_false, Bool.and_eq_true, Option.any_eq_true,
      not_and, not_exists, Bool.not_eq_true]
    exact ⟨fun h z e inside info => h z (List.mem_finRange z) inside e info, fun h z _ inside e info => h z e inside info⟩
  simp only [State.isolates, Bool.and_eq_true, Bool.or_eq_true, bne_iff_ne, Option.any_eq_true, essential]
  constructor
  · exact fun ⟨⟨group, other⟩, allowed⟩ => ⟨other, group, allowed⟩
  · exact fun ⟨other, group, allowed⟩ => ⟨⟨group, other⟩, allowed⟩

/-- The isolation of a concluded case: the OPEN asked for, and the switch named where it was taken. -/
theorem State.isolateFound_asks {s : State} {k : SwitchNo} (h : s.isolates k = true) (quiet : s.ehu.huntCase.state ≠ .suspended) :
    ∃ x : State × SlotAnswer, s.OpenAsked k { hunt := true } x
      ∧ s.isolateFound k = { x.1 with ehu.huntCase := { s.ehu.huntCase with leftOpen := (s.isolateFound k).ehu.huntCase.leftOpen } }
      ∧ (x.2 = .taken → (s.isolateFound k).ehu.huntCase.leftOpen =
          if s.ehu.huntCase.leftOpen.any (·.switch == k) then s.ehu.huntCase.leftOpen
          else s.ehu.huntCase.leftOpen ++ [⟨k, .foundIsolate⟩])
      ∧ (x.2 ≠ .taken → (s.isolateFound k).ehu.huntCase.leftOpen = s.ehu.huntCase.leftOpen) := by
  obtain ⟨-, ⟨g, group, -⟩, -⟩ := (s.isolates_iff k).mp h
  have asked := State.requestSlot_open quiet k { hunt := true }
  have table : s.requestByBlock k (.hunt .toOpen) = s.requestSlot k ⟨.toOpen, { hunt := true }⟩ := by
    simp [State.requestByBlock, OpRequest.hunt, State.configured_of_group group]
  refine ⟨_, asked, ?_⟩
  have case_ : (s.requestSlot k ⟨.toOpen, { hunt := true }⟩).1.ehu.huntCase = s.ehu.huntCase := by rw [asked.ehu]
  unfold State.isolateFound
  simp only [h, if_true, table]
  generalize s.requestSlot k ⟨.toOpen, { hunt := true }⟩ = x at asked case_
  obtain ⟨t, answer⟩ := x
  cases answer with
  | taken =>
    simp [HuntCase.nameLeftOpen_eq, show t.ehu.huntCase = s.ehu.huntCase from case_]
  | already | busy | failed | unconfigured =>
    refine ⟨?_, nofun, fun _ => congrArg HuntCase.leftOpen case_⟩
    show t = { t with ehu.huntCase := { s.ehu.huntCase with leftOpen := t.ehu.huntCase.leftOpen } }
    rw [← show t.ehu.huntCase = s.ehu.huntCase from case_]

/-! ### FOUND (R152, R153) -/

/-- The state of a FOUND conclusion before the isolation: the hold placed, the switch named, the suspicion raised. -/
def State.foundHeld (s : State) (k : SwitchNo) : State :=
  State.raiseSuspicion { s.concludeWithHold .found .noClose (s.segment k) with ehu.huntCase.found := some k } (s.segment k)

theorem State.concludeFound_eq (s : State) (k : SwitchNo) : s.concludeFound k = (s.foundHeld k).isolateFound k := rfl

theorem State.raiseSuspicion_zone (s : State) (set : ZoneSet) (z : ZoneNo) : (s.raiseSuspicion set).zone z =
    if set.has z = true ∧ (s.zone z).info.isSome = true then { s.zone z with suspicion := min 15 ((s.zone z).suspicion + 1) }
    else s.zone z := by
  have raises : (s.raiseSuspicion set).zone z = if (set.has z && (s.zone z).info.isSome) = true then
      { s.zone z with suspicion := min 15 ((s.zone z).suspicion + 1) } else s.zone z := by
    unfold State.raiseSuspicion State.zone
    exact Vector.getElem_ofFn _
  rw [raises]
  simp only [Bool.and_eq_true]

theorem State.raiseSuspicion_zoneInfo (s : State) (set : ZoneSet) (z : ZoneNo) :
    (s.raiseSuspicion set).zoneInfo z = s.zoneInfo z := by
  rw [State.zoneInfo, State.raiseSuspicion_zone]
  split <;> rfl

/-- What FOUND makes of the EHU's records, the isolation apart. -/
theorem State.foundHeld_ehu (s : State) (k : SwitchNo) : (s.foundHeld k).ehu = { s.ehu with
    huntCase := { s.ehu.huntCase.conclude .found with
      holdHandle := (s.concludeWithHold .found .noClose (s.segment k)).ehu.huntCase.holdHandle, found := some k }
    settleTimer := .stopped, observeTimer := .stopped } := by
  unfold State.foundHeld State.raiseSuspicion
  dsimp only
  rw [State.concludeWithHold_ehu]

theorem State.foundHeld_frame (s : State) (k : SwitchNo) :
    (s.foundHeld k).fsu = s.fsu ∧ (s.foundHeld k).sou = s.sou ∧ (s.foundHeld k).rcs = s.rcs ∧ (s.foundHeld k).svu = s.svu
      ∧ (s.foundHeld k).htu = (s.concludeWithHold .found .noClose (s.segment k)).htu
      ∧ (s.foundHeld k).rqi = (s.concludeWithHold .found .noClose (s.segment k)).rqi := by
  obtain ⟨-, fsu, sou, rcs, svu⟩ := s.concludeWithHold_frame .found .noClose (s.segment k)
  unfold State.foundHeld State.raiseSuspicion
  exact ⟨fsu, sou, rcs, svu, rfl, rfl⟩

/-- FOUND counts the suspicion of the zones of the segment, and changes nothing else of the feeder model. -/
theorem State.foundHeld_zone (s : State) (k : SwitchNo) (z : ZoneNo) : (s.foundHeld k).zone z =
    if (s.segment k).has z = true ∧ (s.zone z).info.isSome = true then
      { s.zone z with suspicion := min 15 ((s.zone z).suspicion + 1) }
    else s.zone z := by
  obtain ⟨fmu, -⟩ := s.concludeWithHold_frame .found .noClose (s.segment k)
  have zone : ∀ z, State.zone { s.concludeWithHold .found .noClose (s.segment k) with ehu.huntCase.found := some k } z = s.zone z :=
    fun z => congrArg (fun f : Fmu => f.zones[z]) fmu
  rw [State.foundHeld, State.raiseSuspicion_zone, zone]

theorem State.foundHeld_tables (s : State) (k : SwitchNo) :
    (s.foundHeld k).fmu.switches = s.fmu.switches ∧ (s.foundHeld k).fmu.reachTable = s.fmu.reachTable
      ∧ ∀ z, (s.foundHeld k).zoneInfo z = s.zoneInfo z := by
  obtain ⟨fmu, -⟩ := s.concludeWithHold_frame .found .noClose (s.segment k)
  refine ⟨?_, ?_, fun z => ?_⟩
  · rw [← fmu]
    unfold State.foundHeld State.raiseSuspicion
    rfl
  · rw [← fmu]
    unfold State.foundHeld State.raiseSuspicion
    rfl
  · rw [State.zoneInfo, State.foundHeld_zone]
    split <;> rfl

/-- The isolation is decided by the records as they stood before the conclusion. -/
theorem State.foundHeld_isolates (s : State) (k j : SwitchNo) : (s.foundHeld k).isolates j = s.isolates j := by
  obtain ⟨switches, table, info⟩ := s.foundHeld_tables k
  obtain ⟨fsu, -⟩ := s.foundHeld_frame k
  have inForce : (s.foundHeld k).groupOfDistrict = s.groupOfDistrict := by
    funext d
    simp only [State.groupOfDistrict, State.group, State.district, fsu]
  have group : (s.foundHeld k).effectiveGroup j = s.effectiveGroup j := by
    simp only [State.effectiveGroup, State.districtOf, State.config, inForce, switches, info]
  have subtree : (s.foundHeld k).subtree j = s.subtree j := by simp only [State.subtree, State.tableEntry, table]
  have essential : (s.foundHeld k).ehu.huntCase.essential = s.ehu.huntCase.essential := by rw [State.foundHeld_ehu]; rfl
  simp only [State.isolates, group, subtree, State.holdsEssential, info, essential]

end Sys2Proof.Machine
end

section
/-! The listen window and the timers of a step (R134, R137, R138, R141 to R145, R152, R153). -/

namespace Sys2Proof.Machine

/-! ### Choosing (R137, R138) -/

/-- The order of R138 between two switches that may be tested. -/
def State.TestsFirst (s : State) (k j : SwitchNo) : Prop :=
  s.imbalance k < s.imbalance j ∨ (s.imbalance k = s.imbalance j ∧
    (s.suspicionSum j < s.suspicionSum k ∨ (s.suspicionSum j = s.suspicionSum k ∧ k ≤ j)))

theorem State.pickTest_eq (s : State) : s.pickTest = firstBest s.betterTest (allSwitches.filter s.testable) := by
  unfold State.pickTest firstBest
  congr 1
  funext best c
  cases best <;> rfl

theorem State.pickTest_none {s : State} (h : ∀ k, s.testable k = false) : s.pickTest = none := by
  have none_ : allSwitches.filter s.testable = [] := by simp [h]
  rw [State.pickTest_eq, none_]
  rfl

/-- The switch picked may be tested, and stands first of those in R138's order. -/
theorem State.pickTest_spec {s : State} (h : ∃ k, s.testable k = true) :
    ∃ k, s.pickTest = some k ∧ s.testable k = true ∧ ∀ j, s.testable j = true → s.TestsFirst k j := by
  obtain ⟨k, testable⟩ := h
  have some_ : allSwitches.filter s.testable ≠ [] := List.ne_nil_of_mem (List.mem_filter.mpr ⟨mem_allSwitches k, testable⟩)
  have ascending : (allSwitches.filter s.testable).Pairwise (· < ·) := (List.pairwise_lt_finRange 16).filter _
  obtain ⟨best, picked, mem, first⟩ := firstBest_spec (better := s.betterTest) (R := s.TestsFirst) (before := (· < ·)) (fun _ => .inr ⟨rfl, .inr ⟨rfl, le_rfl⟩⟩)
    (fun a b h (lt : a < b) => by
      simp only [State.betterTest, Bool.or_eq_false_iff, decide_eq_false_iff_not, Bool.and_eq_false_iff, beq_eq_false_iff_ne] at h
      have le := lt.le
      simp only [State.TestsFirst, le, and_true]
      omega)
    (fun a b c h hd => by
      simp only [State.betterTest, Bool.or_eq_true, decide_eq_true_eq, Bool.and_eq_true, beq_iff_eq] at h
      unfold State.TestsFirst at hd ⊢
      omega) ascending some_
  rw [State.pickTest_eq]
  exact ⟨best, picked, (List.mem_filter.mp mem).2, fun j hj => first j (List.mem_filter.mpr ⟨mem_allSwitches j, hj⟩)⟩

section
variable {s : State} {k : SwitchNo}

theorem State.choose_one (h : s.ehu.huntCase.candidates = [k]) : s.choose = s.concludeFound k := by
  simp only [State.choose, h]

theorem State.choose_limit (h : ∀ k, s.ehu.huntCase.candidates ≠ [k]) (steps : 32 ≤ s.ehu.huntCase.stepsTaken) :
    s.choose = s.concludeNarrowed .limit := by
  unfold State.choose
  split
  next j e => exact absurd e (h j)
  next => rw [if_pos (show Config.huntSteps ≤ _ from steps)]

theorem State.choose_narrowed (h : ∀ k, s.ehu.huntCase.candidates ≠ [k]) (steps : s.ehu.huntCase.stepsTaken < 32)
    (none : ∀ k, s.testable k = false) : s.choose = s.concludeNarrowed .narrowed := by
  unfold State.choose
  split
  next j e => exact absurd e (h j)
  next => rw [if_neg (show ¬ Config.huntSteps ≤ _ from Nat.not_le.mpr steps), State.pickTest_none none]

theorem State.choose_begins (h : ∀ k, s.ehu.huntCase.candidates ≠ [k]) (steps : s.ehu.huntCase.stepsTaken < 32)
    (picked : s.pickTest = some k) : s.choose = s.beginStep k := by
  unfold State.choose
  split
  next j e => exact absurd e (h j)
  next => rw [if_neg (show ¬ Config.huntSteps ≤ _ from Nat.not_le.mpr steps), picked]

/-- The step of a switch that may be tested: its OPEN stands in the slot. -/
theorem State.beginStep_eq (testable : s.testable k = true) : s.beginStep k = State.setRuntime
    { s with
      ehu.huntCase.state := .stepping
      ehu.huntCase.step := some ⟨k, .opening, none⟩
      ehu.disturbed := false
      ehu.deciding := none
      ehu.pendingCause := none
      ehu.pendingAbandon := none }
    k { s.runtime k with slot := some ⟨.toOpen, { hunt := true }⟩ } := by
  simp only [State.testable, Bool.and_eq_true, beq_iff_eq, Option.isNone_iff_eq_none] at testable
  obtain ⟨⟨⟨⟨⟨⟨⟨⟨⟨⟨configured, -⟩, closed⟩, -⟩, empty⟩, -⟩, -⟩, -⟩, -⟩, -⟩, -⟩ := testable
  unfold State.beginStep
  dsimp only
  generalize hu : ({ s with
    ehu.huntCase.state := .stepping
    ehu.huntCase.step := some ⟨k, .opening, none⟩
    ehu.disturbed := false
    ehu.deciding := none
    ehu.pendingCause := none
    ehu.pendingAbandon := none } : State) = u
  have runtime : u.runtime k = s.runtime k := by rw [← hu]; rfl
  have table : u.requestByBlock k (.hunt .toOpen) = u.requestSlot k ⟨.toOpen, { hunt := true }⟩ := by
    have configured' : u.configured k = true := by rw [← hu]; exact configured
    simp [State.requestByBlock, OpRequest.hunt, configured']
  have unmet : (u.runtime k).met (OpRequest.action ⟨.toOpen, { hunt := true }⟩) = false := by
    rw [runtime, Runtime.met, closed]
    exact Bool.and_false _
  rw [table, State.requestSlot_empty (by rw [runtime]; exact empty), State.enterSlot_unmet unmet, runtime]

end

/-! ### The listen window (R134) -/

/-- What an isolation leaves alone. -/
theorem State.isolateFound_frame {s : State} (quiet : s.ehu.huntCase.state ≠ .suspended) (k : SwitchNo) :
    (s.isolateFound k).others = s.others
      ∧ (s.isolateFound k).ehu = { s.ehu with
          runningCount := (s.isolateFound k).ehu.runningCount
          huntCase := { s.ehu.huntCase with leftOpen := (s.isolateFound k).ehu.huntCase.leftOpen } }
      ∧ ∀ n, s.noticed n → (s.isolateFound k).noticed n := by
  cases isolates : s.isolates k with
  | false =>
    rw [State.isolateFound_stays isolates]
    exact ⟨rfl, rfl, fun _ hn => hn⟩
  | true =>
    obtain ⟨x, asked, eq, -, -⟩ := State.isolateFound_asks isolates quiet
    generalize s.isolateFound k = t at eq
    refine ⟨?_, ?_, fun n hn => ?_⟩
    · rw [eq]
      exact asked.others
    · rw [eq]
      dsimp only
      rw [asked.ehu]
    · rw [eq]
      exact asked.kept n hn

/-- What holds of the part after the listen window, however it ends. -/
structure State.WindowOver (s t : State) : Prop where
  listen : t.ehu.huntCase.listen = .stopped
  watch : t.ehu.watch = s.ehu.watch
  fsu : t.fsu = s.fsu
  svu : t.svu = s.svu
  still : ∀ k, (t.runtime k).position = (s.runtime k).position ∧ (t.runtime k).inFlight = (s.runtime k).inFlight

theorem State.still_of_motion {s t : State} (h : t.motion = s.motion) (k : SwitchNo) :
    (t.runtime k).position = (s.runtime k).position ∧ (t.runtime k).inFlight = (s.runtime k).inFlight := by
  have motion := State.runtime_motion h k
  exact ⟨congrArg (·.1) motion, congrArg (·.2.2.1) motion⟩

/-- Settles O52. -/
theorem listenWindowExpires : Obligations.ListenWindowExpires := by
  unfold Obligations.ListenWindowExpires
  intro s i hs running empty lower c cleared segments hold
  have expires : exec .listenWindowExpiry s = .next s.listenExpired.arbitrate :=
    congrArg Host.Outcome.next (State.expiry_working hs (·.ehu.huntCase.listen) linkReads State.listenExpired running)
  obtain ⟨u, hu⟩ : ∃ u : State, u = { s with ehu.huntCase.listen := .stopped } := ⟨_, rfl⟩
  have clears : cleared → s.listenExpired = u.concludeSelfCleared := by
    intro h
    rw [hu]
    refine if_pos ?_
    rcases h with h | h
    · simp [show s.ehu.huntCase.clearedInWindow = true from h]
    · simp [h]
  have chooses : ¬ cleared → s.listenExpired = u.choose := by
    intro h
    rw [hu]
    exact if_neg (by simpa [cleared, c] using h)
  have motion : u.motion = s.motion := by rw [hu]; rfl
  have ehu : u.ehu = { s.ehu with huntCase.listen := .stopped } := by rw [hu]
  have uempty : u.holdAt i = none := by rw [hu]; exact empty
  have ulower : ∀ j, j < i → (u.holdAt j).isSome = true := by rw [hu]; exact lower
  have uslot : u.slot = s.slot := by rw [hu]; rfl
  have uothers : u.fmu = s.fmu ∧ u.fsu = s.fsu ∧ u.sou = s.sou ∧ u.rcs = s.rcs ∧ u.svu = s.svu := by
    rw [hu]
    exact ⟨rfl, rfl, rfl, rfl, rfl⟩
  obtain ⟨ufmu, ufsu, usou, urcs, usvu⟩ := uothers
  have uhold : ∀ kind z, u.huntHold kind z = hold kind z := by
    rw [hu]
    exact fun _ _ => rfl
  clear_value hold
  rw [expires]
  by_cases isCleared : cleared
  · have t : s.WindowOver u.concludeSelfCleared := by
      rw [hu]
      exact ⟨rfl, rfl, rfl, rfl, fun _ => ⟨rfl, rfl⟩⟩
    rw [clears isCleared]
    refine ⟨_, rfl, t.listen, t.watch, t.fsu, t.svu, t.still, fun _ => ?_, fun k h => absurd isCleared h, fun k h => absurd isCleared h,
      fun h => absurd isCleared h, fun h => absurd isCleared h⟩
    rw [hu]
    exact ⟨rfl, State.noticed_notify _ _, rfl, rfl, rfl, rfl⟩
  rw [chooses isCleared]
  by_cases one : ∃ k, c.candidates = [k]
  · obtain ⟨k, one⟩ := one
    have found : u.choose = u.concludeFound k := State.choose_one (by rw [ehu]; exact one)
    obtain ⟨hfsu, hsou, hrcs, hsvu, hhtu, hrqi⟩ := u.foundHeld_frame k
    have hehu := u.foundHeld_ehu k
    obtain ⟨handle, here, other, hunt, held⟩ := State.concludeWithHold_at uempty ulower .found .noClose (u.segment k)
    have quiet : (u.foundHeld k).ehu.huntCase.state ≠ .suspended := by
      rw [hehu]
      nofun
    obtain ⟨others, tehu, kept⟩ := State.isolateFound_frame quiet k
    have still := State.still_of_motion (((u.concludeFound_motion k)).trans motion)
    have tables := u.foundHeld_isolates k k
    have runtime : (u.foundHeld k).runtime = s.runtime := funext fun j => State.runtime_congr (hsou.trans usou) j
    have zones := u.foundHeld_zone k
    rw [State.concludeFound_eq] at still
    rw [found, State.concludeFound_eq]
    rw [uhold] at here
    rw [uslot] at here handle other
    obtain ⟨tfmu, thtu, tfsu, tsvu, -⟩ := State.others_fields others
    have slots : ∀ j, ((u.foundHeld k).isolateFound k).slot j = (u.concludeWithHold .found .noClose (u.segment k)).slot j := fun j =>
      State.slot_congr (thtu.trans hhtu) j
    have segment : u.segment k = s.segment k := by rw [hu]; rfl
    refine ⟨_, rfl, ?_, ?_, tfsu.trans (hfsu.trans ufsu), tsvu.trans (hsvu.trans usvu), still, fun h => absurd h isCleared,
      fun j _ h => ?_, fun j _ h => ?_, fun _ h => absurd one (h k), fun _ h => absurd one (h k)⟩
    · rw [tehu, hehu]
      rfl
    · rw [tehu, hehu, ehu]
    · obtain rfl : k = j := by simpa [one] using h
      refine ⟨?_, ?_, ?_, ?_, (slots i).trans (by rw [here, segment]), fun j hj => (slots j).trans (other j hj),
        kept _ (State.noticed_of_rqi hrqi hunt), kept _ (State.noticed_of_rqi hrqi held), fun z => ?_⟩
      · rw [tehu, hehu]
        rfl
      · rw [tehu, hehu]
        rfl
      · rw [tehu, hehu]
      · rw [tehu, hehu]
        exact handle
      · refine (congrArg (fun f : Fmu => f.zones[z]) tfmu).trans ((zones z).trans ?_)
        rw [hu]
        rfl
    · obtain rfl : k = j := by simpa [one] using h
      intro isolated r named met
      have isolates : (u.foundHeld k).isolates k = true ↔ isolated := by
        rw [tables, show u.isolates k = s.isolates k by rw [hu]; rfl]
        exact s.isolates_iff k
      have leftOpen : (u.foundHeld k).ehu.huntCase.leftOpen = c.leftOpen := by
        rw [hehu, ehu]
        rfl
      refine ⟨fun no => ?_, fun yes => ?_⟩
      · rw [State.isolateFound_stays (Bool.eq_false_iff.mpr (mt isolates.mp no))]
        exact ⟨hsou.trans usou, hrcs.trans urcs, leftOpen⟩
      · obtain ⟨x, asked, eq, names, stands⟩ := State.isolateFound_asks (isolates.mpr yes) quiet
        obtain ⟨-, -, elsewhere, -, merged, taken, preEmpts, already⟩ := asked
        have after : ((u.foundHeld k).isolateFound k).runtime = x.1.runtime := by rw [eq]; rfl
        have notices : ∀ n, x.1.noticed n → ((u.foundHeld k).isolateFound k).noticed n := fun n hn => by rw [eq]; exact hn
        rw [leftOpen] at names stands
        rw [runtime] at elsewhere merged taken preEmpts already
        rw [after]
        refine ⟨elsewhere, fun cs slot => ?_, fun slot unmet => ?_, fun cs slot unmet => ?_, fun isMet other => ?_⟩
        · obtain ⟨filled, answer⟩ := merged cs slot
          exact ⟨filled, names answer⟩
        · obtain ⟨filled, answer⟩ := taken slot unmet
          refine ⟨?_, names answer⟩
          rw [filled, State.runtime_setRuntime_same]
        · obtain ⟨filled, notice, answer⟩ := preEmpts cs slot unmet
          exact ⟨filled, notices _ notice, names answer⟩
        · obtain ⟨ended, notice, answer⟩ := already isMet other
          exact ⟨ended, notices _ notice, stands (by rw [answer]; nofun)⟩
  have several : ∀ k, c.candidates ≠ [k] := not_exists.mp one
  have uneliminated : ∀ k, u.ehu.huntCase.candidates ≠ [k] := by rw [ehu]; exact several
  have usteps : u.ehu.huntCase.stepsTaken = c.stepsTaken := by rw [ehu]
  have utestable : u.testable = s.testable := by rw [hu]; rfl
  by_cases ends : 32 ≤ c.stepsTaken ∨ ∀ k, s.testable k = false
  · have concludes : u.choose = u.concludeNarrowed (if 32 ≤ c.stepsTaken then .limit else .narrowed) := by
      by_cases limit : 32 ≤ c.stepsTaken
      · rw [if_pos limit, State.choose_limit uneliminated (by rw [usteps]; exact limit)]
      · rw [if_neg limit, State.choose_narrowed uneliminated (by rw [usteps]; exact Nat.not_le.mp limit)
          (by rw [utestable]; exact ends.resolve_left limit)]
    obtain ⟨r, hr⟩ : ∃ r, r = (if 32 ≤ c.stepsTaken then ResultKind.limit else .narrowed) := ⟨_, rfl⟩
    have scope : u.segmentsOf u.ehu.huntCase.candidates = segments := by rw [hu]; rfl
    rw [concludes, ← hr, State.concludeNarrowed, scope]
    clear_value segments
    obtain ⟨fmu, fsu, sou, rcs, svu⟩ := u.concludeWithHold_frame r .noReclose segments
    obtain ⟨handle, here, other, hunt, -⟩ := State.concludeWithHold_at uempty ulower r .noReclose segments
    have cehu := u.concludeWithHold_ehu r .noReclose segments
    have still := State.still_of_motion ((u.concludeWithHold_motion r .noReclose segments).trans motion)
    rw [uhold] at here
    rw [uslot] at here handle other
    refine ⟨_, rfl, ?_, ?_, fsu.trans ufsu, svu.trans usvu, still, fun h => absurd h isCleared, fun j _ h => absurd h (several j),
      fun j _ h => absurd h (several j), fun _ _ _ => ⟨?_, ?_, handle, here, other, hunt, fmu.trans ufmu, sou.trans usou, rcs.trans urcs⟩,
      fun _ _ few fit => ?_⟩
    · rw [cehu]
      rfl
    · rw [cehu, ehu]
    · rw [cehu]
      rfl
    · rw [cehu]
      rfl
    · rcases ends with limit | none_
      · exact absurd few (Nat.not_lt.mpr limit)
      · obtain ⟨k, fit⟩ := fit
        rw [none_ k] at fit
        cases fit
  · obtain ⟨few, testable⟩ := not_or.mp ends
    have picks : ∃ k, u.testable k = true := by
      rw [utestable]
      simpa using testable
    obtain ⟨k, picked, fit, first⟩ := State.pickTest_spec picks
    have begins : u.choose = u.beginStep k := State.choose_begins uneliminated (by rw [usteps]; exact Nat.not_le.mp few) picked
    rw [begins, State.beginStep_eq fit]
    refine ⟨_, rfl, ?_, ?_, ufsu, usvu, fun j => ?_, fun h => absurd h isCleared, fun j _ h => absurd h (several j),
      fun j _ h => absurd h (several j), fun _ _ h => absurd h ends, fun _ _ _ _ => ⟨k, ?_, ?_, ?_, ?_, rfl, rfl, rfl, rfl, ?_, ufmu, urcs, ?_⟩⟩
    · rw [State.setRuntime_ehu, ehu]
    · rw [State.setRuntime_ehu, ehu]
    · by_cases e : j = k
      · rw [e, State.runtime_setRuntime_same, State.runtime_congr usou]
        exact ⟨rfl, rfl⟩
      · rw [State.runtime_setRuntime_other _ _ e]
        exact State.still_of_motion motion j
    · rw [← utestable]
      exact fit
    · intro j hj
      have firstOf := first j (by rw [utestable]; exact hj)
      rw [hu] at firstOf
      exact firstOf
    · rw [State.setRuntime_ehu, ehu]
    · rw [State.runtime_setRuntime_same]
    · rw [hu]
      rfl
    · rw [hu]
      rfl

end Sys2Proof.Machine
end

section
/-! The settle and observe timers of a step (R141, R142, R143, R145). -/

namespace Sys2Proof.Machine

/-! ### A case concluded at the end of a step (R145, R152) -/

/-- What a conclusion keeps of the case, whatever it concludes. -/
structure State.Concludes (s t : State) : Prop where
  state : t.ehu.huntCase.state = .concluded
  step : t.ehu.huntCase.step = s.ehu.huntCase.step
  stepsTaken : t.ehu.huntCase.stepsTaken = s.ehu.huntCase.stepsTaken
  candidates : t.ehu.huntCase.candidates = s.ehu.huntCase.candidates
  cleared : t.ehu.huntCase.cleared = s.ehu.huntCase.cleared
  leftOpen : ∀ e ∈ s.ehu.huntCase.leftOpen, e ∈ t.ehu.huntCase.leftOpen
  observeTimer : t.ehu.observeTimer = .stopped
  fsu : t.fsu = s.fsu
  svu : t.svu = s.svu

theorem State.concludeAbandoned_concludes (s : State) (r : AbandonReason) : s.Concludes (s.concludeAbandoned r) :=
  ⟨rfl, rfl, rfl, rfl, rfl, fun _ he => he, rfl, rfl, rfl⟩

theorem State.concludeWithHold_concludes (s : State) (r : ResultKind) (kind : HoldKind) (z : ZoneSet) :
    s.Concludes (s.concludeWithHold r kind z) := by
  obtain ⟨-, fsu, -, -, svu⟩ := s.concludeWithHold_frame r kind z
  have ehu := s.concludeWithHold_ehu r kind z
  generalize s.concludeWithHold r kind z = t at ehu fsu svu
  refine ⟨?_, ?_, ?_, ?_, ?_, fun e he => ?_, ?_, fsu, svu⟩
  all_goals rw [ehu]
  all_goals first | rfl | exact he

/-- The isolation names a switch more at most. -/
theorem State.isolateFound_leftOpen {s : State} (quiet : s.ehu.huntCase.state ≠ .suspended) (k : SwitchNo) :
    ∀ e ∈ s.ehu.huntCase.leftOpen, e ∈ (s.isolateFound k).ehu.huntCase.leftOpen := by
  intro e he
  cases isolates : s.isolates k with
  | false =>
    rw [State.isolateFound_stays isolates]
    exact he
  | true =>
    obtain ⟨x, -, -, names, stands⟩ := State.isolateFound_asks isolates quiet
    by_cases taken : x.2 = .taken
    · rw [names taken]
      split
      · exact he
      · exact List.mem_append_left _ he
    · rw [stands taken]
      exact he

theorem State.concludeFound_concludes (s : State) (k : SwitchNo) : s.Concludes (s.concludeFound k) := by
  have hehu := s.foundHeld_ehu k
  obtain ⟨hfsu, -, -, hsvu, -⟩ := s.foundHeld_frame k
  have quiet : (s.foundHeld k).ehu.huntCase.state ≠ .suspended := by
    rw [hehu]
    nofun
  obtain ⟨others, tehu, -⟩ := State.isolateFound_frame quiet k
  obtain ⟨-, -, fsu, svu, -⟩ := State.others_fields others
  have leftOpen := State.isolateFound_leftOpen quiet k
  rw [State.concludeFound_eq]
  refine ⟨?_, ?_, ?_, ?_, ?_, fun e he => leftOpen e ?_, ?_, fsu.trans hfsu, svu.trans hsvu⟩
  case refine_6 =>
    rw [hehu]
    exact he
  all_goals rw [tehu, hehu]
  all_goals rfl

theorem State.concludeByCandidates_concludes (s : State) : s.Concludes s.concludeByCandidates := by
  unfold State.concludeByCandidates
  split
  · exact s.concludeFound_concludes _
  · exact s.concludeWithHold_concludes _ _ _

/-- A step whose course ends by the candidates concludes the case, whether abandoned or not. -/
theorem State.endStep_byCandidates (s : State) (k : SwitchNo) (o : StepOutcome) :
    State.Concludes { s with
      ehu.huntCase := s.ehu.huntCase.closeStep k o, ehu.settleTimer := .stopped, ehu.observeTimer := .stopped }
      (s.endStep k o .byCandidates) := by
  unfold State.endStep State.afterStep
  split
  next => exact State.concludeAbandoned_concludes _ _
  next => exact State.concludeByCandidates_concludes _
  next e => cases e
  next e => cases e

/-! ### Candidates taken out (R143) -/

theorem HuntCase.eliminate_candidates (c : HuntCase) (out : SwitchNo → Bool) : (c.eliminate out).candidates =
    if (c.candidates.filter fun k => !out k) = [] then c.candidates else c.candidates.filter fun k => !out k := by
  unfold HuntCase.eliminate
  simp only [List.isEmpty_iff]
  split <;> rfl

theorem HuntCase.eliminate_cleared {c : HuntCase} {out : SwitchNo → Bool} (left : (c.candidates.filter fun k => !out k) ≠ []) :
    (c.eliminate out).cleared = c.cleared ++ c.candidates.filter out := by
  unfold HuntCase.eliminate
  simp only [List.isEmpty_iff, left, if_false]

theorem HuntCase.eliminate_leftOpen (c : HuntCase) (out : SwitchNo → Bool) :
    (c.eliminate out).leftOpen = c.leftOpen ∧ (c.eliminate out).stepsTaken = c.stepsTaken := by
  unfold HuntCase.eliminate
  dsimp only
  split <;> exact ⟨rfl, rfl⟩

/-! ### The close-back (R143) -/

/-- The close-back asked of a switch that stands OPEN with its slot empty. -/
theorem State.askCloseBack_eq {s : State} {k : SwitchNo} (configured : s.configured k = true) (fit : (s.runtime k).condition ≠ .failed)
    (empty : (s.runtime k).slot = none) (opened : (s.runtime k).position = .opened) (o : StepOutcome) :
    s.askCloseBack k o = State.setRuntime { s with ehu.huntCase.step := some ⟨k, .closingBack, some o⟩ } k
      { s.runtime k with slot := some ⟨.toClose, { hunt := true }⟩ } := by
  unfold State.askCloseBack
  dsimp only
  generalize hu : ({ s with ehu.huntCase.step := some ⟨k, .closingBack, some o⟩ } : State) = u
  have runtime : u.runtime k = s.runtime k := by rw [← hu]; rfl
  have configured' : u.configured k = true := by rw [← hu]; exact configured
  have unmet : (u.runtime k).met (OpRequest.action ⟨.toClose, { hunt := true }⟩) = false := by
    rw [runtime, Runtime.met, opened]
    exact Bool.and_false _
  have asked : u.requestByBlock k (.hunt .toClose) =
      (u.setRuntime k { s.runtime k with slot := some ⟨.toClose, { hunt := true }⟩ }, .taken) := by
    rw [State.requestByBlock_checked configured' (by rw [runtime]; exact fit), State.requestSlot_empty (by rw [runtime]; exact empty),
      ← runtime]
    exact State.enterSlot_unmet unmet
  rw [asked]

/-! ### The outcome applied (R143) -/

section
variable {s : State} (k : SwitchNo)

theorem State.applyOutcome_inconclusive : s.applyOutcome k .inconclusive = s.askCloseBack k .inconclusive := by
  simp only [State.applyOutcome, ite_self]

theorem State.applyOutcome_notDownstream (table : s.fmu.reachTable.isSome = true) : s.applyOutcome k .notDownstream =
    State.askCloseBack { s with ehu.huntCase := s.ehu.huntCase.eliminate (s.candidateBelow k) } k .notDownstream := by
  simp [State.applyOutcome, Option.isSome_iff_ne_none.mp table]

theorem State.applyOutcome_closesBack (table : s.fmu.reachTable.isSome = true) (back : ((s.effectiveGroup k).any (·.closeBack)
    && decide (1 < (s.ehu.huntCase.eliminate fun j => !s.candidateBelow k j).candidates.length)) = true) :
    s.applyOutcome k .downstream =
      State.askCloseBack { s with ehu.huntCase := s.ehu.huntCase.eliminate fun j => !s.candidateBelow k j } k .downstream := by
  rw [State.applyOutcome, if_neg (by simpa using Option.isSome_iff_ne_none.mp table)]
  exact if_pos back

theorem State.applyOutcome_leavesOpen (table : s.fmu.reachTable.isSome = true) (back : ¬ ((s.effectiveGroup k).any (·.closeBack)
    && decide (1 < (s.ehu.huntCase.eliminate fun j => !s.candidateBelow k j).candidates.length)) = true) :
    s.applyOutcome k .downstream =
      (State.nameLeftOpen { s with ehu.huntCase := s.ehu.huntCase.eliminate fun j => !s.candidateBelow k j } k
        .noCloseBack).endStep k .downstream .byCandidates := by
  rw [State.applyOutcome, if_neg (by simpa using Option.isSome_iff_ne_none.mp table)]
  exact if_neg back

end

/-! ### The timers -/

/-- Settles O53. -/
theorem stepTimersExpire : Obligations.StepTimersExpire := by
  unfold Obligations.StepTimersExpire
  intro s k o hs c
  refine ⟨fun running step => ?settle, fun running step table configured fit empty opened => ?observe⟩
  case settle =>
    have expires : exec .settleTimerExpiry s = .next s.settleExpired.arbitrate :=
      congrArg Host.Outcome.next (State.expiry_working hs (·.ehu.settleTimer) linkReads State.settleExpired running)
    rw [expires, State.settleExpired, show s.ehu.huntCase.step = _ from step]
    dsimp only
    rw [State.wantPoll, Runtime.wantPoll_hunt]
    rfl
  case observe =>
    intro below outcome
    have expires : exec .observeTimerExpiry s = .next s.observeExpired.arbitrate :=
      congrArg Host.Outcome.next (State.expiry_working hs (·.ehu.observeTimer) linkReads State.observeExpired running)
    have decided : s.observeExpired = State.applyOutcome { s with ehu.observeTimer := .stopped } k outcome := by
      have eq : outcomeOf s.ehu.disturbed s.ehu.deciding = outcome := by
        show (if _ then _ else _) = (if _ then _ else _)
        split
        · rfl
        · cases s.ehu.deciding with
          | none => rfl
          | some d => cases d <;> rfl
      rw [← eq, State.observeExpired, show s.ehu.huntCase.step = _ from step]
    have undecided : outcome ≠ .failed := by
      show (if _ then _ else _) ≠ _
      split
      · nofun
      · cases s.ehu.deciding with
        | none => nofun
        | some d => cases d <;> nofun
    clear_value outcome
    intro out left candidates closesBack
    rw [expires, decided]
    clear expires decided
    -- the close-back asked of the case that the candidates leave
    have asks : ∀ d : HuntCase, d.candidates = candidates → (left ≠ [] → d.cleared = c.cleared ++ c.candidates.filter out) →
        d.leftOpen = c.leftOpen → closesBack →
        ∃ t : State, Host.Outcome.next (State.arbitrate (State.askCloseBack
            { s with ehu.observeTimer := .stopped, ehu.huntCase := d } k outcome)) = (.next t.arbitrate : Host.Outcome State Fault Refusal)
          ∧ t.ehu.huntCase.candidates = candidates
          ∧ (left ≠ [] → t.ehu.huntCase.cleared = c.cleared ++ c.candidates.filter out)
          ∧ (closesBack → t.ehu.huntCase.step = some ⟨k, .closingBack, some outcome⟩
              ∧ (t.runtime k).slot = some ⟨.toClose, { hunt := true }⟩ ∧ t.ehu.huntCase.leftOpen = c.leftOpen
              ∧ t.htu = s.htu ∧ t.fmu = s.fmu ∧ t.rcs = s.rcs ∧ t.rqi = s.rqi)
          ∧ (¬ closesBack → t.ehu.huntCase.step = none ∧ t.ehu.huntCase.state = .concluded
              ∧ t.ehu.huntCase.stepsTaken = c.stepsTaken + 1
              ∧ ((∀ e ∈ c.leftOpen, e.switch ≠ k) → ⟨k, .noCloseBack⟩ ∈ t.ehu.huntCase.leftOpen))
          ∧ t.ehu.observeTimer = .stopped ∧ t.fsu = s.fsu ∧ t.svu = s.svu := by
      intro d stand cleared leftOpen back
      rw [State.askCloseBack_eq (s := { s with ehu.observeTimer := .stopped, ehu.huntCase := d }) configured fit empty opened]
      refine ⟨_, rfl, stand, cleared, fun _ => ⟨rfl, ?_, leftOpen, rfl, rfl, rfl, rfl⟩, fun no => absurd back no, rfl, rfl, rfl⟩
      rw [State.runtime_setRuntime_same]
    cases outcome with
    | failed => exact absurd rfl undecided
    | inconclusive =>
      have all : left = c.candidates := List.filter_eq_self.mpr fun _ _ => rfl
      have none_ : c.candidates.filter out = [] := List.filter_eq_nil_iff.mpr fun _ _ => Bool.false_ne_true
      rw [State.applyOutcome_inconclusive]
      refine asks c ?_ (fun _ => by rw [none_, List.append_nil]) rfl nofun
      show _ = (if _ then _ else _)
      rw [all, ite_self]
    | notDownstream =>
      rw [State.applyOutcome_notDownstream k (s := { s with ehu.observeTimer := .stopped }) table]
      exact asks (c.eliminate below) (HuntCase.eliminate_candidates _ _) HuntCase.eliminate_cleared (HuntCase.eliminate_leftOpen _ _).1 nofun
    | downstream =>
      have stand : (c.eliminate fun j => !below j).candidates = candidates := HuntCase.eliminate_candidates _ _
      have gone : left ≠ [] → (c.eliminate fun j => !below j).cleared = c.cleared ++ c.candidates.filter out :=
        HuntCase.eliminate_cleared
      obtain ⟨leftOpen, steps⟩ := HuntCase.eliminate_leftOpen c fun j => !below j
      have decides : ((s.effectiveGroup k).any (·.closeBack) && decide (1 < (c.eliminate fun j => !below j).candidates.length)) = true
          ↔ closesBack := by
        rw [stand, Bool.and_eq_true, Option.any_eq_true, decide_eq_true_eq, and_comm]
        exact ⟨fun h _ => h, fun h => h rfl⟩
      by_cases back : closesBack
      · rw [State.applyOutcome_closesBack k (s := { s with ehu.observeTimer := .stopped }) table (decides.mpr back)]
        exact asks _ stand gone leftOpen back
      · rw [State.applyOutcome_leavesOpen k (s := { s with ehu.observeTimer := .stopped }) table (mt decides.mp back)]
        refine ⟨_, rfl, ?_⟩
        have ends := State.endStep_byCandidates (State.nameLeftOpen
          { s with ehu.observeTimer := .stopped, ehu.huntCase := c.eliminate fun j => !below j } k .noCloseBack) k .downstream
        have named : (State.nameLeftOpen
            { s with ehu.observeTimer := .stopped, ehu.huntCase := c.eliminate fun j => !below j } k .noCloseBack).ehu.huntCase =
            { c.eliminate fun j => !below j with
              leftOpen := if c.leftOpen.any (·.switch == k) then c.leftOpen else c.leftOpen ++ [⟨k, .noCloseBack⟩] } := by
          rw [← leftOpen]
          exact HuntCase.nameLeftOpen_eq _ k .noCloseBack
        obtain ⟨state, step', taken, kept, cleared, names, timer, fsu, svu⟩ := ends
        dsimp only at step' taken kept cleared names
        rw [named] at step' taken kept cleared names
        refine ⟨kept.trans stand, fun h => cleared.trans (gone h), fun h => absurd h back,
          fun _ => ⟨step', state, taken.trans (congrArg (· + 1) steps), fun fresh => names _ ?_⟩, timer, fsu, svu⟩
        show _ ∈ (if _ then _ else _)
        rw [if_neg (by simpa using fresh)]
        exact List.mem_append_right _ (List.mem_singleton.mpr rfl)

end Sys2Proof.Machine
end

section
/-! The amendment and the release of a hold (R22, R30 to R35, R48 to R50, R126). -/

namespace Sys2Proof.Machine

/-! ### A conditional request (R48, R49) -/

section
variable {c : Instr} {p : Port} {r : Request} {s t : State} {d : Completion}

/-- A request that may be conditional: its port's register is emptied before the response where it is. -/
theorem exec_conditional (hc : asRequest c = some (p, r)) (hs : s.ready p) (hp : p = .maintenance → controllerOnly r = false)
    (moves : isReading r = false) (hd : (s.taking p).carryOut p r = (t, d)) :
    exec c s = .next (State.answer (if isConditional r then t.dropReservation p else t) p (requestCode r) d.code d.data).arbitrate := by
  rw [exec_ready hc hs hp, hd]
  simp only [State.finishRequest, moves, Bool.false_eq_true, if_false, State.respond_eq_answer]

theorem exec_conditional_unmoved (hc : asRequest c = some (p, r)) (hs : s.ready p) (hp : p = .maintenance → controllerOnly r = false)
    (moves : isReading r = false) (hd : (s.taking p).carryOut p r = (s.taking p, d)) :
    exec c s = .next (State.answer (if isConditional r then s.setPort p { s.port p with reservation := none } else s) p
      (requestCode r) d.code d.data).arbitrate := by
  rw [exec_conditional hc hs hp moves hd]
  split
  · rw [State.answer_dropReservation]
  · rw [State.answer_taking]

end

theorem State.dropReservation_register (s : State) (p : Port) (q : Port) :
    ((s.dropReservation p).port q).reservation = if q = p then none else (s.port q).reservation := by
  by_cases e : q = p
  · rw [e, if_pos rfl]
    exact congrArg PortRecord.reservation (State.port_setPort_same _ _ _)
  · rw [if_neg e]
    exact congrArg PortRecord.reservation (State.port_setPort_other _ _ e)

/-- A register emptied leaves the notices and takes no reservation. -/
theorem State.dropReservation_noticed {s : State} {n : Notice} (h : s.noticed n) (p : Port) : (s.dropReservation p).noticed n := by
  obtain ⟨controller, maintenance⟩ := h
  cases p
  · exact ⟨controller, maintenance⟩
  · exact ⟨controller, maintenance⟩

/-! ### What an amendment changes (R30, R31, R33) -/

/-- A carried expiry change with the minute the hold already has, or the removal of none, dropped (R30). -/
def expiryAgainst (e : ExpiryChange) (old : Option Minute) : ExpiryChange :=
  match e with
  | .give m => if old = some m then .keep else .give m
  | .remove => if old.isNone then .keep else .remove
  | .keep => .keep

theorem AmendChanges.against_eq (c : AmendChanges) (r : Hold) : c.against r =
    { expiry := expiryAgainst c.expiry r.expiry
      strength := if c.strength = some r.strength then none else c.strength
      scope := if c.scope = some r.scope then none else c.scope
      kind := if c.kind = some r.kind then none else c.kind } := rfl

theorem expiryAgainst_keep (e : ExpiryChange) (old : Option Minute) :
    expiryAgainst e old = .keep ↔ (∀ m, e = .give m → old = some m) ∧ (e = .remove → old = none) := by
  cases e <;> simp [expiryAgainst]

theorem dropSame_none {α : Type} [DecidableEq α] (o : Option α) (v : α) :
    (if o = some v then none else o) = none ↔ ∀ g, o = some g → g = v := by
  cases o <;> simp

/-- No carried value differs from the hold's. -/
theorem AmendChanges.against_isEmpty (c : AmendChanges) (r : Hold) : (c.against r).isEmpty = true ↔
    (∀ m, c.expiry = .give m → r.expiry = some m) ∧ (c.expiry = .remove → r.expiry = none)
      ∧ (∀ g, c.strength = some g → g = r.strength) ∧ (∀ z, c.scope = some z → z = r.scope)
      ∧ (∀ x, c.kind = some x → x = r.kind) := by
  simp only [AmendChanges.isEmpty, AmendChanges.against_eq, beq_iff_eq, AmendChanges.mk.injEq, dropSame_none,
    expiryAgainst_keep, and_assoc]

/-- A value dropped because it is the one there is is the one there is. -/
theorem dropSame_getD {α : Type} [DecidableEq α] (o : Option α) (v : α) :
    (if o = some v then none else o).getD v = o.getD v := by
  cases o with
  | none => rfl
  | some g => by_cases e : g = v <;> simp [e]

/-- The owner tag of an amended hold (R31). -/
def Hold.amendedTag (r : Hold) (strength : Strength) (tag : Option OwnerTag) : Option OwnerTag :=
  if strength = .plain then r.tag else match r.tag with | some g => some g | none => tag

/-- The hold as amended (R33). -/
def Hold.amended (r : Hold) (c : AmendChanges) (tag : Option OwnerTag) : Hold :=
  { r with
    kind := c.kind.getD r.kind
    strength := c.strength.getD r.strength
    scope := c.scope.getD r.scope
    expiry := if c.strength.getD r.strength = .pinned then none else match c.expiry with
      | .give m => some m | .remove => none | .keep => r.expiry
    tag := r.amendedTag (c.strength.getD r.strength) tag
    version := r.version + 1 }

/-- Check 6 of R32: the owner tag settled, and the expiry minute allowed. -/
def Hold.fits (r : Hold) (c : AmendChanges) (tag : Option OwnerTag) (now : Minute) : Prop :=
  (c.strength.getD r.strength = .owned → (r.amendedTag (c.strength.getD r.strength) tag).isSome = true)
    ∧ (∀ m, c.expiry = .give m → r.expiry ≠ some m → c.strength.getD r.strength ≠ .pinned ∧ now < m)

/-- The amended hold with each carried value chosen by cases. -/
theorem Hold.amended_eq (r : Hold) (c : AmendChanges) (tag : Option OwnerTag) :
    let strength := match c.strength with | some g => g | none => r.strength
    r.amended c tag = { r with
      kind := match c.kind with | some x => x | none => r.kind
      strength := strength
      scope := match c.scope with | some z => z | none => r.scope
      expiry := if strength = .pinned then none else match c.expiry with
        | .give m => some m | .remove => none | .keep => r.expiry
      tag := if strength = .plain then r.tag else match r.tag with | some g => some g | none => tag
      version := r.version + 1 } := by
  obtain ⟨expiry, strength, scope, kind⟩ := c
  cases strength <;> cases scope <;> cases kind <;> rfl

theorem Hold.fits_eq (r : Hold) (c : AmendChanges) (tag : Option OwnerTag) (now : Minute) :
    let strength := match c.strength with | some g => g | none => r.strength
    r.fits c tag now ↔ (strength = .owned → (if strength = .plain then r.tag else
        match r.tag with | some g => some g | none => tag).isSome = true)
      ∧ (∀ m, c.expiry = .give m → r.expiry ≠ some m → strength ≠ .pinned ∧ now < m) := by
  obtain ⟨expiry, strength, scope, kind⟩ := c
  cases strength <;> exact Iff.rfl

theorem settleTag_eq (r : Hold) (strength : Strength) (tag : Option OwnerTag) : settleTag strength r.tag tag =
    if strength = .owned ∧ r.amendedTag strength tag = none then none else some (r.amendedTag strength tag) := by
  cases strength <;> cases e : r.tag <;> cases tag <;> simp [settleTag, Hold.amendedTag, e]

theorem settleTag_fits {r : Hold} {c : AmendChanges} {tag : Option OwnerTag} {now : Minute} (h : r.fits c tag now) :
    settleTag (c.strength.getD r.strength) r.tag tag = some (r.amendedTag (c.strength.getD r.strength) tag) := by
  obtain ⟨owner, -⟩ := h
  rw [settleTag_eq, if_neg]
  rintro ⟨owned, none_⟩
  have := owner owned
  rw [none_] at this
  cases this

/-- The changes applied, where check 6 of R32 allows them. -/
theorem AmendChanges.apply_fits {c : AmendChanges} {r : Hold} {tag : Option OwnerTag} {now : Minute} (h : r.fits c tag now) :
    (c.against r).apply r tag now = some (r.amended c tag) := by
  have settled := settleTag_fits h
  obtain ⟨-, later⟩ := h
  simp only [AmendChanges.apply, AmendChanges.against_eq, dropSame_getD, settled]
  cases expiry : c.expiry with
  | keep => simp [expiryAgainst, Hold.amended, expiry]
  | remove =>
    cases old : r.expiry with
    | none => simp [expiryAgainst, Hold.amended, expiry]
    | some m => simp [expiryAgainst, Hold.amended, expiry]
  | give m =>
    by_cases same : r.expiry = some m
    · simp [expiryAgainst, Hold.amended, expiry, same]
    · obtain ⟨loose, after⟩ := later m expiry same
      have after' : ¬ m.toNat ≤ now.toNat := Nat.not_le.mpr (BitVec.lt_def.mp after)
      simp [expiryAgainst, Hold.amended, expiry, same, loose, after']

theorem AmendChanges.apply_unfit {c : AmendChanges} {r : Hold} {tag : Option OwnerTag} {now : Minute} (h : ¬ r.fits c tag now) :
    (c.against r).apply r tag now = none := by
  simp only [AmendChanges.apply, AmendChanges.against_eq, dropSame_getD, settleTag_eq]
  by_cases owner : c.strength.getD r.strength = .owned ∧ r.amendedTag (c.strength.getD r.strength) tag = none
  · rw [if_pos owner]
  · rw [if_neg owner]
    have tagged : c.strength.getD r.strength = .owned →
        (r.amendedTag (c.strength.getD r.strength) tag).isSome = true := fun owned =>
      Option.isSome_iff_ne_none.mpr fun none_ => owner ⟨owned, none_⟩
    obtain ⟨m, expiry, other, early⟩ : ∃ m, c.expiry = .give m ∧ r.expiry ≠ some m
        ∧ (c.strength.getD r.strength = .pinned ∨ m.toNat ≤ now.toNat) := by
      by_contra all
      refine h ⟨tagged, fun m give other => ?_⟩
      have fine := not_exists.mp all m
      simp only [give, other, ne_eq, not_false_eq_true, true_and, not_or] at fine
      exact ⟨fine.1, BitVec.lt_def.mpr (Nat.not_le.mp fine.2)⟩
    have gives : expiryAgainst c.expiry r.expiry = .give m := by simp [expiryAgainst, expiry, other]
    rw [gives]
    dsimp only
    rw [if_pos]
    simpa using early

/-! ### AMEND HOLD (R32) -/

section
variable {s : State} {b : AmendBody} {i : SlotNo} {r : Hold} {carried : AmendChanges} {res : Option Reservation}

section
variable (handle : b.handle = ⟨i.val, (s.slot i).useCount.toNat⟩) (live : s.holdAt i = some r) (changes : amendChanges? b = some carried)
include handle live changes

theorem State.amendHold_lost (lost : b.conditional = true ∧ res ≠ some (.hold ⟨i, (s.slot i).useCount⟩ r.version)) :
    s.amendHold res b = (s, .refuse .refusedLost) := by
  simp [State.amendHold, handle, handle?_of_handle, changes, State.liveHold_current, live, holdReserved, lost]

variable (held : ¬ (b.conditional = true ∧ res ≠ some (.hold ⟨i, (s.slot i).useCount⟩ r.version)))
include held

theorem State.amendHold_origin (device : r.origin = .fire ∨ r.origin = .system) :
    s.amendHold res b = (s, .refuse .refusedOrigin) := by
  have kept : (b.conditional && !holdReserved res ⟨i, (s.slot i).useCount⟩ r.version) = false := by
    simpa [holdReserved] using held
  rcases device with device | device <;>
    simp [State.amendHold, handle, handle?_of_handle, changes, State.liveHold_current, live, kept, device]

variable (notFire : r.origin ≠ .fire) (notSystem : r.origin ≠ .system)
include notFire notSystem

theorem State.amendHold_unauthorised {code : Code} (relaxes : (carried.against r).relaxes r = true)
    (refused : r.authority b.tag s.lines.lkey = .error code) : s.amendHold res b = (s, .refuse code) := by
  have kept : (b.conditional && !holdReserved res ⟨i, (s.slot i).useCount⟩ r.version) = false := by
    simpa [holdReserved] using held
  simp [State.amendHold, handle, handle?_of_handle, changes, State.liveHold_current, live, kept, notFire, notSystem, relaxes, refused]

variable (authority : (carried.against r).relaxes r = true → r.authority b.tag s.lines.lkey = .ok ())
include authority

theorem State.amendHold_judged : s.amendHold res b =
    if (carried.against r).isEmpty then (s, .already (.amended r.version []))
    else match (carried.against r).apply r b.tag s.svu.minute with
      | none => (s, .refuse .refusedRange)
      | some new => s.amendApplied ⟨i, (s.slot i).useCount⟩ r new (carried.against r) := by
  have kept : (b.conditional && !holdReserved res ⟨i, (s.slot i).useCount⟩ r.version) = false := by
    simpa [holdReserved] using held
  have allowed : (if (carried.against r).relaxes r then r.authority b.tag s.lines.lkey else .ok ()) = .ok () := by
    split
    next relaxes => exact authority relaxes
    next => rfl
  simp [State.amendHold, handle, handle?_of_handle, changes, State.liveHold_current, live, kept, notFire, notSystem, allowed] <;> rfl

end
end

/-- An amendment applied: the hold rewritten in its slot, its reservations lost (R33, R50). -/
theorem State.amendApplied_spec (s : State) (i : SlotNo) (r new : Hold) (c : AmendChanges) :
    ∃ t, s.amendApplied ⟨i, (s.slot i).useCount⟩ r new c =
        (t, .done (.amended new.version (if c.tightens r then allSwitches.filter fun k => (s.runtime k).inFlight.any fun f =>
            f.request.action == .toClose && new.scope.meets (s.reach k)
              && (new.kind == .noClose || f.request.classes.closeKind == .automatic)
          else [])))
      ∧ t.slot i = { s.slot i with hold := some new } ∧ (∀ j, j ≠ i → t.slot j = s.slot j) ∧ t.htu.counts = s.htu.counts
      ∧ t.noticed .hold ∧ (∀ q v, (t.port q).reservation ≠ some (.hold ⟨i, (s.slot i).useCount⟩ v))
      ∧ t.fmu = s.fmu ∧ t.fsu = s.fsu ∧ t.sou = s.sou ∧ t.rcs = s.rcs ∧ t.ehu = s.ehu ∧ t.svu = s.svu := by
  have late := State.tooLate_eq (s := s)
    (t := ((s.setSlot i { s.slot i with hold := some new }).loseHold ⟨i, (s.slot i).useCount⟩).notify .hold) rfl rfl rfl new
  refine ⟨((s.setSlot i { s.slot i with hold := some new }).loseHold ⟨i, (s.slot i).useCount⟩).notify .hold, ?_, ?_, fun j hj => ?_,
    rfl, State.noticed_notify _ _, fun q v named => ?_, rfl, rfl, rfl, rfl, rfl, rfl⟩
  · rw [State.amendApplied]
    dsimp only
    rw [late]
  · exact (State.slot_setSlot s i i _).trans (if_pos rfl)
  · exact (State.slot_setSlot s i j _).trans (if_neg (Ne.symm hj))
  · have lost : (((s.setSlot i { s.slot i with hold := some new }).loseHold ⟨i, (s.slot i).useCount⟩).port q).reservation
        = some (.hold ⟨i, (s.slot i).useCount⟩ v) := by
      rw [← named]
      cases q <;> rfl
    rw [State.loseHold, State.loseReservations_port] at lost
    split at lost
    next => cases lost
    next kept => exact kept (by rw [lost]; simp [Reservation.namesHold])

/-- Settles O24. -/
theorem amendHoldApplies : Obligations.AmendHoldApplies := by
  unfold Obligations.AmendHoldApplies
  intro s p b i r carried hs handle live changes reserved notFire notSystem authority emptied unchanged strength new fits
  have held : ¬ (b.conditional = true ∧ (s.port p).reservation ≠ some (.hold ⟨i, (s.slot i).useCount⟩ r.version)) := fun ⟨h, other⟩ =>
    other (reserved h)
  have same : (carried.against r).isEmpty = true ↔ unchanged := carried.against_isEmpty r
  have new_eq : r.amended carried b.tag = new := r.amended_eq carried b.tag
  have fits_eq : r.fits carried b.tag s.svu.minute ↔ fits := r.fits_eq carried b.tag s.svu.minute
  have judged := State.amendHold_judged (s := s.taking p) (res := ((s.taking p).port p).reservation) handle live changes
    (by rw [State.port_taking]; exact held) notFire notSystem authority
  clear_value new
  refine ⟨fun h => ?_, fun h misfit => ?_, fun h fit => ?_⟩
  · have carriedOut : (s.taking p).carryOut p (.amendHold b) = (s.taking p, .already (.amended r.version [])) :=
      judged.trans (if_pos (same.mpr h))
    exact (exec_conditional_unmoved (c := .amendHold p b) rfl hs (fun _ => rfl) rfl carriedOut :)
  · have carriedOut : (s.taking p).carryOut p (.amendHold b) = (s.taking p, .refuse .refusedRange) := by
      refine judged.trans ((if_neg (mt same.mp h)).trans ?_)
      rw [show (carried.against r).apply r b.tag (s.taking p).svu.minute = none from
        AmendChanges.apply_unfit (mt fits_eq.mp misfit)]
    exact (exec_conditional_unmoved (c := .amendHold p b) rfl hs (fun _ => rfl) rfl carriedOut :)
  · obtain ⟨t, applied, here, other, counts, notice, lost, fmu, fsu, sou, rcs, ehu, svu⟩ :=
      (s.taking p).amendApplied_spec i r new (carried.against r)
    have fitting : (carried.against r).apply r b.tag (s.taking p).svu.minute = some new :=
      (AmendChanges.apply_fits (fits_eq.mpr fit)).trans (congrArg some new_eq)
    rw [if_neg (mt same.mp h), fitting] at judged
    have answered := exec_conditional (c := .amendHold p b) rfl hs (fun _ => rfl) rfl (judged.trans applied)
    refine ⟨_, answered, ?_⟩
    cases cond : b.conditional with
    | false =>
      rw [if_neg (by simp [isConditional, cond])]
      exact ⟨here, other, counts, notice, lost, nofun, fmu, fsu, sou, rcs, ehu, svu⟩
    | true =>
      rw [if_pos (by simp [isConditional, cond])]
      refine ⟨here, other, counts, State.dropReservation_noticed notice p, fun q v => ?_, fun _ => ?_, fmu, fsu, sou, rcs, ehu, svu⟩
      · rw [State.dropReservation_register]
        split
        · nofun
        · exact lost q v
      · rw [State.dropReservation_register, if_pos rfl]

end Sys2Proof.Machine
end

section
/-! The release of a hold and the authority over it (R21, R22, R34, R35, R126, R152). -/

namespace Sys2Proof.Machine

/-! ### What the authority checks see (R22, R30) -/

theorem not_within {a b : ZoneSet} {n : ZoneNo} (inside : a.has n = true) (outside : b.has n = false) : a.within b = false := by
  rw [ZoneSet.within, beq_eq_false_iff_ne]
  intro same
  have bit := congrArg (fun z => BitVec.getLsbD z n.val) same
  simp only [BitVec.getLsbD_and] at bit
  rw [ZoneSet.has] at inside outside
  rw [inside, outside] at bit
  cases bit

/-- A carried value that relaxes the hold is a change, and a relaxing one. -/
theorem AmendChanges.against_relaxes {c : AmendChanges} {r : Hold}
    (h : (∃ g, c.strength = some g ∧ strengthRank g < strengthRank r.strength)
      ∨ (∃ (z : ZoneSet) (n : ZoneNo), c.scope = some z ∧ r.scope.has n = true ∧ z.has n = false)
      ∨ (c.kind = some .noReclose ∧ r.kind = .noClose)) : (c.against r).relaxes r = true := by
  rw [AmendChanges.relaxes, AmendChanges.against_eq]
  dsimp only
  rcases h with ⟨g, carried, lower⟩ | ⟨z, n, carried, inside, outside⟩ | ⟨carried, strict⟩
  · have other : g ≠ r.strength := fun e => Nat.lt_irrefl _ (e ▸ lower)
    simp [carried, other, lower]
  · have other : z ≠ r.scope := fun e => by rw [e, inside] at outside; cases outside
    simp [carried, other, not_within inside outside]
  · simp [carried, strict]

/-- An OWNED hold without its tag, and without the key (R22). -/
theorem Hold.authority_owned {r : Hold} {tag : Option OwnerTag} (owned : r.strength = .owned) (other : tag = none ∨ tag ≠ r.tag) :
    r.authority tag false = .error .refusedNotOwner := by
  rcases other with other | other <;> simp [Hold.authority, owned, other]

theorem Hold.authority_pinned {r : Hold} (pinned : r.strength = .pinned) (tag : Option OwnerTag) :
    r.authority tag false = .error .refusedKey := by
  simp [Hold.authority, pinned]

theorem Hold.authority_ok {r : Hold} {tag : Option OwnerTag} {lkey : Bool}
    (h : r.strength = .plain ∨ (r.strength = .owned ∧ tag.isSome = true ∧ tag = r.tag) ∨ lkey = true) :
    r.authority tag lkey = .ok () := by
  unfold Hold.authority
  rcases h with h | ⟨h, some_, same⟩ | h
  · rw [h]
  · rw [h]
    exact if_pos (by simp [same ▸ some_, same])
  · subst h
    cases r.strength <;> rfl

/-- The authority of a hold of port or HUNT origin decides its release (R34). -/
theorem Hold.releasable_eq {r : Hold} (notFire : r.origin ≠ .fire) (notSystem : r.origin ≠ .system) (tag : Option OwnerTag)
    (lkey : Bool) : r.releasable tag lkey = r.authority tag lkey := by
  unfold Hold.releasable
  cases e : r.origin <;> simp_all

theorem Hold.releasable_device {r : Hold} {lkey : Bool} (h : r.origin = .fire ∨ (r.origin = .system ∧ lkey = false))
    (tag : Option OwnerTag) : r.releasable tag lkey = .error .refusedOrigin := by
  rcases h with h | ⟨h, key⟩ <;> simp [Hold.releasable, *]

theorem Hold.releasable_ok {r : Hold} {tag : Option OwnerTag} {lkey : Bool} (notFire : r.origin ≠ .fire)
    (key : r.origin = .system → lkey = true)
    (h : r.origin ≠ .system → r.strength = .plain ∨ (r.strength = .owned ∧ tag.isSome = true ∧ tag = r.tag) ∨ lkey = true) :
    r.releasable tag lkey = .ok () := by
  by_cases system : r.origin = .system
  · simp [Hold.releasable, system, key system]
  · rw [Hold.releasable_eq notFire system, Hold.authority_ok (h system)]

/-! ### What the operands name (R21) -/

theorem amendChanges?_eq_none {b : AmendBody} (h : b.tag = some 0 ∨ b.strength = some .unnamed ∨ b.kind = some .unnamed
    ∨ (∃ l, b.scope = some l ∧ (l = [] ∨ ∃ z ∈ l, 32 ≤ z))) : amendChanges? b = none := by
  unfold amendChanges?
  split
  next g k strength kind =>
    rcases h with tag | other | other | ⟨l, scope, out⟩
    · simp [tag]
    · rw [(optNamed?_eq_none _).mpr other] at strength
      cases strength
    · rw [(optNamed?_eq_none _).mpr other] at kind
      cases kind
    · simp only [scope, scope?_eq_none out, Option.map_none, ite_self]
  next => rfl

theorem State.findHold_outside (s : State) {f : HandleField} (h : 64 ≤ f.slot ∨ 1024 ≤ f.useCount) :
    s.findHold f = .error .refusedRange := by
  simp only [State.findHold, handle?_eq_none h]

theorem State.findHold_stale {s : State} {i : SlotNo} {u : UseCount} (h : s.holdAt i = none ∨ (s.slot i).useCount ≠ u) :
    s.findHold ⟨i.val, u.toNat⟩ = .error .refusedStale := by
  simp only [State.findHold, handle?_of_handle, State.liveHold_stale h]

theorem State.findHold_live {s : State} {i : SlotNo} {r : Hold} (h : s.holdAt i = some r) :
    s.findHold ⟨i.val, (s.slot i).useCount.toNat⟩ = .ok (⟨i, (s.slot i).useCount⟩, r) := by
  simp only [State.findHold, handle?_of_handle, State.liveHold_current, h]

/-! ### RELEASE HOLD (R34) -/

section
variable {s : State} {b : ReleaseBody} {res : Option Reservation}

theorem State.releaseHold_untagged (tag : b.tag = some 0) : s.releaseHold res b = (s, .refuse .refusedRange) := by
  simp [State.releaseHold, tag]

/-- A tag of 0 apart, the hold named is found first. -/
theorem State.releaseHold_tagged (tag : b.tag ≠ some 0) : s.releaseHold res b = match s.findHold b.handle with
    | .error c => (s, .refuse c)
    | .ok (h, r) =>
      if b.conditional && !holdReserved res h r.version then (s, .refuse .refusedLost)
      else match r.releasable b.tag s.lines.lkey with
        | .error c => (s, .refuse c)
        | .ok () => (s.departHold h.slot, .done (.released (h.useCount + 1))) := by
  exact (if_neg (by simpa using tag)).trans rfl

theorem State.releaseHold_unfound {code : Code} (tag : b.tag ≠ some 0) (unfound : s.findHold b.handle = .error code) :
    s.releaseHold res b = (s, .refuse code) := by
  rw [State.releaseHold_tagged tag, unfound]

variable {h : Handle} {r : Hold} (tag : b.tag ≠ some 0) (found : s.findHold b.handle = .ok (h, r))
include tag found

theorem State.releaseHold_lost (lost : b.conditional = true ∧ res ≠ some (.hold h r.version)) :
    s.releaseHold res b = (s, .refuse .refusedLost) := by
  rw [State.releaseHold_tagged tag, found]
  exact if_pos (by simp [holdReserved, lost])

variable (held : ¬ (b.conditional = true ∧ res ≠ some (.hold h r.version)))
include held

theorem State.releaseHold_judged : s.releaseHold res b = match r.releasable b.tag s.lines.lkey with
    | .error c => (s, .refuse c)
    | .ok () => (s.departHold h.slot, .done (.released (h.useCount + 1))) := by
  have kept : (b.conditional && !holdReserved res h r.version) = false := by
    simpa [holdReserved] using held
  rw [State.releaseHold_tagged tag, found]
  exact if_neg (by simp [kept])

theorem State.releaseHold_refused {code : Code} (refused : r.releasable b.tag s.lines.lkey = .error code) :
    s.releaseHold res b = (s, .refuse code) := by
  rw [State.releaseHold_judged tag found held, refused]

theorem State.releaseHold_released (allowed : r.releasable b.tag s.lines.lkey = .ok ()) :
    s.releaseHold res b = (s.departHold h.slot, .done (.released (h.useCount + 1))) := by
  rw [State.releaseHold_judged tag found held, allowed]

end

/-! ### The refusals of a release and of an amendment, answered -/

section
variable {s : State} {p : Port} {code : Code}

theorem exec_releaseHold_refused {b : ReleaseBody} (hs : s.ready p)
    (h : (s.taking p).releaseHold ((s.taking p).port p).reservation b = (s.taking p, .refuse code)) :
    exec (.releaseHold p b) s = .next (State.arbitrate
      ((if b.conditional then s.setPort p { s.port p with reservation := none } else s).answer p 0x24 code .empty)) :=
  (exec_conditional_unmoved (c := .releaseHold p b) (d := .refuse code) rfl hs (fun _ => rfl) rfl h :)

theorem exec_amendHold_refused {b : AmendBody} (hs : s.ready p)
    (h : (s.taking p).amendHold ((s.taking p).port p).reservation b = (s.taking p, .refuse code)) :
    exec (.amendHold p b) s = .next (State.arbitrate
      ((if b.conditional then s.setPort p { s.port p with reservation := none } else s).answer p 0x23 code .empty)) :=
  (exec_conditional_unmoved (c := .amendHold p b) (d := .refuse code) rfl hs (fun _ => rfl) rfl h :)

end

theorem State.amendHold_range {s : State} {b : AmendBody} {res : Option Reservation}
    (h : handle? b.handle = none ∨ amendChanges? b = none) : s.amendHold res b = (s, .refuse .refusedRange) := by
  unfold State.amendHold
  rcases h with h | h
  · rw [h]
  · rw [h]
    cases handle? b.handle <;> rfl

theorem State.amendHold_stale {s : State} {b : AmendBody} {res : Option Reservation} {c : AmendChanges} {i : SlotNo} {u : UseCount}
    (changes : amendChanges? b = some c) (handle : b.handle = ⟨i.val, u.toNat⟩)
    (stale : s.holdAt i = none ∨ (s.slot i).useCount ≠ u) : s.amendHold res b = (s, .refuse .refusedStale) := by
  simp only [State.amendHold, changes, handle, handle?_of_handle, State.liveHold_stale stale]

/-- Settles O25. -/
theorem holdChangesNeedAuthority : Obligations.HoldChangesNeedAuthority := by
  unfold Obligations.HoldChangesNeedAuthority
  refine ⟨fun s p i r tag cond hs live tagged => ?_, fun s p hs => ?_⟩
  · intro handle emptied lost release released amended sent relaxing
    have found : (s.taking p).findHold handle = .ok (⟨i, (s.slot i).useCount⟩, r) := State.findHold_live (s := s.taking p) live
    have register : ((s.taking p).port p).reservation = (s.port p).reservation := by rw [s.port_taking p]
    have asks : ∀ {code}, (s.taking p).releaseHold (s.port p).reservation ⟨handle, cond, tag⟩ = (s.taking p, .refuse code) →
        released code := fun h => exec_releaseHold_refused hs (by rw [register]; exact h)
    have asksAmend : ∀ {b c code}, sent b c →
        (b.handle = handle → b.conditional = cond → b.tag = tag → amendChanges? b = some c →
          (s.taking p).amendHold (s.port p).reservation b = (s.taking p, .refuse code)) → amended b code := by
      rintro b c code ⟨names, conditional, carries, changes⟩ h
      have refused := exec_amendHold_refused hs ((congrArg (fun q => (s.taking p).amendHold q b) register).trans
        (h names conditional carries changes))
      rw [conditional] at refused
      exact refused
    have unauthorised : ∀ {code}, ¬ lost → r.origin ≠ .fire → r.origin ≠ .system → r.authority tag s.lines.lkey = .error code →
        released code ∧ ∀ b c, sent b c → relaxing c → amended b code := by
      intro code held notFire notSystem refused
      refine ⟨asks ?_, fun b c carried relaxes => asksAmend carried fun names conditional carries changes => ?_⟩
      · exact State.releaseHold_refused tagged found held ((Hold.releasable_eq notFire notSystem _ _).trans refused)
      · exact State.amendHold_unauthorised (s := s.taking p) names live changes (by rw [conditional]; exact held) notFire notSystem
          (AmendChanges.against_relaxes relaxes) (by rw [carries]; exact refused)
    refine ⟨fun gone => ⟨asks (State.releaseHold_lost tagged found gone), fun b c carried => asksAmend carried
      fun names conditional carries changes => State.amendHold_lost (s := s.taking p) names live changes (by rw [conditional]; exact gone)⟩,
      fun held notFire notSystem key => ⟨fun ⟨owned, other⟩ => unauthorised held notFire notSystem ?_,
        fun pinned => unauthorised held notFire notSystem ?_⟩,
      fun held device => asks (State.releaseHold_refused tagged found held (Hold.releasable_device device tag)),
      fun held device b c carried => asksAmend carried fun names conditional carries changes =>
        State.amendHold_origin (s := s.taking p) names live changes (by rw [conditional]; exact held) device⟩
    · rw [key]
      exact Hold.authority_owned owned other
    · rw [key]
      exact Hold.authority_pinned pinned tag
  · intro emptied released amended outside stale
    refine ⟨fun b out => exec_releaseHold_refused hs ?_, fun b tagged gone => exec_releaseHold_refused hs ?_,
      fun b out => exec_amendHold_refused hs ?_, fun b c changes gone => exec_amendHold_refused hs ?_⟩
    · by_cases tagged : b.tag = some 0
      · exact State.releaseHold_untagged tagged
      · refine State.releaseHold_unfound tagged (State.findHold_outside _ ?_)
        rcases out with h | h | h
        · exact .inl h
        · exact .inr h
        · exact absurd h tagged
    · obtain ⟨i, u, names, gone⟩ := gone
      refine State.releaseHold_unfound tagged ?_
      rw [names]
      exact State.findHold_stale (s := s.taking p) gone
    · refine State.amendHold_range ?_
      rcases out with (h | h | h) | h | h | h
      · exact .inl (handle?_eq_none (.inl h))
      · exact .inl (handle?_eq_none (.inr h))
      · exact .inr (amendChanges?_eq_none (.inl h))
      · exact .inr (amendChanges?_eq_none (.inr (.inl h)))
      · exact .inr (amendChanges?_eq_none (.inr (.inr (.inl h))))
      · exact .inr (amendChanges?_eq_none (.inr (.inr (.inr h))))
    · obtain ⟨i, u, names, gone⟩ := gone
      exact State.amendHold_stale (s := s.taking p) changes names gone

/-! ### The departure of a hold (R35, R126, R152) -/

/-- A start attempt leaves the other records alone, and sets no notice but HUNT. -/
theorem State.attemptStart_frame (s : State) : s.attemptStart.others = s.others ∧ s.attemptStart.rcs = s.rcs
    ∧ (s.attemptStart.rqi = s.rqi ∨ s.attemptStart.rqi = (s.notify .hunt).rqi) := by
  have failed : ∀ r, (s.attemptFailed r).others = s.others ∧ (s.attemptFailed r).rcs = s.rcs
      ∧ ((s.attemptFailed r).rqi = s.rqi ∨ (s.attemptFailed r).rqi = (s.notify .hunt).rqi) := fun r => by
    unfold State.attemptFailed
    split
    · exact ⟨rfl, rfl, .inl rfl⟩
    · exact ⟨rfl, rfl, .inr rfl⟩
  unfold State.attemptStart
  split
  · exact ⟨(s.startCase_frame _ _).1, (s.startCase_frame _ _).2, .inr (State.enterLocating_polled _).2.2.1⟩
  · exact failed _
  · exact failed _

/-- A start attempt does what R126 states. -/
theorem State.attemptStart_follows (s : State) : s.attemptFollows s.attemptStart s.htu.counts.hunt := by
  have fits := s.headFit_iff
  refine ⟨fun ⟨mode, idle, head⟩ room => ?_, fun refused => ?_⟩
  · have started : s.attemptStart = s.startCase .auto s.ehu.params.essential := by
      rw [State.attemptStart, State.startChecks_pass mode idle (fits.mpr head) room]
    rw [started, State.startCase_ehu]
    exact ⟨rfl, rfl, rfl, rfl, rfl, rfl, State.startCase_noticed _ _ _⟩
  · have failed : ∀ r, (s.attemptFailed r).sou = s.sou
        ∧ (s.attemptFailed r).ehu.watch = { s.ehu.watch with lastRefusal := some r }
        ∧ (s.attemptFailed r).ehu.huntCase = { s.ehu.huntCase with startDeferred := r == .full }
        ∧ (s.ehu.watch.lastRefusal ≠ some r → (s.attemptFailed r).noticed .hunt) := fun r => by
      unfold State.attemptFailed
      split
      next same => exact ⟨rfl, rfl, rfl, fun other => absurd same other⟩
      next => exact ⟨rfl, rfl, rfl, fun _ => State.noticed_notify _ _⟩
    by_cases due : s.fmu.mode = .service ∧ s.ehu.huntCase.state = .idle ∧ s.headFit = true
    · have due' := due
      obtain ⟨mode, idle, head⟩ := due'
      rw [fits] at due
      have attempt : s.attemptStart = s.attemptFailed .full := by
        rw [State.attemptStart, State.startChecks_full mode idle head (refused due)]
      rw [attempt]
      exact ⟨.full, iff_of_true rfl due, failed .full⟩
    · obtain ⟨c, fails, other⟩ := State.startChecks_undue due
      have attempt : s.attemptStart = s.attemptFailed .state := by
        rw [State.attemptStart, fails]
        cases c <;> first | exact absurd rfl other | rfl
      rw [attempt]
      rw [fits] at due
      exact ⟨.state, iff_of_false nofun due, failed .state⟩

/-- R126 looks at the FMU's, the SOU's, the EHU's and the SVU's records alone, and at the HUNT notice. -/
theorem State.attemptFollows_congr {s s' t t' : State} {n : Nat} (h : s.attemptFollows t n) (fmu : s'.fmu = s.fmu) (sou : s'.sou = s.sou)
    (ehu : s'.ehu = s.ehu) (svu : s'.svu = s.svu) (sou' : t'.sou = t.sou) (ehu' : t'.ehu = t.ehu)
    (notice : t.noticed .hunt → t'.noticed .hunt) : s'.attemptFollows t' n := by
  obtain ⟨starts, refused⟩ := h
  have config : s'.config 0 = s.config 0 := State.config_congr fmu 0
  have runtime : s'.runtime 0 = s.runtime 0 := State.runtime_congr sou 0
  unfold State.attemptFollows
  rw [fmu, sou, ehu, svu, sou', ehu', config, runtime]
  refine ⟨fun due room => ?_, fun full => ?_⟩
  · obtain ⟨state, origin, handle, essential, minute, watch, noticed⟩ := starts due room
    exact ⟨state, origin, handle, essential, minute, watch, notice noticed⟩
  · obtain ⟨r, whole, polls, watch, deferred, noticed⟩ := refused full
    exact ⟨r, whole, polls, watch, deferred, fun other => notice (noticed other)⟩

/-- The owner's handle dropped leaves every record alone but the FSU's of a FIRE hold and the EHU's of a HUNT hold. -/
theorem State.dropHandle_frame (s : State) (o : Origin) (h : Handle) (notFire : o ≠ .fire) :
    (s.dropHandle o h).others = s.others ∧ (s.dropHandle o h).rcs = s.rcs ∧ (s.dropHandle o h).sou = s.sou
      ∧ (o ≠ .hunt → (s.dropHandle o h).ehu = s.ehu)
      ∧ (o = .hunt → (s.dropHandle o h).ehu = { s.ehu with huntCase := { s.ehu.huntCase with
          holdHandle := if s.ehu.huntCase.holdHandle = some h then none else s.ehu.huntCase.holdHandle } }) := by
  cases o with
  | fire => exact absurd rfl notFire
  | controller => exact ⟨rfl, rfl, rfl, fun _ => rfl, nofun⟩
  | maintenance => exact ⟨rfl, rfl, rfl, fun _ => rfl, nofun⟩
  | system => exact ⟨rfl, rfl, rfl, fun _ => rfl, nofun⟩
  | hunt =>
    unfold State.dropHandle
    dsimp only
    split
    next => exact ⟨rfl, rfl, rfl, fun h => absurd rfl h, fun _ => rfl⟩
    next => exact ⟨rfl, rfl, rfl, fun h => absurd rfl h, fun _ => rfl⟩

/-- Whether R126 has a watch attempt the start it deferred. -/
def State.startDue (s : State) : Prop :=
  s.ehu.watch.state = .watching ∧ s.ehu.watch.confirmed = true ∧ s.ehu.params.autoStart = true

theorem State.retryStart_due {s : State} (h : s.startDue) : s.retryStart = s.attemptStart := by
  obtain ⟨watching, confirmed, auto⟩ := h
  simp [State.retryStart, watching, confirmed, auto]

theorem State.retryStart_undue {s : State} (h : ¬ s.startDue) : s.retryStart = s := by
  refine if_neg fun due => h ?_
  simpa [State.startDue, and_assoc] using due

/-- The case without the handle of a hold that has departed (R152). -/
def State.caseDropped (s : State) (h : Handle) : State :=
  { s with ehu.huntCase.holdHandle := if s.ehu.huntCase.holdHandle = some h then none else s.ehu.huntCase.holdHandle }

/-- The departure of a live hold that no district owns (R35, R50). -/
theorem State.departHold_spec {s : State} {i : SlotNo} {r : Hold} (live : s.holdAt i = some r) (notFire : r.origin ≠ .fire) :
    (s.departHold i).slot i = ⟨none, (s.slot i).useCount + 1⟩ ∧ (∀ j, j ≠ i → (s.departHold i).slot j = s.slot j)
      ∧ (s.departHold i).htu.counts = s.htu.counts.modify (· - 1) r.origin ∧ (s.departHold i).noticed .hold
      ∧ (∀ q v, ((s.departHold i).port q).reservation ≠ some (.hold ⟨i, (s.slot i).useCount⟩ v))
      ∧ (s.departHold i).fmu = s.fmu ∧ (s.departHold i).fsu = s.fsu ∧ (s.departHold i).rcs = s.rcs
      ∧ (s.departHold i).svu = s.svu
      ∧ (r.origin ≠ .hunt → (s.departHold i).sou = s.sou ∧ (s.departHold i).ehu = s.ehu)
      ∧ (r.origin = .hunt →
          (s.startDue → (s.caseDropped ⟨i, (s.slot i).useCount⟩).attemptFollows (s.departHold i) (s.htu.counts.hunt - 1))
          ∧ (¬ s.startDue → (s.departHold i).sou = s.sou
              ∧ (s.departHold i).ehu = (s.caseDropped ⟨i, (s.slot i).useCount⟩).ehu)) := by
  obtain ⟨others, rcs, sou, plain, hunt⟩ := State.dropHandle_frame
    { s.emptied i with htu.counts := (s.emptied i).htu.counts.modify (· - 1) r.origin } r.origin ⟨i, (s.slot i).useCount⟩ notFire
  have slots := s.vacate_slot i
  have counts := State.vacate_counts live
  have noticed := s.vacate_noticed i
  have lost := s.vacate_reservation i
  rw [← State.vacate_live live] at others rcs sou plain hunt
  have departs : s.departHold i = (s.vacate i).reportDeparture r.origin := by rw [State.departHold, live]
  rw [departs]
  generalize s.vacate i = v at *
  simp only [State.others, Prod.mk.injEq] at others
  obtain ⟨-, -, -, fmu, -, fsu, svu⟩ := others
  have here : v.slot i = ⟨none, (s.slot i).useCount + 1⟩ := (slots i).trans (if_pos rfl)
  have other : ∀ j, j ≠ i → v.slot j = s.slot j := fun j hj => (slots j).trans (if_neg (Ne.symm hj))
  by_cases own : r.origin = .hunt
  · have ehu : v.ehu = (s.caseDropped ⟨i, (s.slot i).useCount⟩).ehu := hunt own
    have due : v.startDue ↔ s.startDue := by rw [State.startDue, ehu]; rfl
    rw [State.reportDeparture, if_pos (by simp [own])]
    by_cases h : s.startDue
    · rw [State.retryStart_due (due.mpr h)]
      obtain ⟨others, same, rqi⟩ := v.attemptStart_frame
      have hunts : v.htu.counts.hunt = s.htu.counts.hunt - 1 := by rw [counts, own]; rfl
      have follows := v.attemptStart_follows
      rw [hunts] at follows
      simp only [State.others, Prod.mk.injEq] at others
      obtain ⟨-, -, -, fmu', htu, fsu', svu'⟩ := others
      refine ⟨(State.slot_congr htu i).trans here, fun j hj => (State.slot_congr htu j).trans (other j hj),
        (congrArg Htu.counts htu).trans counts, ?_, fun q w => ?_, fmu'.trans fmu, fsu'.trans fsu, same.trans rcs, svu'.trans svu,
        fun no => absurd own no, fun _ => ⟨fun _ => State.attemptFollows_congr follows fmu.symm sou.symm ehu.symm svu.symm rfl rfl id,
          fun no => absurd h no⟩⟩
      · rcases rqi with rqi | rqi
        · exact State.noticed_of_rqi rqi noticed
        · exact State.noticed_of_rqi rqi (State.noticed_kept _ _ _ noticed)
      · have kept : (v.attemptStart.port q).reservation = (v.port q).reservation := by
          rcases rqi with rqi | rqi <;> cases q <;> simp only [State.port, rqi] <;> rfl
        rw [kept]
        exact lost q w
    · rw [State.retryStart_undue (mt due.mp h)]
      exact ⟨here, other, counts, noticed, lost, fmu, fsu, rcs, svu, fun no => absurd own no, fun _ => ⟨fun yes => absurd yes h,
        fun _ => ⟨sou, ehu⟩⟩⟩
  · rw [State.reportDeparture, if_neg (by simp [own])]
    exact ⟨here, other, counts, noticed, lost, fmu, fsu, rcs, svu, fun no => ⟨sou, plain no⟩, fun yes => absurd yes own⟩

/-- Settles O26. -/
theorem releaseHoldReleases : Obligations.ReleaseHoldReleases := by
  unfold Obligations.ReleaseHoldReleases
  intro s p b i r hs names live tagged reserved notFire key authority
  have found : (s.taking p).findHold b.handle = .ok (⟨i, (s.slot i).useCount⟩, r) := by
    rw [names]
    exact State.findHold_live (s := s.taking p) live
  have held : ¬ (b.conditional = true
      ∧ ((s.taking p).port p).reservation ≠ some (.hold ⟨i, (s.slot i).useCount⟩ r.version)) := by
    rw [s.port_taking p]
    exact fun ⟨h, other⟩ => other (reserved h)
  have carriedOut : (s.taking p).carryOut p (.releaseHold b)
      = ((s.taking p).departHold i, .done (.released ((s.slot i).useCount + 1))) :=
    State.releaseHold_released tagged found held (Hold.releasable_ok notFire key authority)
  have answered := exec_conditional (c := .releaseHold p b) rfl hs (fun _ => rfl) rfl carriedOut
  obtain ⟨here, other, counts, notice, lost, fmu, fsu, rcs, svu, plain, hunt⟩ :=
    State.departHold_spec (s := s.taking p) live notFire
  generalize (s.taking p).departHold i = t at *
  refine ⟨_, answered, ?_⟩
  cases cond : b.conditional with
  | false =>
    rw [if_neg (by simp [isConditional, cond])]
    exact ⟨here, other, counts, notice, lost, nofun, fmu, fsu, rcs, svu, plain, fun own => ⟨fun due =>
      State.attemptFollows_congr ((hunt own).1 due) rfl rfl rfl rfl rfl rfl id, (hunt own).2⟩⟩
  | true =>
    rw [if_pos (by simp [isConditional, cond])]
    refine ⟨here, other, counts, State.dropReservation_noticed notice p, fun q v => ?_, fun _ => ?_, fmu, fsu, rcs, svu, plain,
      fun own => ⟨fun due => State.attemptFollows_congr ((hunt own).1 due) rfl rfl rfl rfl rfl rfl
        fun h => State.dropReservation_noticed h p, (hunt own).2⟩⟩
    · rw [State.dropReservation_register]
      split
      · nofun
      · exact lost q v
    · rw [State.dropReservation_register, if_pos rfl]

end Sys2Proof.Machine
end

section
/-! The time base, and the holds that end with it (R37, R38, R163 to R165). -/

namespace Sys2Proof.Machine

/-! ### What departures leave alone -/

/-- The records that no departure of a hold touches, and the notices, which it does not take away. -/
def State.Departed (s t : State) : Prop :=
  t.fmu = s.fmu ∧ t.rcs = s.rcs ∧ t.view = s.view ∧ ∀ n, s.noticed n → t.noticed n

theorem State.Departed.refl (s : State) : s.Departed s := ⟨rfl, rfl, rfl, fun _ h => h⟩

theorem State.Departed.trans {s t u : State} (a : s.Departed t) (b : t.Departed u) : s.Departed u := by
  obtain ⟨fmu, rcs, view, notices⟩ := a
  obtain ⟨fmu', rcs', view', notices'⟩ := b
  exact ⟨fmu'.trans fmu, rcs'.trans rcs, view'.trans view, fun n h => notices' n (notices n h)⟩

theorem State.notify_departed (s : State) (n : Notice) : s.Departed (s.notify n) :=
  ⟨rfl, rfl, State.notify_view s n, fun m h => State.noticed_kept s m n h⟩

theorem State.loseReservations_noticed {s : State} {n : Notice} (h : s.noticed n) (test : Reservation → Bool) :
    (s.loseReservations test).noticed n := by
  have notices : ∀ p, ((s.loseReservations test).port p).notices = (s.port p).notices := fun p => by
    rw [State.loseReservations_port]
    split
    · rfl
    · rfl
  obtain ⟨controller, maintenance⟩ := h
  exact ⟨(congrArg (·.has n) (notices .controller)).trans controller,
    (congrArg (·.has n) (notices .maintenance)).trans maintenance⟩

theorem State.vacate_departed (s : State) (i : SlotNo) : s.Departed (s.vacate i) ∧ (s.vacate i).svu = s.svu := by
  have notices : ∀ n, s.noticed n → (s.emptied i).noticed n := fun n h =>
    State.noticed_kept _ n .hold (State.loseReservations_noticed (s := s.setSlot i ⟨none, (s.slot i).useCount + 1⟩) h _)
  have fmu : ∀ (u : State) (o : Origin) (h : Handle), (u.dropHandle o h).fmu = u.fmu ∧ (u.dropHandle o h).svu = u.svu := by
    intro u o h
    unfold State.dropHandle
    split
    · exact ⟨rfl, rfl⟩
    · split
      · exact ⟨rfl, rfl⟩
      · exact ⟨rfl, rfl⟩
    · exact ⟨rfl, rfl⟩
  cases live : s.holdAt i with
  | none =>
    refine ⟨⟨?_, State.vacate_rcs s i, State.vacate_view s i, ?_⟩, ?_⟩
    · rw [State.vacate_empty live]; rfl
    · rw [State.vacate_empty live]; exact notices
    · rw [State.vacate_empty live]; rfl
  | some r =>
    refine ⟨⟨?_, State.vacate_rcs s i, State.vacate_view s i, fun n h => ?_⟩, ?_⟩
    · rw [State.vacate_live live, (fmu _ _ _).1]; rfl
    · rw [State.vacate_live live]
      exact State.noticed_of_rqi (State.dropHandle_rqi _ _ _) (notices n h)
    · rw [State.vacate_live live, (fmu _ _ _).2]; rfl

/-- The report of a departure to the EHU leaves the hold table alone too. -/
theorem State.reportDeparture_departed (s : State) (o : Origin) : s.Departed (s.reportDeparture o)
    ∧ (s.reportDeparture o).svu = s.svu ∧ (s.reportDeparture o).htu = s.htu := by
  have attempt : s.Departed s.attemptStart ∧ s.attemptStart.svu = s.svu ∧ s.attemptStart.htu = s.htu := by
    obtain ⟨others, rcs, rqi⟩ := s.attemptStart_frame
    have view := State.attemptStart_view s
    simp only [State.others, Prod.mk.injEq] at others
    obtain ⟨-, -, -, fmu, htu, -, svu⟩ := others
    refine ⟨⟨fmu, rcs, view, fun n h => ?_⟩, svu, htu⟩
    rcases rqi with rqi | rqi
    · exact State.noticed_of_rqi rqi h
    · exact State.noticed_of_rqi rqi (State.noticed_kept _ _ _ h)
  unfold State.reportDeparture State.retryStart
  dsimp only
  split
  · split
    · exact attempt
    · exact ⟨.refl s, rfl, rfl⟩
  · exact ⟨.refl s, rfl, rfl⟩

theorem State.departHold_departed (s : State) (i : SlotNo) : s.Departed (s.departHold i) ∧ (s.departHold i).svu = s.svu := by
  unfold State.departHold
  cases s.holdAt i with
  | none => exact ⟨.refl s, rfl⟩
  | some r =>
    obtain ⟨left, svu⟩ := s.vacate_departed i
    obtain ⟨told, svu', -⟩ := (s.vacate i).reportDeparture_departed r.origin
    exact ⟨left.trans told, svu'.trans svu⟩

/-- A departure empties the one slot where a hold is live. -/
theorem State.departHold_slot (s : State) (i j : SlotNo) : (s.departHold i).slot j =
    if j = i ∧ (s.holdAt i).isSome = true then ⟨none, (s.slot i).useCount + 1⟩ else s.slot j := by
  unfold State.departHold
  cases live : s.holdAt i with
  | none => simp
  | some r =>
    obtain ⟨-, -, htu⟩ := (s.vacate i).reportDeparture_departed r.origin
    dsimp only
    rw [State.slot_congr htu j, State.vacate_slot]
    simp only [Option.isSome_some, and_true, eq_comm (a := j)]

theorem foldl_departHold_departed (l : List SlotNo) (s : State) : s.Departed (l.foldl State.departHold s)
    ∧ (l.foldl State.departHold s).svu = s.svu := by
  induction l generalizing s with
  | nil => exact ⟨.refl s, rfl⟩
  | cons i l ih =>
    obtain ⟨left, svu⟩ := s.departHold_departed i
    obtain ⟨rest, svu'⟩ := ih (s.departHold i)
    exact ⟨left.trans rest, svu'.trans svu⟩

theorem foldl_departHold_slot {l : List SlotNo} (distinct : l.Nodup) (s : State) (j : SlotNo) :
    (l.foldl State.departHold s).slot j =
      if j ∈ l ∧ (s.holdAt j).isSome = true then ⟨none, (s.slot j).useCount + 1⟩ else s.slot j := by
  induction l generalizing s with
  | nil => simp
  | cons i l ih =>
    obtain ⟨fresh, distinct⟩ := List.nodup_cons.mp distinct
    rw [List.foldl_cons, ih distinct, State.holdAt, State.departHold_slot]
    by_cases e : j = i
    · subst e
      simp [fresh]
    · simp [e, State.holdAt]

/-- The slots as the owed expiries leave them (R37). -/
def State.expiredAt (s t : State) (m : Nat) : Prop := ∀ i, t.slot i =
  if (s.holdAt i).any (fun h => h.expiry.any fun e => e.toNat ≤ m) then ⟨none, (s.slot i).useCount + 1⟩ else s.slot i

theorem State.expireHolds_departed (s : State) : s.Departed s.expireHolds ∧ s.expireHolds.svu = s.svu :=
  foldl_departHold_departed _ s

theorem State.expireHolds_expired (s : State) : s.expiredAt s.expireHolds s.svu.minute.toNat := by
  intro i
  have distinct : s.expiredSlots.Nodup := List.Nodup.filter _ (List.nodup_finRange 64)
  rw [State.expireHolds, foldl_departHold_slot distinct]
  have due : i ∈ s.expiredSlots ↔ (s.holdAt i).any (fun h => h.expiry.any fun m => m.toNat ≤ s.svu.minute.toNat) = true := by
    simp [State.expiredSlots, State.slotsWhere, mem_allSlots]
  simp only [due]
  cases s.holdAt i <;> simp

/-! ### A change of the time state (R164) -/

theorem State.setTimeState_same {s : State} {t : TimeState} (h : s.svu.halted = true ∨ s.svu.timeState = t) : s.setTimeState t = s := by
  unfold State.setTimeState
  rw [if_pos]
  simpa using h

theorem State.setTimeState_moves {s : State} {t : TimeState} (working : s.svu.halted = false) (other : s.svu.timeState ≠ t) :
    s.setTimeState t = if t = .good then (State.notify { s with svu.timeState := t } .time).expireHolds
      else State.notify { s with svu.timeState := t } .time := by
  unfold State.setTimeState
  rw [if_neg]
  simp [working, other]

theorem State.setTimeState_spec (s : State) (t : TimeState) : s.Departed (s.setTimeState t)
    ∧ (s.setTimeState t).svu = { s.svu with timeState := if s.svu.halted then s.svu.timeState else t }
    ∧ ((s.setTimeState t).svu.timeState ≠ s.svu.timeState → (s.setTimeState t).noticed .time) := by
  by_cases same : s.svu.halted = true ∨ s.svu.timeState = t
  · rw [State.setTimeState_same same]
    refine ⟨.refl s, ?_, fun h => absurd rfl h⟩
    rcases same with halted | same
    · rw [if_pos halted]
    · rw [← same, ite_self]
  · obtain ⟨working, other⟩ := not_or.mp same
    have working : s.svu.halted = false := by simpa using working
    rw [State.setTimeState_moves working other, if_neg (show ¬ s.svu.halted = true by simp [working])]
    have told : s.Departed (State.notify { s with svu.timeState := t } .time) :=
      State.Departed.trans (t := { s with svu.timeState := t }) ⟨rfl, rfl, rfl, fun _ h => h⟩ (State.notify_departed _ _)
    obtain ⟨left, svu⟩ := (State.notify { s with svu.timeState := t } .time).expireHolds_departed
    split
    · exact ⟨told.trans left, svu, fun _ => left.2.2.2 _ (State.noticed_notify _ _)⟩
    · exact ⟨told, rfl, fun _ => State.noticed_notify _ _⟩

/-- Where the time state goes to another than GOOD, no hold ends. -/
theorem State.setTimeState_htu {s : State} {t : TimeState} (h : t ≠ .good) : (s.setTimeState t).htu = s.htu := by
  unfold State.setTimeState
  split
  · rfl
  · simp only [State.notify_htu]

/-- GOOD begins: the owed expiries. -/
theorem State.setTimeState_good {s : State} (working : s.svu.halted = false) (other : s.svu.timeState ≠ .good) :
    s.expiredAt (s.setTimeState .good) s.svu.minute.toNat := by
  rw [State.setTimeState_moves working other, if_pos rfl]
  exact (State.notify { s with svu.timeState := .good } .time).expireHolds_expired

/-! ### A second counted (R163) -/

/-- The second and the minute after a second is counted. -/
def Svu.counted (v : Svu) : Svu :=
  { v with second := if v.second = 59 then 0 else v.second + 1, minute := if v.second = 59 then v.minute + 1 else v.minute }

/-- A second that ends no hold. -/
theorem State.countSecond_quiet {s : State} (sound : s.svu.badCodes = [])
    (h : s.svu.second ≠ 59 ∨ s.svu.timeState ≠ .good ∨ s.svu.halted = true) : s.countSecond = { s with svu := s.svu.counted } := by
  unfold State.countSecond Svu.counted
  by_cases last : s.svu.second = 59
  · rw [if_pos last, if_pos last, if_pos last]
    have still : ¬ (s.svu.timeState = .good && !s.svu.halted) = true := by
      rcases h with h | h | h
      · exact absurd last h
      · simp [h]
      · simp [h]
    refine (if_neg still).trans ?_
    simp [State.recode, sound]
  · rw [if_neg last, if_neg last, if_neg last]

/-- The minute that begins while the time state is GOOD (R37). -/
theorem State.countSecond_minute {s : State} (sound : s.svu.badCodes = []) (last : s.svu.second = 59)
    (good : s.svu.timeState = .good) (working : s.svu.halted = false) :
    s.countSecond = State.expireHolds { s with svu := s.svu.counted } := by
  unfold State.countSecond Svu.counted
  rw [if_pos last, if_pos last, if_pos last]
  refine (if_pos (by simp [good, working])).trans ?_
  simp [State.recode, sound]

theorem State.countSecond_spec {s : State} (sound : s.svu.badCodes = []) :
    s.Departed s.countSecond ∧ s.countSecond.svu = s.svu.counted := by
  by_cases quiet : s.svu.second ≠ 59 ∨ s.svu.timeState ≠ .good ∨ s.svu.halted = true
  · rw [State.countSecond_quiet sound quiet]
    exact ⟨⟨rfl, rfl, rfl, fun _ h => h⟩, rfl⟩
  · simp only [not_or, ne_eq, Decidable.not_not, Bool.not_eq_true] at quiet
    obtain ⟨last, good, working⟩ := quiet
    rw [State.countSecond_minute sound last good working]
    obtain ⟨left, svu⟩ := State.expireHolds_departed { s with svu := s.svu.counted }
    exact ⟨State.Departed.trans (t := { s with svu := s.svu.counted }) ⟨rfl, rfl, rfl, fun _ h => h⟩ left, svu⟩

/-- What O56 states of a second counted, between the state before and the state after. -/
theorem State.Departed.fields {s t : State} (h : s.Departed t) :
    t.fmu = s.fmu ∧ t.fsu.groups = s.fsu.groups ∧ t.rcs = s.rcs ∧ t.lines = s.lines := by
  obtain ⟨fmu, rcs, view, -⟩ := h
  simp only [State.view, viewOf, Fsu.view, Prod.mk.injEq] at view
  obtain ⟨-, -, lines, groups, -⟩ := view
  exact ⟨fmu, groups, rcs, lines⟩

/-! ### SET TIME (R165) -/

/-- Whether a SET TIME has the owed holds expire: the count rises in GOOD, or GOOD begins (R38). -/
def State.setTimeDue (s : State) (m : Minute) : Bool :=
  if s.svu.timeState = .good then decide (s.svu.minute.toNat < m.toNat) else decide (s.svu.pulseRun = 3)

theorem State.timeSetTo_spec {s : State} (sound : s.svu.badCodes = []) (working : s.svu.halted = false) (m : Minute) :
    s.Departed (s.timeSetTo m)
      ∧ (s.timeSetTo m).svu = { s.svu with
          minute := m, second := 0, timeSet := true, timeState := if s.svu.pulseRun = 3 then .good else s.svu.timeState }
      ∧ ((if s.svu.pulseRun = 3 then TimeState.good else s.svu.timeState) ≠ s.svu.timeState → (s.timeSetTo m).noticed .time)
      ∧ ∀ i, (s.timeSetTo m).slot i =
          if s.setTimeDue m && (s.holdAt i).any (fun h => h.expiry.any fun e => e.toNat ≤ m.toNat) then
            ⟨none, (s.slot i).useCount + 1⟩
          else s.slot i := by
  generalize written : ({ s with svu := { s.svu with minute := m, second := 0, timeSet := true } } : State) = t
  have recoded : State.recode { s with svu.minute := m, svu.second := 0, svu.timeSet := true } .minuteCount = t := by
    rw [← written]
    simp [State.recode, sound]
  have moved : s.Departed t := by rw [← written]; exact ⟨rfl, rfl, rfl, fun _ h => h⟩
  have svu : t.svu = { s.svu with minute := m, second := 0, timeSet := true } := by rw [← written]
  have halted : t.svu.halted = false := by rw [svu]; exact working
  have slots : ∀ i, t.slot i = s.slot i := fun i => by rw [← written]; rfl
  have holds : ∀ i, t.holdAt i = s.holdAt i := fun i => congrArg Slot.hold (slots i)
  rw [State.timeSetTo, recoded, State.setTimeDue]
  dsimp only
  clear written recoded
  by_cases good : s.svu.timeState = .good
  · have same : (if s.svu.pulseRun = 3 then t.setTimeState .good else t) = t := by
      rw [State.setTimeState_same (.inr (by rw [svu]; exact good)), ite_self]
    have unmoved : (if s.svu.pulseRun = 3 then TimeState.good else s.svu.timeState) = s.svu.timeState := by
      rw [good, ite_self]
    rw [same, unmoved, if_pos good]
    refine (fun (h : _ ∧ _ ∧ _) => ⟨h.1, h.2.1, fun no => absurd rfl no, h.2.2⟩) ?_
    by_cases later : s.svu.minute.toNat < m.toNat
    · rw [if_pos (by simp [good, later])]
      obtain ⟨left, kept⟩ := t.expireHolds_departed
      refine ⟨moved.trans left, kept.trans svu, fun i => ?_⟩
      have expired := t.expireHolds_expired i
      rw [svu, holds, slots] at expired
      simpa [later] using expired
    · rw [if_neg (by simp [later])]
      exact ⟨moved, svu, fun i => by simp [later, slots]⟩
  · have still : ¬ (s.svu.timeState = .good && s.svu.minute.toNat < m.toNat) = true := by simp [good]
    rw [if_neg still, if_neg good]
    by_cases run : s.svu.pulseRun = 3
    · simp only [if_pos run]
      have other : t.svu.timeState ≠ .good := by rw [svu]; exact good
      obtain ⟨left, kept, told⟩ := t.setTimeState_spec .good
      refine ⟨moved.trans left, ?_, fun _ => told ?_, fun i => ?_⟩
      · rw [kept, halted, svu]; rfl
      · rw [kept, halted]; exact other.symm
      · have expired := State.setTimeState_good halted other i
        rw [svu, holds, slots] at expired
        simpa [run] using expired
    · simp only [if_neg run]
      exact ⟨moved, svu, fun no => absurd rfl no, fun i => by simp [run, slots]⟩

/-- Settles O57. -/
theorem setTimeSets : Obligations.SetTimeSets := by
  unfold Obligations.SetTimeSets
  intro s n hs
  obtain ⟨-, working, sound⟩ := id hs
  refine ⟨fun high => ?_, fun low => ?_⟩
  · have carried : (s.taking .controller).carryOut .controller (.setTime n) = (s.taking .controller, .refuse .refusedRange) :=
      if_pos high
    exact (exec_unmoved (c := .setTime .controller n) rfl hs nofun rfl rfl carried :)
  · intro state due
    have minute : (BitVec.ofNat 32 n).toNat = n := by
      rw [BitVec.toNat_ofNat]
      exact Nat.mod_eq_of_lt (by omega)
    obtain ⟨left, svu, told, slots⟩ := State.timeSetTo_spec (s := s.taking .controller) sound working (BitVec.ofNat 32 n)
    simp only [State.setTimeDue, minute] at slots
    have carried : (s.taking .controller).carryOut .controller (.setTime n)
        = ((s.taking .controller).timeSetTo (BitVec.ofNat 32 n), .done (.timeAfter (BitVec.ofNat 32 n) state)) := by
      refine (if_neg (Nat.not_lt.mpr low)).trans ?_
      rw [svu]
      rfl
    have answered := exec_answered (c := .setTime .controller n) rfl hs nofun rfl rfl carried
    obtain ⟨fmu, groups, rcs, lines⟩ := left.fields
    exact ⟨_, answered, svu, slots, told, fmu, rcs, groups, lines⟩

/-! ### The pulses and the oscillator (R163, R164) -/

theorem runAfter_steady {source : CountSource} {run : Nat} {gap : Option Nat}
    (h : source = .tref ∧ ∃ g, gap = some g ∧ 900 ≤ g ∧ g ≤ 1100) : runAfter source run gap = min 3 (run + 1) := by
  obtain ⟨rfl, g, rfl, low, high⟩ := h
  exact if_pos (by simp [low, high])

theorem runAfter_unsteady {source : CountSource} {run : Nat} {gap : Option Nat}
    (h : ¬ (source = .tref ∧ ∃ g, gap = some g ∧ 900 ≤ g ∧ g ≤ 1100)) : runAfter source run gap = 0 := by
  cases source with
  | oscillator => rfl
  | tref =>
    cases gap with
    | none => rfl
    | some g =>
      refine if_neg fun within => h ⟨rfl, g, rfl, ?_⟩
      simpa using within

/-- A counted pulse: the second it counts, and the time state it may bring. -/
theorem State.countPulse_eq (s : State) (gap : Option Nat) : s.countPulse gap =
    if runAfter s.svu.source s.svu.pulseRun gap = 3 ∧ s.svu.pulseRun ≠ 3 ∧ s.svu.timeSet = true then
      (State.countSecond { s with svu.source := .tref, svu.pulseRun := runAfter s.svu.source s.svu.pulseRun gap }).setTimeState .good
    else State.countSecond { s with svu.source := .tref, svu.pulseRun := runAfter s.svu.source s.svu.pulseRun gap } := by
  unfold State.countPulse
  simp only [Bool.and_eq_true, decide_eq_true_eq, bne_iff_ne, and_assoc]

/-- What O56 states of every second counted: the counted fields, what stands, and when the hold table stands. -/
structure State.Counted (s t : State) (source : CountSource) (run : Nat) (time : TimeState) : Prop where
  departed : s.Departed t
  svu : t.svu = { s.svu.counted with source := source, pulseRun := run, timeState := time }
  quiet : s.svu.second ≠ 59 → time = s.svu.timeState → t.htu = s.htu ∧ t.rqi = s.rqi ∧ t.ehu = s.ehu ∧ t.sou = s.sou
  held : time ≠ .good ∨ s.svu.halted = true → t.htu = s.htu

/-- A second counted after the source and the run are written. -/
theorem State.countSecond_counted {s : State} (sound : s.svu.badCodes = []) (source : CountSource) (run : Nat) :
    s.Counted (State.countSecond { s with svu.source := source, svu.pulseRun := run }) source run s.svu.timeState := by
  generalize written : ({ s with svu.source := source, svu.pulseRun := run } : State) = u
  have sound' : u.svu.badCodes = [] := by rw [← written]; exact sound
  obtain ⟨left, svu⟩ := State.countSecond_spec sound'
  refine ⟨?_, ?_, fun first _ => ?_, fun still => ?_⟩
  · exact State.Departed.trans (by rw [← written]; exact ⟨rfl, rfl, rfl, fun _ h => h⟩) left
  · rw [svu, ← written]; rfl
  · rw [State.countSecond_quiet sound' (.inl (by rw [← written]; exact first)), ← written]
    exact ⟨rfl, rfl, rfl, rfl⟩
  · rw [State.countSecond_quiet sound' (.inr (by rw [← written]; exact still)), ← written]

theorem State.countPulse_counted {s : State} (sound : s.svu.badCodes = []) (gap : Option Nat) :
    ∃ time, s.Counted (s.countPulse gap) .tref (runAfter s.svu.source s.svu.pulseRun gap) time
      ∧ (s.svu.halted = false → time =
          if runAfter s.svu.source s.svu.pulseRun gap = 3 ∧ s.svu.pulseRun ≠ 3 ∧ s.svu.timeSet = true then .good
          else s.svu.timeState)
      ∧ (time ≠ s.svu.timeState → (s.countPulse gap).noticed .time) := by
  have counted := State.countSecond_counted sound .tref (runAfter s.svu.source s.svu.pulseRun gap)
  rw [State.countPulse_eq]
  generalize State.countSecond { s with svu.source := .tref, svu.pulseRun := runAfter s.svu.source s.svu.pulseRun gap } = u at *
  obtain ⟨left, svu, quiet, held⟩ := counted
  split
  next makes =>
    obtain ⟨moved, told, notice⟩ := u.setTimeState_spec .good
    have state : u.svu.timeState = s.svu.timeState := by rw [svu]
    have halted : u.svu.halted = s.svu.halted := by rw [svu]; rfl
    rw [state, halted] at told
    rw [told] at notice
    refine ⟨if s.svu.halted then s.svu.timeState else .good, ⟨left.trans moved, told.trans (by rw [svu]), fun first same => ?_,
      fun still => ?_⟩, fun working => by rw [working]; rfl, fun other => notice (by rw [state]; exact other)⟩
    · have unmoved : u.setTimeState .good = u := by
        refine State.setTimeState_same ?_
        rw [state, halted]
        cases h : s.svu.halted with
        | true => exact .inl rfl
        | false =>
          rw [h] at same
          exact .inr same.symm
      rw [unmoved]
      exact quiet first rfl
    · cases h : s.svu.halted with
      | true =>
        rw [State.setTimeState_same (.inl (halted.trans h))]
        exact held (.inr h)
      | false =>
        rw [h] at still
        exact absurd still (by simp)
  next => exact ⟨s.svu.timeState, ⟨left, svu, quiet, held⟩, fun _ => rfl, fun other => absurd rfl other⟩

theorem State.losePulses_counted {s : State} (sound : s.svu.badCodes = []) :
    ∃ time, s.Counted s.losePulses .oscillator s.svu.pulseRun time
      ∧ (s.svu.halted = false → time = (if s.svu.timeState = .good then .degraded else s.svu.timeState)
          ∧ (s.svu.timeState = .good → s.losePulses.noticed .time)) := by
  unfold State.losePulses
  dsimp only
  by_cases good : s.svu.timeState = .good
  · rw [if_pos good]
    generalize written : ({ s with svu.source := .oscillator } : State) = u
    obtain ⟨moved, told, notice⟩ := u.setTimeState_spec .degraded
    have state : u.svu.timeState = .good := by rw [← written]; exact good
    have halted : u.svu.halted = s.svu.halted := by rw [← written]
    rw [state, halted] at told
    have sound' : (u.setTimeState .degraded).svu.badCodes = [] := by rw [told, ← written]; exact sound
    have after : (u.setTimeState .degraded).svu.timeState ≠ .good ∨ (u.setTimeState .degraded).svu.halted = true := by
      rw [told]
      cases h : s.svu.halted with
      | true => exact .inr (halted.trans h)
      | false => exact .inl (by simp)
    rw [State.countSecond_quiet sound' (.inr after)]
    have left : s.Departed u := by rw [← written]; exact ⟨rfl, rfl, rfl, fun _ h => h⟩
    refine ⟨if s.svu.halted then .good else .degraded, ⟨(left.trans moved).trans ⟨rfl, rfl, rfl, fun _ h => h⟩, ?_,
      fun first same => ?_, fun _ => ?_⟩, fun working => ⟨by rw [working, if_pos good]; rfl, fun _ => ?_⟩⟩
    · dsimp only
      rw [told, ← written]; rfl
    · have unmoved : u.setTimeState .degraded = u := by
        refine State.setTimeState_same (.inl ?_)
        rw [halted]
        by_contra working
        rw [if_neg working, good] at same
        cases same
      rw [unmoved, ← written]
      exact ⟨rfl, rfl, rfl, rfl⟩
    · have kept : (u.setTimeState .degraded).htu = u.htu := State.setTimeState_htu (by decide)
      exact kept.trans (by rw [← written])
    · refine notice ?_
      rw [told, state, working]
      nofun
  · rw [if_neg good]
    exact ⟨s.svu.timeState, State.countSecond_counted sound .oscillator s.svu.pulseRun, fun _ => ⟨(if_neg good).symm,
      fun h => absurd h good⟩⟩

/-- The minute that begins in GOOD, and the holds that end with it (R37). -/
theorem State.countSecond_expires {s : State} (sound : s.svu.badCodes = []) (last : s.svu.second = 59)
    (good : s.svu.timeState = .good) (working : s.svu.halted = false) :
    s.countSecond.svu.minute = s.svu.minute + 1 ∧ s.expiredAt s.countSecond s.countSecond.svu.minute.toNat := by
  have svu := (State.countSecond_spec sound).2
  have expired := State.expireHolds_expired { s with svu := s.svu.counted }
  rw [← State.countSecond_minute sound last good working] at expired
  refine ⟨?_, fun i => ?_⟩
  · rw [svu]
    exact if_pos last
  · rw [svu]
    exact expired i

/-- Settles O56. -/
theorem timeBaseCounts : Obligations.TimeBaseCounts := by
  unfold Obligations.TimeBaseCounts
  have gapOpen : ∀ gap : Option Nat, (∀ g, gap = some g → 900 ≤ g) → ¬ (gap.any (· < 900)) = true := by
    intro gap open_
    cases gap with
    | none => nofun
    | some g => simpa using open_ g rfl
  refine ⟨fun s hr sound => ?_, fun s hr working sound => ?_⟩
  · intro counted
    have fields : ∀ {t source run time}, s.Counted t source run time → counted t := by
      intro t source run time h
      obtain ⟨departed, svu, quiet, held⟩ := h
      obtain ⟨fmu, groups, rcs, lines⟩ := departed.fields
      have state : t.svu.timeState = time := by rw [svu]
      exact ⟨by rw [svu]; rfl, by rw [svu]; rfl, by rw [svu]; rfl, by rw [svu]; rfl, by rw [svu]; rfl, fmu, groups, rcs, lines,
        fun first same => quiet first (state.symm.trans same), fun still => held (by rw [← state]; exact still)⟩
    refine ⟨fun gap open_ => ?_, fun g early => ?_, fun source => ?_, fun source => ?_, fun source => ?_, fun source => ?_⟩
    · intro steady
      obtain ⟨time, done, state, notice⟩ := State.countPulse_counted sound gap
      have run : (s.countPulse gap).svu.pulseRun = runAfter s.svu.source s.svu.pulseRun gap := by rw [done.svu]
      have after : (s.countPulse gap).svu.timeState = time := by rw [done.svu]
      refine ⟨_, congrArg Host.Outcome.next ((if_neg (gapOpen gap open_)).trans (State.timeEvent_sound hr sound _ _)), fields done,
        by rw [done.svu], fun h => run.trans (runAfter_steady h), fun h => run.trans (runAfter_unsteady h), fun h => ?_, fun _ h => ?_⟩
      · rw [after, run]
        exact state h
      · exact notice (by rw [← after]; exact h)
    · exact congrArg Host.Outcome.next (if_pos (by simpa using early))
    · obtain ⟨time, done, state⟩ := State.losePulses_counted sound
      refine ⟨_, congrArg Host.Outcome.next ((if_pos source).trans (State.timeEvent_sound hr sound _ _)), fields done,
        by rw [done.svu], by rw [done.svu], fun h => ?_⟩
      rw [done.svu]
      exact state h
    · exact congrArg Host.Outcome.next (if_neg (by rw [source]; nofun))
    · have done : s.Counted s.countSecond s.svu.source s.svu.pulseRun s.svu.timeState :=
        State.countSecond_counted sound s.svu.source s.svu.pulseRun
      refine ⟨_, congrArg Host.Outcome.next ((if_pos source).trans (State.timeEvent_sound hr sound _ _)), fields done, ?_, ?_, ?_⟩
      · exact (congrArg Svu.source done.svu :).trans source
      · exact (congrArg Svu.pulseRun done.svu :)
      · exact (congrArg Svu.timeState done.svu :)
    · exact congrArg Host.Outcome.next (if_neg (by rw [source]; nofun))
  · intro expired
    refine ⟨fun source last good => ?_, fun gap open_ last good => ?_, fun g source run low high set_ bad => ?_⟩
    · obtain ⟨minute, ends⟩ := State.countSecond_expires sound last good working
      exact ⟨_, congrArg Host.Outcome.next ((if_pos source).trans (State.timeEvent_sound hr sound _ _)), minute, ends⟩
    · have counts : s.countPulse gap = State.countSecond { s with
          svu.source := .tref, svu.pulseRun := runAfter s.svu.source s.svu.pulseRun gap } := by
        have state := (State.countSecond_counted sound .tref (runAfter s.svu.source s.svu.pulseRun gap)).svu
        rw [State.countPulse_eq]
        split
        · exact State.setTimeState_same (.inr (by rw [state]; exact good))
        · rfl
      obtain ⟨minute, ends⟩ := State.countSecond_expires (s := { s with
        svu.source := .tref, svu.pulseRun := runAfter s.svu.source s.svu.pulseRun gap }) sound last good working
      rw [← counts] at minute ends
      exact ⟨_, congrArg Host.Outcome.next ((if_neg (gapOpen gap open_)).trans (State.timeEvent_sound hr sound _ _)), minute, ends⟩
    · have gap := gapOpen (some g) (by rintro _ ⟨⟩; exact low)
      have third : runAfter s.svu.source s.svu.pulseRun (some g) = 3 :=
        (runAfter_steady ⟨source, g, rfl, low, high⟩).trans (by rw [run]; rfl)
      have counts : s.countPulse (some g)
          = State.setTimeState { s with svu := { s.svu with source := .tref, pulseRun := 3 }.counted } .good := by
        rw [State.countPulse_eq, third, if_pos ⟨rfl, by omega, set_⟩]
        exact congrArg (State.setTimeState · .good) (State.countSecond_quiet sound (.inr (.inl bad)))
      obtain ⟨-, svu, -⟩ := State.setTimeState_spec { s with svu := { s.svu with source := .tref, pulseRun := 3 }.counted } .good
      have ends := State.setTimeState_good (s := { s with svu := { s.svu with source := .tref, pulseRun := 3 }.counted }) working bad
      rw [← counts] at svu ends
      refine ⟨_, congrArg Host.Outcome.next ((if_neg gap).trans (State.timeEvent_sound hr sound _ _)), ?_, ?_, fun i => ?_⟩
      · rw [svu]
        exact if_neg (show ¬ s.svu.halted = true by rw [working]; nofun)
      · rw [svu]
        rfl
      · rw [svu]
        exact ends i

end Sys2Proof.Machine
end

section
/-! The scan of the retained records, and the power-up that is a cold start (R156 to R161, R167). -/

namespace Sys2Proof.Machine

/-! ### A pass that finds one fault (R157, R158) -/

/-- The state in which a pass finds a record that fails its check: the next period begun. -/
def State.scanned (s : State) (r : RecordId) : State :=
  { s with svu := { s.svu with badCodes := [r], scanTimer := .running 600 600 } }

/-- The restore of a record, with a fresh check code for each record it writes (R159). -/
def State.mended (s : State) (r : RecordId) : State := (restored r).foldl State.recode (s.restore r)

theorem State.takeFault_eq (s : State) (r : RecordId) : s.takeFault r =
    if s.integrityExists then (s.mended r).secondFault else (s.mended r).firstFault := rfl

theorem State.scan_none {s : State} (h : s.working) : s.scan [] = State.arbitrate { s with svu.scanTimer := .running 600 600 } := by
  obtain ⟨reset, halted, sound⟩ := h
  have clean : ({ s.corrupt [] with svu.scanTimer := .start Svu.scanPeriod } : State) = { s with svu.scanTimer := .running 600 600 } := by
    simp only [State.corrupt, List.filter_nil, List.append_nil]
    rfl
  rw [State.scan, if_pos (by simp [State.live, reset, halted])]
  dsimp only
  rw [clean, State.verify_sound]
  exact sound

theorem State.scan_fault {s : State} {r : RecordId} (h : s.working) (mends : ((s.scanned r).takeFault r).svu.badCodes = []) :
    s.scan [r] = ((s.scanned r).takeFault r).arbitrate := by
  obtain ⟨reset, halted, sound⟩ := h
  have found : ({ s.corrupt [r] with svu.scanTimer := .start Svu.scanPeriod } : State) = s.scanned r := by
    simp [State.corrupt, State.scanned, sound, Svu.scanPeriod, Timer.start]
  have passes : (s.scanned r).verify (fun _ => true) = (s.scanned r).takeFault r := State.verify_one rfl halted mends
  rw [State.scan, if_pos (by simp [State.live, reset, halted])]
  dsimp only
  rw [found, passes]

/-! ### A fault of the hunt parameters (R159) -/

/-- The hunt parameters restored. -/
def State.defaultParams (s : State) : State :=
  { s with ehu := { s.ehu with params := .default }, svu := { s.svu with scanTimer := .running 600 600 } }

theorem State.mended_huntParameters {s : State} (sound : s.svu.badCodes = []) :
    (s.scanned .huntParameters).mended .huntParameters = s.defaultParams := by
  obtain ⟨pending, draws, lines, fmu, htu, fsu, sou, rcs, ehu, svu, rqi⟩ := s
  obtain ⟨minute, second, timeSet, pulseRun, source, timeState, startCause, validity, badCodes, scanTimer, halted, haltStatus⟩ := svu
  cases sound
  rfl

/-- A first fault of a part with no case open. -/
theorem State.firstFault_idle {s : State} {i : SlotNo} (empty : s.holdAt i = none) (low : ∀ j, j < i → (s.holdAt j).isSome = true)
    (idle : s.ehu.huntCase.state = .idle) : ∃ t, s.firstFault = t
      ∧ (∀ j, t.slot j = if i = j then
          { s.slot i with hold := some (s.deviceHold .noClose .pinned .system wholeFeeder .integrity) } else s.slot j)
      ∧ t.htu.counts = { s.htu.counts with system := s.htu.counts.system + 1 } ∧ t.noticed .integrity ∧ t.noticed .hold
      ∧ t.ehu = s.ehu ∧ t.svu = s.svu ∧ t.fmu = s.fmu ∧ t.fsu = s.fsu ∧ t.sou = s.sou ∧ t.rcs = s.rcs ∧ t.lines = s.lines := by
  obtain ⟨-, -, lines, fmu, fsu, sou, rcs, ehu, svu⟩ :=
    s.placeHold_frame (s.deviceHold .noClose .pinned .system wholeFeeder .integrity)
  have slots := State.placeHold_slot empty low (s.deviceHold .noClose .pinned .system wholeFeeder .integrity)
  have placed := State.placeHold_of empty low (s.deviceHold .noClose .pinned .system wholeFeeder .integrity)
  have quiet : s.firstFault = s.placeIntegrity.notify .integrity := by
    have idle' : (s.placeIntegrity.notify .integrity).ehu.huntCase.state = .idle := (congrArg (·.huntCase.state) ehu).trans idle
    rw [State.firstFault, State.abandonCase, idle']
  refine ⟨_, quiet, slots, ?_, State.noticed_notify _ _, State.noticed_kept _ _ _ ?_, ehu, svu, fmu, fsu, sou, rcs, lines⟩
  · rw [State.placeIntegrity, placed]
    rfl
  · rw [State.placeIntegrity, placed]
    exact State.noticed_notify _ _

/-- A second fault: the part halts with its halt mark, its timers stopped and its status kept (R161, R162). -/
theorem State.secondFault_halts {s : State} (sound : s.svu.badCodes = []) : ∃ t, s.secondFault = t ∧ t.live = false
    ∧ t.svu = { s.svu with
        scanTimer := .stopped, halted := true, startCause := { s.svu.startCause with haltMark := true }
        haltStatus := some { s.status with halted := true } }
    ∧ t.ehu.params = s.ehu.params ∧ t.noticed .integrity
    ∧ t.sou.answerTimer = .stopped ∧ t.sou.routineTimer = .stopped ∧ t.sou.headTimer = .stopped
    ∧ (∀ k, (t.runtime k).mechanism = .stopped ∧ (t.seq k).deadTimer = .stopped ∧ (t.seq k).reclaimTimer = .stopped)
    ∧ t.ehu.watch.confirmTimer = .stopped ∧ t.ehu.huntCase.listen = .stopped
    ∧ t.fmu = s.fmu ∧ t.htu = s.htu ∧ t.fsu = s.fsu ∧ t.lines = s.lines := by
  have mend : s.mendCause = s := State.mendCause_sound s sound
  refine ⟨_, rfl, ?_⟩
  rw [State.secondFault, mend]
  dsimp only
  unfold State.halt State.stopTimers
  dsimp only
  refine ⟨?_, rfl, rfl, ?_, rfl, rfl, rfl, fun k => ⟨?_, ?_, ?_⟩, rfl, rfl, rfl, rfl, rfl, rfl⟩
  · simp [State.live]
  · exact State.noticed_notify { s with svu.startCause.haltMark := true } .integrity
  · exact congrArg Runtime.mechanism (Vector.getElem_ofFn _)
  · exact congrArg Sequence.deadTimer (Vector.getElem_ofFn _)
  · exact congrArg Sequence.reclaimTimer (Vector.getElem_ofFn _)

/-- Settles O54. -/
theorem scanPassFindsFaults : Obligations.ScanPassFindsFaults := by
  unfold Obligations.ScanPassFindsFaults
  intro s hs integrity
  obtain ⟨-, -, sound⟩ := id hs
  have mended := State.mended_huntParameters sound
  have exists_ : (s.scanned .huntParameters).integrityExists = s.integrityExists := rfl
  refine ⟨congrArg Host.Outcome.next (State.scan_none hs), fun i empty low none_ idle => ?_, fun some_ => ?_⟩
  · obtain ⟨t, fault, slots, counts, notice, hold, ehu, svu, fmu, fsu, sou, rcs, lines⟩ :=
      State.firstFault_idle (s := s.defaultParams) empty low idle
    have taken : (s.scanned .huntParameters).takeFault .huntParameters = t := by
      rw [State.takeFault_eq, exists_, none_, mended]
      exact fault
    have mends : ((s.scanned .huntParameters).takeFault .huntParameters).svu.badCodes = [] := by
      rw [taken, svu]
      exact sound
    have passed := State.scan_fault hs mends
    rw [taken] at passed
    exact ⟨t, congrArg Host.Outcome.next passed, ehu, (slots i).trans (if_pos rfl), fun j hj => (slots j).trans (if_neg (Ne.symm hj)),
      counts, notice, hold, svu, fmu, fsu, sou, rcs, lines⟩
  · obtain ⟨t, fault, still, svu, rest⟩ := State.secondFault_halts (s := s.defaultParams) sound
    have taken : (s.scanned .huntParameters).takeFault .huntParameters = t := by
      rw [State.takeFault_eq, exists_, some_, mended]
      exact fault
    have mends : ((s.scanned .huntParameters).takeFault .huntParameters).svu.badCodes = [] := by
      rw [taken, svu]
      exact sound
    have passed := State.scan_fault hs mends
    rw [taken, State.arbitrate_idle still] at passed
    exact ⟨t, congrArg Host.Outcome.next passed, svu, rest⟩

/-! ### The cold start (R27, R43, R166, R167) -/

/-- The FSU's start where no level changes. -/
theorem State.fsuStart_unchanged {s t : State} (sampled : s.tfbSampled = t) (unchanged : t.changedDistricts = []) : s.fsuStart =
    let w := (allDistricts.foldl State.reconcileFire t.withLevels).handThresholds
    w.reviewProfiles w.configuredSwitches := by
  subst sampled
  have still : s.tfbSampled.changedDistricts.isEmpty = true := by rw [unchanged]; rfl
  unfold State.fsuStart
  exact congrArg (fun v => let w := (allDistricts.foldl State.reconcileFire v).handThresholds
    w.reviewProfiles w.configuredSwitches) (if_pos still)

/-- A start without the validity marker (R166, R167). -/
theorem State.takeStart_cold {s : State} (absent : s.svu.validity = false) :
    s.takeStart = ((s.beginStart .cold).coldStore.blocksStart).finishStart := by
  have cause : s.causeOfStart = .cold := by simp [State.causeOfStart, absent]
  unfold State.takeStart
  dsimp only
  rw [cause, absent]
  exact if_neg Bool.false_ne_true

/-- A part with every record at its cold or start value, whatever the queue, the lines, the SVU and the ports hold. -/
def coldState (p : List Instr) (n : Nat) (l : Lines) (tfb : Bool) (v : Svu) (q : Rqi) : State :=
  { pending := p, draws := n, lines := l, fmu := .cold, htu := .cold, fsu := { Fsu.cold with tfb := tfb }
    sou := Sou.start .default, rcs := ⟨Vector.replicate 16 (Sequence.start none)⟩, ehu := .cold, svu := v, rqi := q }

section
variable (p : List Instr) (n : Nat) (l : Lines) (tfb : Bool) (v : Svu) (q : Rqi)

theorem coldState_district (d : DistrictNo) : (coldState p n l tfb v q).district d = District.cold :=
  Vector.getElem_replicate _

theorem coldState_config (k : SwitchNo) : (coldState p n l tfb v q).config k = none := Vector.getElem_replicate _

theorem coldState_runtime (k : SwitchNo) : (coldState p n l tfb v q).runtime k = Runtime.start := Vector.getElem_replicate _

theorem coldState_seq (k : SwitchNo) : (coldState p n l tfb v q).seq k = Sequence.start none := Vector.getElem_replicate _

theorem coldState_zoneInfo (z : ZoneNo) : (coldState p n l tfb v q).zoneInfo z = none :=
  congrArg ZoneEntry.info (Vector.getElem_replicate _)

theorem coldState_districtZones (d : DistrictNo) : (coldState p n l tfb v q).districtZones d = 0 := by
  simp only [State.districtZones, coldState_zoneInfo, Option.any_none]
  rfl

theorem coldState_configuredSwitches : (coldState p n l tfb v q).configuredSwitches = [] := by
  simp [State.configuredSwitches, State.configured, coldState_config]

/-- With no zone present the thresholds are those of NORMAL (R76). -/
theorem coldState_feederThresholds : (coldState p n l tfb v q).feederThresholds = Thresholds.cold := by
  have none_ : allDistricts.filter (coldState p n l tfb v q).districtPresent = [] := by
    simp [State.districtPresent, coldState_districtZones]
  rw [State.feederThresholds, State.thresholdLevel, none_]
  rfl

theorem coldState_handThresholds : (coldState p n l tfb v q).handThresholds = coldState p n l tfb v q := by
  rw [State.handThresholds, coldState_feederThresholds]
  rfl

theorem coldState_reconcileFire (d : DistrictNo) : (coldState p n l tfb v q).reconcileFire d = coldState p n l tfb v q := by
  rw [State.reconcileFire, State.retireFire, coldState_district]
  rfl

theorem coldState_seqStart (k : SwitchNo) : (coldState p n l tfb v q).seqStart k = coldState p n l tfb v q := by
  have kept : (coldState p n l tfb v q).putSeq k (Sequence.start none) = coldState p n l tfb v q := by
    refine congrArg (fun seqs => { coldState p n l tfb v q with rcs := ⟨seqs⟩ }) (Vector.ext fun i hi => ?_)
    simp only [coldState, Vector.getElem_set, Vector.getElem_replicate, ite_self]
  have idle : (coldState p n l tfb v q).inService k = false := by
    simp [State.inService, State.configured, coldState_config]
  unfold State.seqStart
  rw [coldState_seq, idle]
  exact kept

/-- The FSU's start with the TFB line not asserted (R78). -/
theorem coldState_fsuStart (released : l.tfb = false) : (coldState p n l tfb v q).fsuStart = coldState p n l false v q := by
  have level : ∀ d, (coldState p n l false v q).levelOfDistrict d = .normal := fun d => by
    rw [State.levelOfDistrict, coldState_district]
    rfl
  have sampled : (coldState p n l tfb v q).tfbSampled = coldState p n l false v q := by
    rw [State.tfbSampled, show (coldState p n l tfb v q).lines.tfb = false from released]
    rfl
  have unchanged : (coldState p n l false v q).changedDistricts = [] := by
    simp [State.changedDistricts, level, coldState_district, District.cold]
  have levels : (Vector.ofFn fun d : DistrictNo => { (coldState p n l false v q).fsu.districts[d] with
      effective := (coldState p n l false v q).levelOfDistrict d }) = Vector.replicate 8 District.cold := by
    refine Vector.ext fun i hi => ?_
    rw [Vector.getElem_ofFn, Vector.getElem_replicate, level]
    exact congrArg (fun r : District => { r with effective := Level.normal }) (coldState_district p n l false v q ⟨i, hi⟩)
  have set_ : (coldState p n l false v q).withLevels = coldState p n l false v q :=
    congrArg (fun ds => { coldState p n l false v q with fsu := { Fsu.cold with tfb := false, districts := ds } }) levels
  have reconciled : ∀ ds : List DistrictNo, ds.foldl State.reconcileFire (coldState p n l false v q) = coldState p n l false v q := by
    intro ds
    induction ds with
    | nil => rfl
    | cons d ds ih => rw [List.foldl_cons, coldState_reconcileFire, ih]
  rw [State.fsuStart_unchanged sampled unchanged]
  dsimp only
  rw [set_, reconciled, coldState_handThresholds, coldState_configuredSwitches]
  rfl

theorem coldState_blocksStart (released : l.tfb = false) : (coldState p n l tfb v q).blocksStart = coldState p n l false v q := by
  have started : ∀ ks : List SwitchNo, ks.foldl State.seqStart (coldState p n l false v q) = coldState p n l false v q := by
    intro ks
    induction ks with
    | nil => rfl
    | cons k ks ih => rw [List.foldl_cons, coldState_seqStart, ih]
  have counted : ({ coldState p n l tfb v q with
      htu.counts := (coldState p n l tfb v q).recount
      fmu.reachTable := if (coldState p n l tfb v q).fmu.mode = FeederMode.service then
        some (coldState p n l tfb v q).fmu.buildReach else none } : State) = coldState p n l tfb v q := by
    rw [State.recount_cold rfl]
    rfl
  unfold State.blocksStart
  rw [counted]
  dsimp only
  rw [coldState_fsuStart p n l tfb v q released, show (coldState p n l false v q).souStart = coldState p n l false v q from rfl, started]
  rfl

theorem coldState_finishStart : (coldState p n l tfb v q).finishStart
    = coldState p n l tfb { v with scanTimer := .start Svu.scanPeriod } ((coldState p n l tfb v q).notify .start).rqi := rfl

end

/-- Nothing is configured, so nothing waits for the link. -/
theorem reset_claims (p : List Instr) (n : Nat) (l : Lines) (v : Svu) (q : Rqi) : (coldState p n l false v q).claims = [] := by
  simp [State.claims, State.claimsOf, coldState_runtime, Runtime.start]

/-- The part as a power-up leaves it before its start: the volatile records lost, the validity marker absent. -/
def State.poweredUp (s : State) (failed : List RecordId) : State :=
  { s.volatileStart.corrupt failed with lines.supplyLow := false, lines.fell := true, svu.validity := false }

/-- The records that the blocks of a cold start find. -/
theorem State.poweredUp_coldStore {s : State} (reset : s.lines.reset = false) (tfb : s.lines.tfb = false) (failed : List RecordId) :
    ((s.poweredUp failed).beginStart .cold).coldStore
      = coldState s.pending s.draws { Lines.quiet with lkey := s.lines.lkey } s.fsu.tfb { Svu.cold with scanTimer := .stopped }
          { Rqi.cold with controller := PortRecord.start, maintenance := PortRecord.start } := by
  obtain ⟨pending, draws, ⟨r, low, fell, held, key⟩, fmu, htu, fsu, sou, rcs, ehu, svu, rqi⟩ := s
  cases reset
  cases tfb
  rfl

/-- Settles O60. -/
theorem coldPowerUpBlocksEveryClose : Obligations.ColdPowerUpBlocksEveryClose := by
  unfold Obligations.ColdPowerUpBlocksEveryClose
  refine ⟨fun s failed reset tfb => ?_, fun k kind => ?_⟩
  · have released : ¬ (s.poweredUp failed).inReset = true := by
      rw [show (s.poweredUp failed).inReset = (s.lines.reset || false) from rfl, reset]
      nofun
    have started : (s.poweredUp failed).startIfReleased
        = (((s.poweredUp failed).beginStart .cold).coldStore.blocksStart).finishStart :=
      (if_neg released).trans (State.takeStart_cold rfl)
    have ends : (coldState s.pending s.draws { Lines.quiet with lkey := s.lines.lkey } false { Svu.cold with scanTimer := .stopped }
          { Rqi.cold with controller := PortRecord.start, maintenance := PortRecord.start }).finishStart
        = coldState s.pending s.draws { Lines.quiet with lkey := s.lines.lkey } false Svu.cold Rqi.cold := by
      rw [coldState_finishStart]
      exact congrArg (coldState _ _ _ _ _) rfl
    refine congrArg Host.Outcome.next (show (s.poweredUp failed).startIfReleased.arbitrate = _ from ?_)
    rw [started, State.poweredUp_coldStore reset tfb, coldState_blocksStart _ _ _ _ _ _ rfl, ends,
      State.arbitrate_nothing (reset_claims _ _ _ _ _)]
    rfl
  · have held : State.reset.holdAt 0 = some (Hold.continuity 0) := rfl
    have reach : State.reset.reach k = wholeFeeder := rfl
    have blocking : (Hold.continuity 0).blocks kind wholeFeeder = true := by cases kind <;> decide
    have blocks : (0 : SlotNo) ∈ State.reset.blockers k kind :=
      List.mem_filter.mpr ⟨mem_allSlots 0, by rw [held, reach]; exact blocking⟩
    rw [State.closePermitted, ← Bool.not_eq_true, List.isEmpty_iff]
    exact List.ne_nil_of_mem blocks

end Sys2Proof.Machine
end

section
/-! The reports of a switch, taken by the sequence, the watch and the case (R83, R88, R101, R102, R107, R122, R133). -/

namespace Sys2Proof.Machine

/-! ### What a frame does before its own rule, and after it -/

/-- A case resumed (R149). -/
def State.resumedCase (s : State) : HuntCase :=
  { s.ehu.huntCase with
    suspension := none, state := .locating, clearedInWindow := false, listen := .start (10 * s.ehu.params.listen) }

/-- The case stands, or has been resumed from its suspension for a trip (R149). -/
def State.CaseStands (s t : State) : Prop :=
  t.ehu.huntCase = s.ehu.huntCase ∨ (s.ehu.huntCase.state = .suspended ∧ (∃ k, s.ehu.huntCase.suspension = some ⟨.trip, k⟩)
    ∧ t.ehu.huntCase = s.resumedCase)

/-- What the steps of a report leave alone that neither end an operation nor judge a residual count. -/
structure State.Attended (s t : State) : Prop where
  others : t.others = s.others
  ehu : t.ehu = { s.ehu with huntCase := t.ehu.huntCase, disturbed := t.ehu.disturbed, runningCount := t.ehu.runningCount }
  case_ : s.CaseStands t
  notices : ∀ n, s.noticed n → t.noticed n

theorem State.Attended.refl (s : State) : s.Attended s := ⟨rfl, rfl, .inl rfl, fun _ h => h⟩

theorem State.Attended.trans {s t u : State} (a : s.Attended t) (b : t.Attended u) : s.Attended u := by
  obtain ⟨others, ehu, case_, notices⟩ := a
  obtain ⟨others', ehu', case', notices'⟩ := b
  refine ⟨others'.trans others, by rw [ehu', ehu], ?_, fun n h => notices' n (notices n h)⟩
  have params : t.ehu.params = s.ehu.params := by rw [ehu]
  rcases case_ with stood | ⟨suspended, trip, resumed⟩
  · rcases case' with stood' | ⟨suspended', trip', resumed'⟩
    · exact .inl (stood'.trans stood)
    · rw [stood] at suspended' trip'
      refine .inr ⟨suspended', trip', resumed'.trans ?_⟩
      rw [State.resumedCase, stood, params]
      rfl
  · rcases case' with stood' | ⟨suspended', -, -⟩
    · exact .inr ⟨suspended, trip, stood'.trans resumed⟩
    · rw [resumed] at suspended'
      cases suspended'

/-- A change of the SOU's and the RCS's records alone. -/
theorem State.Attended.of_link {s t : State} (others : t.others = s.others) (ehu : t.ehu = s.ehu) (rqi : t.rqi = s.rqi) :
    s.Attended t :=
  ⟨others, by rw [ehu], .inl (by rw [ehu]), fun _ h => State.noticed_of_rqi rqi h⟩

theorem State.checkResume_attended (s : State) : s.Attended s.checkResume := by
  obtain ⟨others, -, rqi, -, -⟩ := s.checkResume_polled
  refine ⟨others, ?_, ?_, fun n h => State.noticed_of_rqi rqi h⟩
  · rw [s.checkResume_ehu]
  · unfold State.checkResume
    split
    next k state suspension =>
      split
      · exact .inl rfl
      · refine .inr ⟨state, ⟨k, suspension⟩, ?_⟩
        rw [State.resumeCase, State.enterLocating_ehu]
        rfl
    next => exact .inl rfl

/-- A sequence written, in the words of `State.Attended`. -/
theorem State.setSeq_attended (s : State) (k : SwitchNo) (q : Sequence) : s.Attended (s.setSeq k q) := by
  obtain ⟨n, e | e⟩ := State.setSeq_cases s k q
  · rw [e]
    exact State.Attended.trans (t := { s.putSeq k q with ehu.runningCount := n }) ⟨rfl, rfl, .inl rfl, fun _ h => h⟩
      (State.checkResume_attended _)
  · rw [e]
    exact .of_link rfl rfl rfl

theorem State.Told.attended {k : SwitchNo} {s t : State} (h : s.Told k t) : s.Attended t := by
  induction h with
  | refl => exact .refl s
  | seq q _ ih => exact ih.trans (State.setSeq_attended _ _ _)
  | note n _ ih => exact ih.trans ⟨rfl, rfl, .inl rfl, fun m h => State.noticed_kept _ _ _ h⟩

/-- No sequence changes, nor the count of those that run. -/
def State.SequencesStand (s t : State) : Prop := t.rcs = s.rcs ∧ t.ehu.runningCount = s.ehu.runningCount

theorem State.SequencesStand.refl (s : State) : s.SequencesStand s := ⟨rfl, rfl⟩

theorem State.SequencesStand.trans {s t u : State} (a : s.SequencesStand t) (b : t.SequencesStand u) : s.SequencesStand u :=
  ⟨b.1.trans a.1, b.2.trans a.2⟩

theorem State.SequencesStand.seq {s t : State} (h : s.SequencesStand t) (k : SwitchNo) : t.seq k = s.seq k := State.seq_of_rcs h.1 k

theorem State.checkResume_stand (s : State) : s.SequencesStand s.checkResume := by
  refine ⟨s.checkResume_polled.2.1, ?_⟩
  rw [s.checkResume_ehu]

/-! ### A frame taken: SILENT ends (R83) -/

theorem State.hear_eq (s : State) (k : SwitchNo) : s.hear k =
    if (s.runtime k).condition = .silent then
      if s.ehu.huntCase.state = .suspended then (s.setRuntime k { s.runtime k with condition := .sound }).checkResume
      else s.setRuntime k { s.runtime k with condition := .sound }
    else s := by
  unfold State.hear
  by_cases silent : (s.runtime k).condition = .silent
  · rw [if_pos silent, if_pos silent, State.setCondition, if_neg (by rw [silent]; nofun), State.conditionReport]
    have sound : ((k == 0) && ((s.setRuntime k { s.runtime k with condition := .sound }).runtime 0).condition != .sound) = false := by
      by_cases head : k = 0
      · subst head
        rw [State.runtime_setRuntime_same]
        rfl
      · simp [head]
    rw [sound]
    by_cases suspended : s.ehu.huntCase.state = .suspended
    · rw [if_pos suspended]
      exact if_pos (by simp [suspended])
    · rw [if_neg suspended]
      exact (if_neg (by simpa using suspended)).trans (if_neg Bool.false_ne_true)
  · rw [if_neg silent, if_neg silent]

theorem State.hear_attended (s : State) (k : SwitchNo) : s.Attended (s.hear k) := by
  rw [State.hear_eq]
  split
  · have sound : s.Attended (s.setRuntime k { s.runtime k with condition := .sound }) := .of_link rfl rfl rfl
    split
    · exact sound.trans (State.checkResume_attended _)
    · exact sound
  · exact .refl s

theorem State.hear_stand (s : State) (k : SwitchNo) : s.SequencesStand (s.hear k) := by
  rw [State.hear_eq]
  split
  · have sound : s.SequencesStand (s.setRuntime k { s.runtime k with condition := .sound }) := ⟨rfl, rfl⟩
    split
    · exact sound.trans (State.checkResume_stand _)
    · exact sound
  · exact .refl s

/-- A switch heard that was SILENT is SOUND, and the polls that a resumption wants apart nothing else of the records changes. -/
theorem State.hear_silent {s : State} {k : SwitchNo} (silent : (s.runtime k).condition = .silent) :
    (s.setRuntime k { s.runtime k with condition := .sound }).Polled (s.hear k) := by
  rw [State.hear_eq, if_pos silent]
  split
  · exact State.checkResume_polled _
  · exact .refl _

theorem State.hear_heard {s : State} {k : SwitchNo} (heard : (s.runtime k).condition ≠ .silent) : s.hear k = s := by
  rw [State.hear_eq, if_neg heard]

/-- The switch heard has its condition changed where it was SILENT; no other switch has. -/
theorem State.hear_runtime (s : State) (k j : SwitchNo) : (s.hear k).runtime j = { s.runtime j with
    condition := if j = k ∧ (s.runtime k).condition = .silent then .sound else (s.runtime j).condition
    pollWanted := ((s.hear k).runtime j).pollWanted } := by
  by_cases silent : (s.runtime k).condition = .silent
  · have polled := (State.hear_silent silent).2.2.2.2 j
    by_cases e : j = k
    · subst e
      rw [State.runtime_setRuntime_same] at polled
      rw [if_pos ⟨rfl, silent⟩]
      exact polled
    · rw [State.runtime_setRuntime_other _ _ e] at polled
      rw [if_neg fun h => e h.1]
      exact polled
  · rw [State.hear_heard silent, if_neg fun h => silent h.2]

/-- What the link's records are after a switch is heard. -/
theorem State.hear_sou (s : State) (k : SwitchNo) : (s.hear k).sou = { s.sou with runtime := (s.hear k).sou.runtime } := by
  rw [State.hear_eq]
  split
  · split
    · exact (State.checkResume_polled _).2.2.2.1
    · rfl
  · rfl

theorem State.hear_rqi (s : State) (k : SwitchNo) : (s.hear k).rqi = s.rqi := by
  rw [State.hear_eq]
  split
  · split
    · exact (State.checkResume_polled _).2.2.1
    · rfl
  · rfl

/-! ### The report of the position (R88, R107) -/

theorem State.disturb_attended (s : State) : s.Attended s.disturb := by
  unfold State.disturb
  split
  · exact ⟨rfl, rfl, .inl rfl, fun _ h => h⟩
  · exact .refl s

theorem State.disturb_stand (s : State) : s.SequencesStand s.disturb := by
  unfold State.disturb
  split
  · exact ⟨rfl, rfl⟩
  · exact .refl s

theorem State.huntPosition_attended (s : State) (k : SwitchNo) (p : Pole) (changed : Bool) :
    s.Attended (s.huntPosition k p changed) := by
  unfold State.huntPosition
  split
  · split
    · exact s.disturb_attended
    · exact .refl s
  · exact s.checkResume_attended

theorem State.huntPosition_stand (s : State) (k : SwitchNo) (p : Pole) (changed : Bool) :
    s.SequencesStand (s.huntPosition k p changed) := by
  unfold State.huntPosition
  split
  · split
    · exact s.disturb_stand
    · exact .refl s
  · exact s.checkResume_stand

theorem State.reportPosition_attended (s : State) (k : SwitchNo) (p : Pole) (changed : Bool) :
    s.Attended (s.reportPosition k p changed) :=
  (s.rcsPosition_told k p).attended.trans (State.huntPosition_attended _ _ _ _)

theorem State.retryPush_attended (s : State) (k : SwitchNo) : s.Attended (s.retryPush k) := by
  unfold State.retryPush
  dsimp only
  split
  · exact .of_link rfl rfl rfl
  · exact .refl s

theorem State.retryPush_stand (s : State) (k : SwitchNo) : s.SequencesStand (s.retryPush k) := by
  unfold State.retryPush
  dsimp only
  split
  · exact ⟨rfl, rfl⟩
  · exact .refl s

/-! ### The count of the running sequences (R106) -/

theorem State.setSeq_count (s : State) (k : SwitchNo) (q : Sequence) : (s.setSeq k q).ehu.runningCount =
    if (s.seq k).state ≠ q.state ∧ ((s.seq k).state.running = true ∨ q.state.running = true) then (s.setSeq k q).runningSequences
    else s.ehu.runningCount := by
  have written : ((s.seq k).state != q.state && ((s.seq k).state.running || q.state.running)) = true
      ↔ ((s.seq k).state ≠ q.state ∧ ((s.seq k).state.running = true ∨ q.state.running = true)) := by
    simp
  unfold State.setSeq
  dsimp only
  by_cases tells : (s.seq k).state ≠ q.state ∧ ((s.seq k).state.running = true ∨ q.state.running = true)
  · rw [if_pos tells, if_pos (written.mpr tells)]
    obtain ⟨rcs, count⟩ := State.checkResume_stand { s.putSeq k q with ehu.runningCount := (s.putSeq k q).runningSequences }
    refine count.trans (State.runningSequences_congr fun j => ?_)
    exact congrArg (fun q => q.state.running) (State.seq_of_rcs rcs j).symm
  · rw [if_neg tells, if_neg (mt written.mp tells)]
    rfl

/-- The group in force is a matter of the FMU's and the FSU's records (R60). -/
theorem State.effectiveGroup_congr {s t : State} (fmu : t.fmu = s.fmu) (fsu : t.fsu = s.fsu) (k : SwitchNo) :
    t.effectiveGroup k = s.effectiveGroup k := by
  obtain ⟨pending, draws, lines, _, htu, _, sou, rcs, ehu, svu, rqi⟩ := t
  cases fmu
  cases fsu
  rfl

theorem State.Attended.fields {s t : State} (h : s.Attended t) : t.lines = s.lines ∧ t.fmu = s.fmu ∧ t.htu = s.htu ∧ t.fsu = s.fsu
    ∧ t.svu = s.svu := by
  have others := h.others
  simp only [State.others, Prod.mk.injEq] at others
  obtain ⟨-, -, lines, fmu, htu, fsu, svu⟩ := others
  exact ⟨lines, fmu, htu, fsu, svu⟩

/-- The reclaim time of the group in force, in seconds. -/
def State.reclaimTime (s : State) (k : SwitchNo) : Nat := ((s.effectiveGroup k).map (·.reclaim)).getD 0

theorem State.reclaimTime_of {s : State} {k : SwitchNo} {g : Group} (h : s.effectiveGroup k = some g) : s.reclaimTime k = g.reclaim := by
  rw [State.reclaimTime, h]
  rfl

/-- A STATE report moves its sequence by the table of R107, with a group in force or with none. -/
theorem State.rcsPosition_here (s : State) (k : SwitchNo) (p : Pole) :
    (s.rcsPosition k p).seq k = (s.seq k).reported p (s.reclaimTime k) := by
  have settles : ∀ st, (st = .opened ∨ st = .closed ∨ st = .uncertain) → (s.settleSeq k st).seq k = (s.seq k).settled st :=
    fun st h => (State.settleSeq_seq s k k h).trans (if_pos rfl)
  have reclaims : ∀ n, (s.enterReclaim k n).seq k = (s.seq k).reclaiming n (s.reclaimTime k) := fun n =>
    (State.setSeq_seq s k k _).trans (if_pos rfl)
  have closes := settles .closed (.inr (.inl rfl))
  have opens := settles .opened (.inl rfl)
  unfold State.rcsPosition Sequence.reported
  cases (s.seq k).state with
  | outOfService | reclosing n => rfl
  | uncertain =>
    cases p with
    | opened => exact opens
    | closed => exact closes
  | opened | lockout =>
    cases p with
    | opened => rfl
    | closed => exact closes
  | closed | reclaim n =>
    cases p with
    | opened => exact opens
    | closed => rfl
  | deadTime n =>
    cases p with
    | opened => rfl
    | closed => exact reclaims n

/-- The count after a STATE report: told where a sequence starts or stops running. -/
theorem State.rcsPosition_count (s : State) (k : SwitchNo) (p : Pole) : (s.rcsPosition k p).ehu.runningCount =
    match (s.seq k).state, p with
    | .reclaim _, .opened | .deadTime _, .closed => (s.rcsPosition k p).runningSequences
    | _, _ => s.ehu.runningCount := by
  cases e : (s.seq k).state <;> cases p <;> simp only [State.rcsPosition, e, State.settleSeq, State.enterReclaim, State.setSeq_count]
    <;> simp [Sequence.moveTo, SeqState.running]

/-! ### A residual count handed on moves no sequence (R102, R121 to R133) -/

theorem State.attemptStart_stand (s : State) : s.SequencesStand s.attemptStart := by
  have failed : ∀ r, s.SequencesStand (s.attemptFailed r) := fun r => by
    unfold State.attemptFailed
    split
    · exact ⟨rfl, rfl⟩
    · exact ⟨rfl, rfl⟩
  unfold State.attemptStart
  split
  · refine ⟨(s.startCase_frame _ _).2, ?_⟩
    rw [State.startCase_ehu]
  · exact failed _
  · exact failed _

theorem State.retryStart_stand (s : State) : s.SequencesStand s.retryStart := by
  unfold State.retryStart
  dsimp only
  split
  · exact s.attemptStart_stand
  · exact .refl s

theorem State.watchMove_stand (s : State) (before after : Bool) : s.SequencesStand (s.watchMove before after) := by
  unfold State.watchMove
  dsimp only
  split
  case h_1 => exact ⟨rfl, rfl⟩
  case h_2 =>
    split
    · exact ⟨rfl, rfl⟩
    · exact ⟨rfl, rfl⟩
  case h_3 => exact s.retryStart_stand
  case h_4 => exact .refl s

theorem State.caseFlagCleared_stand (s : State) : s.SequencesStand s.caseFlagCleared := by
  unfold State.caseFlagCleared
  split
  · exact ⟨rfl, rfl⟩
  · exact ⟨rfl, rfl⟩
  · exact .refl s

theorem State.watchHead_stand (s : State) (v : Nat) (q : Quality) (c : ReportClass) : s.SequencesStand (s.watchHead v q c) := by
  unfold State.watchHead
  dsimp only
  generalize reported : ({ s with ehu.watch := _ } : State) = t
  have seen : s.SequencesStand t := by rw [← reported]; exact ⟨rfl, rfl⟩
  split
  · exact (seen.trans (State.watchMove_stand _ _ _)).trans (State.caseFlagCleared_stand _)
  · exact seen.trans (State.watchMove_stand _ _ _)

theorem State.residualReport_stand (s : State) (k : SwitchNo) (v : Nat) (q : Quality) (p : Pole) :
    s.SequencesStand (s.residualReport k v q p) := by
  have observed : ∀ c, s.SequencesStand (s.observeHead c) := fun c => by
    unfold State.observeHead
    split
    · exact ⟨rfl, rfl⟩
    · exact .refl s
  unfold State.residualReport
  split
  · unfold State.headReport
    dsimp only
    split
    · exact (observed _).trans (State.watchHead_stand _ _ _ _)
    · exact observed _
  · unfold State.locateReport
    split
    · split
      · exact ⟨rfl, rfl⟩
      · exact ⟨rfl, rfl⟩
      · exact .refl s
    · exact .refl s

theorem State.takeResidual_stand (s : State) (k : SwitchNo) (p : Pole) (raw : Option (BitVec 16)) :
    s.SequencesStand (s.takeResidual k p raw) := by
  unfold State.takeResidual
  split
  · split
    · exact State.SequencesStand.trans (t := s.setRuntime k _) ⟨rfl, rfl⟩ (State.residualReport_stand _ _ _ _ _)
    · exact .refl s
  · exact .refl s

/-! ### A STATE taken (R86, R88, R101) -/

/-- The frame answers a poll that is awaited from the switch (R101). -/
def State.pollAnswered (s : State) (k : SwitchNo) : Bool := match s.awaitedFrom k with | some (.poll _) => true | _ => false

/-- The switch heard, and the link freed where an awaited poll is answered (R83, R101). -/
def State.frameTaken (s : State) (k : SwitchNo) : State := if s.pollAnswered k then (s.hear k).freeLink else s.hear k

theorem State.awaitedFrom_congr {s t : State} (h : t.sou.awaited = s.sou.awaited) (k : SwitchNo) :
    t.awaitedFrom k = s.awaitedFrom k := by
  unfold State.awaitedFrom
  rw [h]

theorem State.hear_awaitedFrom (s : State) (k j : SwitchNo) : (s.hear k).awaitedFrom j = s.awaitedFrom j :=
  State.awaitedFrom_congr (by rw [s.hear_sou]) j

theorem State.frameTaken_attended (s : State) (k : SwitchNo) : s.Attended (s.frameTaken k) := by
  unfold State.frameTaken
  split
  · exact (s.hear_attended k).trans (.of_link rfl rfl rfl)
  · exact s.hear_attended k

theorem State.frameTaken_stand (s : State) (k : SwitchNo) : s.SequencesStand (s.frameTaken k) := by
  unfold State.frameTaken
  split
  · exact (s.hear_stand k).trans ⟨rfl, rfl⟩
  · exact s.hear_stand k

theorem State.frameTaken_runtime (s : State) (k j : SwitchNo) : (s.frameTaken k).runtime j = (s.hear k).runtime j := by
  unfold State.frameTaken
  split
  · rfl
  · rfl

/-- What a STATE does after the switch is heard, the operation it ends or the report it is apart. -/
def State.reportTaken (s : State) (k : SwitchNo) (p : Pole) (raw : Option (BitVec 16)) (v : State) : State :=
  (if s.pollAnswered k then v.retryPush k else v).takeResidual k p raw

theorem State.takeState_eq (s : State) (k : SwitchNo) (p : Pole) (raw : Option (BitVec 16)) : s.takeState k p raw =
    s.reportTaken k p raw (match (s.frameTaken k).moveAwaited k with
      | some q => ((s.frameTaken k).endOperation k q (moveResult q.action p) (poleOf p)).reportPosition k p false
      | none => ((s.frameTaken k).setRuntime k { (s.frameTaken k).runtime k with position := poleOf p }).reportPosition k p
          (((s.frameTaken k).runtime k).position != poleOf p)) := by
  have answers : (s.hear k).pollAnswered k = s.pollAnswered k := by
    unfold State.pollAnswered
    rw [s.hear_awaitedFrom]
  unfold State.frameTaken State.reportTaken
  rw [← answers]
  rfl

theorem State.moveAwaited_none {s : State} {k : SwitchNo} (h : ∀ q, (s.runtime k).inFlight ≠ some ⟨q, .awaitMove⟩) :
    s.moveAwaited k = none := by
  unfold State.moveAwaited
  split
  next q e => exact absurd e (h q)
  next => rfl

theorem State.moveAwaited_some {s : State} {k : SwitchNo} {q : OpRequest} (h : (s.runtime k).inFlight = some ⟨q, .awaitMove⟩) :
    s.moveAwaited k = some q := by
  simp only [State.moveAwaited, h]

theorem State.frameTaken_inFlight (s : State) (k j : SwitchNo) : ((s.frameTaken k).runtime j).inFlight = (s.runtime j).inFlight := by
  rw [s.frameTaken_runtime, s.hear_runtime]

/-- A STATE of a switch with no operation in AWAIT MOVE. -/
theorem State.takeState_report {s : State} {k : SwitchNo} (h : ∀ q, (s.runtime k).inFlight ≠ some ⟨q, .awaitMove⟩) (p : Pole)
    (raw : Option (BitVec 16)) : s.takeState k p raw = s.reportTaken k p raw
      (((s.frameTaken k).setRuntime k { (s.frameTaken k).runtime k with position := poleOf p }).reportPosition k p
        (((s.frameTaken k).runtime k).position != poleOf p)) := by
  have idle : (s.frameTaken k).moveAwaited k = none := State.moveAwaited_none fun q => by
    rw [s.frameTaken_inFlight]
    exact h q
  rw [State.takeState_eq, idle]

theorem State.reportTaken_stand (s v : State) (k : SwitchNo) (p : Pole) (raw : Option (BitVec 16)) :
    v.SequencesStand (s.reportTaken k p raw v) := by
  unfold State.reportTaken
  split
  · exact (v.retryPush_stand k).trans (State.takeResidual_stand _ _ _ _)
  · exact State.takeResidual_stand _ _ _ _

/-- Settles O38. -/
theorem stateReportMovesTheSequence : Obligations.StateReportMovesTheSequence := by
  unfold Obligations.StateReportMovesTheSequence
  intro s address k pole raw hs owner idle q moved
  refine ⟨s.takeState k pole raw, congrArg Host.Outcome.next (State.fromUnit_working hs owner _), ?_⟩
  rw [State.takeState_report idle]
  generalize written : (s.frameTaken k).setRuntime k { (s.frameTaken k).runtime k with position := poleOf pole } = u
  have before : s.SequencesStand u := by
    rw [← written]
    exact (s.frameTaken_stand k).trans ⟨rfl, rfl⟩
  have after := (State.huntPosition_stand (u.rcsPosition k pole) k pole (((s.frameTaken k).runtime k).position != poleOf pole)).trans
    (s.reportTaken_stand _ k pole raw)
  have told := u.rcsPosition_told k pole
  have here := u.rcsPosition_here k pole
  have count := u.rcsPosition_count k pole
  have time : u.reclaimTime k = s.reclaimTime k := by
    obtain ⟨-, fmu, -, fsu, -⟩ := (s.frameTaken_attended k).fields
    rw [← written, State.reclaimTime, State.reclaimTime,
      State.effectiveGroup_congr (t := (s.frameTaken k).setRuntime k _) fmu fsu k]
  change (u.rcsPosition k pole).SequencesStand (s.reportTaken k pole raw (u.reportPosition k pole _)) at after
  generalize s.reportTaken k pole raw (u.reportPosition k pole _) = t at *
  rw [before.seq k, time, ← after.seq k] at here
  have running : t.runningSequences = (u.rcsPosition k pole).runningSequences :=
    State.runningSequences_congr fun j => by rw [after.seq j]
  rw [before.seq k, before.2, ← after.2, ← running] at count
  refine ⟨fun j hj => ((after.seq j).trans (told.seq_other hj)).trans (before.seq j), ?_, count⟩
  unfold Sequence.reported at here
  cases e : q.state
  case deadTime n =>
    rw [show (s.seq k).state = _ from e] at here
    cases pole
    · exact here
    · rw [here]
      refine ⟨rfl, fun g group => ?_⟩
      rw [← State.reclaimTime_of group]
      rfl
  all_goals
    rw [show (s.seq k).state = _ from e] at here
    cases pole <;> exact here

end Sys2Proof.Machine
end

section
/-! The residual counts that a STATE carries: the watch and the candidates (R121, R122, R124, R132, R133, R141, R148). -/

namespace Sys2Proof.Machine

/-! ### The watch's move (R124, R126) -/

/-- The watch's move retries the start of a case (R126). -/
def State.RetriesAt (s : State) (before after : Bool) : Prop :=
  s.ehu.watch.state = .watching ∧ s.ehu.watch.confirmed = true ∧ before = true ∧ after = true ∧ s.ehu.params.autoStart = true

/-- The watch after its move, no start being retried (R124). -/
def State.watchMoved (s : State) (before after : Bool) : Watch :=
  let w := s.ehu.watch
  if w.state = .idle ∧ before = false ∧ after = true then
    { w with
      state := .watching, confirmed := false
      confirmTimer := .running (10 * s.ehu.params.confirm) (10 * s.ehu.params.confirm) }
  else if w.state = .watching ∧ before = true ∧ after = false then
    if w.confirmed = true then { w with state := .idle, confirmed := false, lastRefusal := none }
    else { w with state := .idle, confirmTimer := .stopped }
  else w

/-- The confirmed watch has lost its episode: its deferred start is forgotten (R126). -/
def State.forgets (s : State) (before after : Bool) : Prop :=
  s.ehu.watch.state = .watching ∧ s.ehu.watch.confirmed = true ∧ before = true ∧ after = false

theorem State.watchMove_spec {s : State} {before after : Bool} (h : ¬ s.RetriesAt before after) :
    (s.watchMove before after).ehu.watch = s.watchMoved before after
      ∧ (s.watchMove before after).ehu.huntCase = { s.ehu.huntCase with
          startDeferred := (s.watchMove before after).ehu.huntCase.startDeferred }
      ∧ (s.forgets before after → (s.watchMove before after).noticed .hunt
          ∧ (s.watchMove before after).ehu.huntCase.startDeferred = false) := by
  unfold State.watchMove State.watchMoved
  dsimp only
  split
  next state =>
    rw [if_pos ⟨state, rfl, rfl⟩]
    exact ⟨rfl, rfl, fun ⟨watching, _⟩ => by rw [state] at watching; cases watching⟩
  next state =>
    have fell : ¬ (s.ehu.watch.state = .idle ∧ true = false ∧ false = true) := fun ⟨_, no, _⟩ => by cases no
    rw [if_neg fell, if_pos (show s.ehu.watch.state = .watching ∧ true = true ∧ false = false from ⟨state, rfl, rfl⟩)]
    split
    next confirmed => exact ⟨rfl, rfl, fun _ => ⟨State.noticed_notify _ _, rfl⟩⟩
    next unconfirmed => exact ⟨rfl, rfl, fun ⟨_, confirmed, _⟩ => absurd confirmed unconfirmed⟩
  next state =>
    have undue : ¬ s.startDue := fun ⟨_, confirmed, auto⟩ => h ⟨state, confirmed, rfl, rfl, auto⟩
    have kept : ¬ (s.ehu.watch.state = .idle ∧ true = false ∧ true = true) := fun ⟨_, no, _⟩ => by cases no
    have stays : ¬ (s.ehu.watch.state = .watching ∧ true = true ∧ true = false) := fun ⟨_, _, no⟩ => by cases no
    rw [State.retryStart_undue undue, if_neg kept, if_neg stays]
    exact ⟨rfl, rfl, fun ⟨_, _, _, no⟩ => by cases no⟩
  next rises falls _ =>
    rw [if_neg fun ⟨state, low, high⟩ => rises state low high, if_neg fun ⟨state, high, low⟩ => falls state high low]
    exact ⟨rfl, rfl, fun ⟨state, _, high, low⟩ => absurd low (falls state high)⟩

/-! ### The case's move when the episode flag clears (R132, R148) -/

theorem State.caseFlagCleared_spec (s : State) : s.caseFlagCleared.ehu.watch = s.ehu.watch
    ∧ s.caseFlagCleared.ehu.huntCase.candidates = s.ehu.huntCase.candidates
    ∧ s.caseFlagCleared.ehu.huntCase.cleared = s.ehu.huntCase.cleared
    ∧ s.caseFlagCleared.ehu.huntCase.startDeferred = s.ehu.huntCase.startDeferred
    ∧ (∀ n, s.noticed n → s.caseFlagCleared.noticed n)
    ∧ (s.ehu.huntCase.state = .locating →
        s.caseFlagCleared.ehu.huntCase.state = .locating ∧ s.caseFlagCleared.ehu.huntCase.clearedInWindow = true)
    ∧ (s.ehu.huntCase.state = .suspended → s.caseFlagCleared.ehu.huntCase.state = .concluded
        ∧ s.caseFlagCleared.ehu.huntCase.result = some .selfCleared ∧ s.caseFlagCleared.noticed .hunt) := by
  unfold State.caseFlagCleared
  split
  next state =>
    exact ⟨rfl, rfl, rfl, rfl, fun _ h => h, fun _ => ⟨state, rfl⟩, fun no => by rw [state] at no; cases no⟩
  next state =>
    exact ⟨rfl, rfl, rfl, rfl, fun n h => State.noticed_kept _ _ _ h, fun no => (by rw [state] at no; cases no),
      fun _ => ⟨rfl, rfl, State.noticed_notify _ _⟩⟩
  next locating suspended =>
    exact ⟨rfl, rfl, rfl, rfl, fun _ h => h, fun no => absurd no locating, fun no => absurd no suspended⟩

/-! ### The deciding report (R141) -/

theorem State.attemptStart_deciding (s : State) : s.attemptStart.ehu.deciding = s.ehu.deciding := by
  have failed : ∀ r, (s.attemptFailed r).ehu.deciding = s.ehu.deciding := fun r => by
    unfold State.attemptFailed
    split
    · rfl
    · rfl
  unfold State.attemptStart
  split
  · rw [State.startCase_ehu]
  · exact failed _
  · exact failed _

theorem State.watchMove_deciding (s : State) (before after : Bool) : (s.watchMove before after).ehu.deciding = s.ehu.deciding := by
  unfold State.watchMove
  dsimp only
  split
  case h_1 => rfl
  case h_2 => split <;> rfl
  case h_3 =>
    unfold State.retryStart
    dsimp only
    split
    · exact s.attemptStart_deciding
    · rfl
  case h_4 => rfl

theorem State.caseFlagCleared_deciding (s : State) : s.caseFlagCleared.ehu.deciding = s.ehu.deciding := by
  unfold State.caseFlagCleared
  split <;> rfl

theorem State.observeHead_spec (s : State) (c : ReportClass) :
    (s.observeHead c).ehu = { s.ehu with deciding := (s.observeHead c).ehu.deciding }
      ∧ (s.observeHead c).fmu = s.fmu ∧ (s.observeHead c).svu = s.svu ∧ (s.observeHead c).rqi = s.rqi
      ∧ (∀ j o, s.ehu.huntCase.step = some ⟨j, .observing, o⟩ → (s.observeHead c).ehu.deciding = some c) := by
  unfold State.observeHead
  split
  next => exact ⟨rfl, rfl, rfl, rfl, fun _ _ _ => rfl⟩
  next other => exact ⟨rfl, rfl, rfl, rfl, fun j o observing => absurd observing (other j o)⟩

/-- The watch with a head report recorded (R122). -/
def State.headSeen (s : State) (v : Nat) (q : Quality) (c : ReportClass) : State :=
  { s with ehu.watch := { s.ehu.watch with
      episode := episodeAfter s.ehu.watch.episode c, lastHead := some ⟨v, q, c, s.svu.minute⟩ } }

theorem State.watchHead_eq (s : State) (v : Nat) (q : Quality) (c : ReportClass) : s.watchHead v q c =
    if s.ehu.watch.episode = true ∧ episodeAfter s.ehu.watch.episode c = false then
      ((s.headSeen v q c).watchMove s.ehu.watch.episode (episodeAfter s.ehu.watch.episode c)).caseFlagCleared
    else (s.headSeen v q c).watchMove s.ehu.watch.episode (episodeAfter s.ehu.watch.episode c) := by
  have clears : (s.ehu.watch.episode && !episodeAfter s.ehu.watch.episode c) = true
      ↔ (s.ehu.watch.episode = true ∧ episodeAfter s.ehu.watch.episode c = false) := by simp
  by_cases h : s.ehu.watch.episode = true ∧ episodeAfter s.ehu.watch.episode c = false
  · rw [if_pos h]
    exact if_pos (clears.mpr h)
  · rw [if_neg h]
    exact if_neg (mt clears.mp h)

theorem State.watchHead_deciding (s : State) (v : Nat) (q : Quality) (c : ReportClass) :
    (s.watchHead v q c).ehu.deciding = s.ehu.deciding := by
  rw [State.watchHead_eq]
  split
  · rw [State.caseFlagCleared_deciding, State.watchMove_deciding]
    rfl
  · rw [State.watchMove_deciding]
    rfl

/-- A head report taken by the watch where no start is retried (R122, R124, R132, R148). -/
theorem State.watchHead_spec {s : State} {v : Nat} {q : Quality} {c : ReportClass} {flag : Bool}
    (hflag : episodeAfter s.ehu.watch.episode c = flag) (h : ¬ s.RetriesAt s.ehu.watch.episode flag) :
    (s.watchHead v q c).ehu.watch = (s.headSeen v q c).watchMoved s.ehu.watch.episode flag
      ∧ (s.forgets s.ehu.watch.episode flag → (s.watchHead v q c).noticed .hunt
          ∧ (s.watchHead v q c).ehu.huntCase.startDeferred = false)
      ∧ (s.watchHead v q c).ehu.huntCase.candidates = s.ehu.huntCase.candidates
      ∧ (s.watchHead v q c).ehu.huntCase.cleared = s.ehu.huntCase.cleared
      ∧ (s.ehu.watch.episode = true → flag = false →
          (s.ehu.huntCase.state = .locating → (s.watchHead v q c).ehu.huntCase.state = .locating
            ∧ (s.watchHead v q c).ehu.huntCase.clearedInWindow = true)
          ∧ (s.ehu.huntCase.state = .suspended → (s.watchHead v q c).ehu.huntCase.state = .concluded
            ∧ (s.watchHead v q c).ehu.huntCase.result = some .selfCleared ∧ (s.watchHead v q c).noticed .hunt)) := by
  obtain ⟨watch, case_, forgets⟩ := State.watchMove_spec (s := s.headSeen v q c) (before := s.ehu.watch.episode) (after := flag) h
  rw [State.watchHead_eq, hflag]
  generalize (s.headSeen v q c).watchMove s.ehu.watch.episode flag = t at *
  have candidates : t.ehu.huntCase.candidates = s.ehu.huntCase.candidates := by rw [case_]; rfl
  have cleared : t.ehu.huntCase.cleared = s.ehu.huntCase.cleared := by rw [case_]; rfl
  have state : t.ehu.huntCase.state = s.ehu.huntCase.state := by rw [case_]; rfl
  split
  next clears =>
    obtain ⟨watch', candidates', cleared', deferred', notices, locating, suspended⟩ := t.caseFlagCleared_spec
    refine ⟨watch'.trans watch, fun f => ?_, candidates'.trans candidates, cleared'.trans cleared, fun _ _ =>
      ⟨fun h => locating (state.trans h), fun h => suspended (state.trans h)⟩⟩
    obtain ⟨notice, deferred⟩ := forgets f
    exact ⟨notices _ notice, deferred'.trans deferred⟩
  next stands => exact ⟨watch, forgets, candidates, cleared, fun high low => absurd ⟨high, low⟩ stands⟩

/-! ### A report of another switch (R133) -/

/-- Whether a candidate lies below a switch is a matter of the FMU's records. -/
theorem State.candidateBelow_congr {s t : State} (h : t.fmu = s.fmu) (k j : SwitchNo) : t.candidateBelow k j = s.candidateBelow k j := by
  obtain ⟨pending, draws, lines, _, htu, fsu, sou, rcs, ehu, svu, rqi⟩ := t
  cases h
  rfl

/-- What a report takes out of the candidates (R133). -/
def State.takenOut (s : State) (k : SwitchNo) (c : ReportClass) (j : SwitchNo) : Bool :=
  match c with | .above => !s.candidateBelow k j | .below => s.candidateBelow k j | .band => false

theorem State.locateReport_spec (s : State) (k : SwitchNo) (v : Nat) (p : Pole) :
    (s.locateReport k v p).ehu.watch = s.ehu.watch
      ∧ (s.ehu.huntCase.state = .locating → s.ehu.huntCase.listen ≠ .stopped → p = .closed →
          (s.locateReport k v p).ehu.huntCase = if s.ehu.thresholds.classify v = .band then s.ehu.huntCase
            else s.ehu.huntCase.eliminate (s.takenOut k (s.ehu.thresholds.classify v)))
      ∧ ((s.ehu.huntCase.state = .locating → s.ehu.huntCase.listen = .stopped ∨ p = .opened) →
          (s.locateReport k v p).ehu.huntCase = s.ehu.huntCase) := by
  have applies : (s.ehu.huntCase.state == .locating && s.ehu.huntCase.listen.isRunning && p == .closed) = true
      ↔ (s.ehu.huntCase.state = .locating ∧ s.ehu.huntCase.listen ≠ .stopped ∧ p = .closed) := by
    cases s.ehu.huntCase.listen <;> simp [Timer.isRunning]
  unfold State.locateReport
  by_cases h : s.ehu.huntCase.state = .locating ∧ s.ehu.huntCase.listen ≠ .stopped ∧ p = .closed
  · rw [if_pos (applies.mpr h)]
    refine ⟨?_, fun _ _ _ => ?_, fun other => ?_⟩
    · split <;> rfl
    · cases s.ehu.thresholds.classify v <;> rfl
    · obtain ⟨locating, running, closed⟩ := h
      rcases other locating with stopped | opened
      · exact absurd stopped running
      · rw [closed] at opened
        cases opened
  · rw [if_neg (mt applies.mp h)]
    exact ⟨rfl, fun locating running closed => absurd ⟨locating, running, closed⟩ h, fun _ => rfl⟩

theorem HuntCase.eliminate_eq (c : HuntCase) (out : SwitchNo → Bool) : c.eliminate out =
    if c.candidates.filter (fun j => !out j) = [] then { c with inconsistent := true }
    else { c with
      candidates := c.candidates.filter fun j => !out j, cleared := c.cleared ++ c.candidates.filter out } := by
  unfold HuntCase.eliminate
  dsimp only
  simp only [List.isEmpty_iff]

/-! ### Settling the residual report -/

theorem normalise_eq (raw multiplier shift : Nat) : normalise raw multiplier shift =
    (min 65535 ((2 * raw * multiplier + 10 ^ shift) / (2 * 10 ^ shift)),
      if (2 * raw * multiplier + 10 ^ shift) / (2 * 10 ^ shift) ≤ 65535 then .good else .over) := by
  unfold normalise
  dsimp only
  split
  next low => rw [min_eq_right low]
  next high => rw [min_eq_left (le_of_lt (not_le.mp high))]

/-- A residual count of a sensing switch, kept and handed on (R102). -/
theorem State.takeResidual_sensing {s : State} {k : SwitchNo} {cfg : SwitchConfig} (config : s.config k = some cfg)
    (sensing : cfg.sensing = true) (p : Pole) (n : BitVec 16) :
    s.takeResidual k p (some n) = State.residualReport
      (s.setRuntime k { s.runtime k with lastResidual := some ⟨(normalise n.toNat cfg.multiplier cfg.shift).1,
        (normalise n.toNat cfg.multiplier cfg.shift).2, s.svu.minute⟩ })
      k (normalise n.toNat cfg.multiplier cfg.shift).1 (normalise n.toNat cfg.multiplier cfg.shift).2 p := by
  simp only [State.takeResidual, config, sensing, if_true]

/-- The state in which the residual count of a STATE is judged: the report taken, and the count kept. -/
theorem State.takeState_counted {s : State} {k : SwitchNo} {cfg : SwitchConfig} (config : s.config k = some cfg)
    (sensing : cfg.sensing = true) (idle : ∀ q, (s.runtime k).inFlight ≠ some ⟨q, .awaitMove⟩) (p : Pole) (n : BitVec 16) :
    ∃ x, s.Attended x ∧ s.takeState k p (some n) =
      x.residualReport k (normalise n.toNat cfg.multiplier cfg.shift).1 (normalise n.toNat cfg.multiplier cfg.shift).2 p := by
  rw [State.takeState_report idle]
  have reported := ((s.frameTaken_attended k).trans (t := s.frameTaken k) (.of_link
    (t := (s.frameTaken k).setRuntime k { (s.frameTaken k).runtime k with position := poleOf p }) rfl rfl rfl)).trans
    (State.reportPosition_attended _ k p (((s.frameTaken k).runtime k).position != poleOf p))
  unfold State.reportTaken
  generalize State.reportPosition _ k p _ = v at *
  have pushed : s.Attended (if s.pollAnswered k then v.retryPush k else v) := by
    split
    · exact reported.trans (v.retryPush_attended k)
    · exact reported
  generalize (if s.pollAnswered k then v.retryPush k else v) = w at *
  obtain ⟨-, fmu, -⟩ := pushed.fields
  refine ⟨_, ?_, State.takeResidual_sensing ((State.config_congr fmu k).trans config) sensing p n⟩
  exact pushed.trans (.of_link rfl rfl rfl)

theorem Thresholds.classify_eq (t : Thresholds) (v : Nat) : t.classify v =
    if t.pickup ≤ v then .above else if 100 * v ≤ t.pickup * t.dropoff then .below else .band := by
  rw [Thresholds.classify, Nat.mul_comm v 100]

/-- The case before the count is judged has the step, the candidates and the cleared list of the one before the frame. -/
theorem State.CaseStands.lists {s t : State} (h : s.CaseStands t) : t.ehu.huntCase.step = s.ehu.huntCase.step
    ∧ t.ehu.huntCase.candidates = s.ehu.huntCase.candidates ∧ t.ehu.huntCase.cleared = s.ehu.huntCase.cleared := by
  rcases h with same | ⟨-, -, resumed⟩
  · rw [same]
    exact ⟨rfl, rfl, rfl⟩
  · rw [resumed]
    exact ⟨rfl, rfl, rfl⟩

/-- A case that no trip suspended stands. -/
theorem State.CaseStands.same {s t : State} (h : s.CaseStands t)
    (notTrip : s.ehu.huntCase.state = .suspended → ∀ p, s.ehu.huntCase.suspension = some p → p.kind ≠ .trip) :
    t.ehu.huntCase = s.ehu.huntCase := by
  rcases h with same | ⟨suspended, ⟨j, trip⟩, -⟩
  · exact same
  · exact absurd rfl (notTrip suspended _ trip)

/-- The head's residual count, judged (R122, R124, R126, R141, R148). -/
theorem State.headReport_commissioning {s : State} (v : Nat) (q : Quality) (mode : s.fmu.mode = .commissioning) :
    s.headReport v q = s.observeHead (s.ehu.thresholds.classify v) := by
  unfold State.headReport
  dsimp only
  rw [mode]
  exact if_neg Bool.false_ne_true

theorem State.headReport_service {s : State} (v : Nat) (q : Quality) (mode : s.fmu.mode = .service) :
    s.headReport v q = (s.observeHead (s.ehu.thresholds.classify v)).watchHead v q (s.ehu.thresholds.classify v) := by
  unfold State.headReport
  dsimp only
  rw [mode]
  exact if_pos rfl

/-- Settles O39. -/
theorem residualReportsMoveTheWatchAndTheCandidates : Obligations.ResidualReportsMoveTheWatchAndTheCandidates := by
  unfold Obligations.ResidualReportsMoveTheWatchAndTheCandidates
  intro s address k cfg pole n hs owner config sensing idle w c raw v quality cls flag seen
  refine ⟨s.takeState k pole (some n), congrArg Host.Outcome.next (State.fromUnit_working hs owner _), ?_⟩
  obtain ⟨x, attended, taken⟩ := State.takeState_counted config sensing idle pole n
  rw [normalise_eq] at taken
  change _ = x.residualReport k v quality pole at taken
  rw [taken]
  obtain ⟨lines, fmu, htu, fsu, svu⟩ := attended.fields
  have ehu := attended.ehu
  have watch : x.ehu.watch = w := by rw [ehu]
  have params : x.ehu.params = s.ehu.params := by rw [ehu]
  have class_ : x.ehu.thresholds.classify v = cls := by
    rw [Thresholds.classify_eq, show x.ehu.thresholds = s.ehu.thresholds by rw [ehu]]
  obtain ⟨step, candidates, cleared⟩ := attended.case_.lists
  have stands := attended.case_.same
  refine ⟨fun head => ?_, fun other => ?_⟩
  · have report : x.residualReport k v quality pole = x.headReport v quality := if_pos (by rw [head]; rfl)
    obtain ⟨observed, fmu', svu', rqi', deciding⟩ := x.observeHead_spec cls
    rw [report]
    have judged : (x.observeHead cls).ehu.watch = w ∧ (x.observeHead cls).ehu.params = s.ehu.params
        ∧ (x.observeHead cls).ehu.huntCase = x.ehu.huntCase := by
      rw [observed]
      exact ⟨watch, params, rfl⟩
    obtain ⟨watch', params', case'⟩ := judged
    have serves : s.fmu.mode = .service → x.headReport v quality = (x.observeHead cls).watchHead v quality cls := fun mode => by
      rw [State.headReport_service v quality (by rw [fmu]; exact mode), class_]
    have flagged : episodeAfter (x.observeHead cls).ehu.watch.episode cls = flag := by
      rw [watch']
      rfl
    have headSeen : ((x.observeHead cls).headSeen v quality cls).ehu.watch = seen := by
      change ({ (x.observeHead cls).ehu.watch with
        episode := episodeAfter (x.observeHead cls).ehu.watch.episode cls
        lastHead := some ⟨v, quality, cls, (x.observeHead cls).svu.minute⟩ } : Watch) = seen
      rw [flagged, watch', svu', svu]
    have spec (h : ¬ (x.observeHead cls).RetriesAt (x.observeHead cls).ehu.watch.episode flag) :=
      State.watchHead_spec (s := x.observeHead cls) (v := v) (q := quality) flagged h
    rw [watch', case', candidates, cleared] at spec
    refine ⟨fun mode => ?_, fun j o observing => ?_, fun mode quiet => ?_, fun mode high low => ?_⟩
    · rw [State.headReport_commissioning v quality (by rw [fmu]; exact mode), class_]
      exact watch'
    · have decided := deciding j o (step.trans observing)
      cases mode : s.fmu.mode with
      | commissioning => rw [State.headReport_commissioning v quality (by rw [fmu]; exact mode), class_, decided]
      | service => rw [serves mode, State.watchHead_deciding, decided]
    · obtain ⟨moved, forgets, candidates', cleared', -⟩ := spec (by
        rintro ⟨state, confirmed, high, rises, auto⟩
        rw [watch'] at state confirmed
        rw [params'] at auto
        exact quiet ⟨state, confirmed, high, rises, auto⟩)
      rw [serves mode]
      refine ⟨moved.trans ?_, fun state confirmed high low => forgets ?_, candidates', cleared'⟩
      · unfold State.watchMoved
        rw [headSeen, show ((x.observeHead cls).headSeen v quality cls).ehu.params = s.ehu.params from params']
      · rw [State.forgets, watch']
        exact ⟨state, confirmed, high, low⟩
    · obtain ⟨-, -, -, -, clears⟩ := spec (fun ⟨_, _, _, rises, _⟩ => by rw [low] at rises; cases rises)
      obtain ⟨locating, suspended⟩ := clears high low
      rw [serves mode]
      refine ⟨fun state => locating ?_, fun state notTrip => suspended ?_⟩
      · rw [stands fun no => by rw [state] at no; cases no]
        exact state
      · rw [stands fun _ => notTrip]
        exact state
  · have report : x.residualReport k v quality pole = x.locateReport k v pole := if_neg (by simpa using other)
    obtain ⟨watch', located, stood⟩ := x.locateReport_spec k v pole
    rw [report]
    refine ⟨watch'.trans watch, ?_⟩
    intro out left
    refine ⟨fun state listen closed => ?_, fun still notTrip => ?_⟩
    · have same := stands fun no => by rw [state] at no; cases no
      rw [same] at located
      rw [located state listen closed, class_]
      split
      next => rfl
      next =>
        have below : x.takenOut k cls = out := by
          funext j
          unfold State.takenOut
          rw [State.candidateBelow_congr fmu] <;> rfl
        rw [HuntCase.eliminate_eq, below]
    · rw [stood (by rw [stands notTrip]; exact still), stands notTrip]
      exact ⟨rfl, rfl⟩

end Sys2Proof.Machine
end

section
/-! A change of danger: the profiles compared and the sequences evaluated again (R64, R73, R97, R114). -/

namespace Sys2Proof.Machine

/-! ### The switches of a district -/

/-- The levels and groups of the switches are a matter of the FMU's and the FSU's records. -/
theorem State.requiredProfile_congr {s t : State} (fmu : t.fmu = s.fmu) (fsu : t.fsu = s.fsu) (k : SwitchNo) :
    t.requiredProfile k = s.requiredProfile k := by
  rw [State.requiredProfile, State.effectiveGroup_congr fmu fsu]
  rfl

theorem State.districtOf_congr {s t : State} (fmu : t.fmu = s.fmu) (k : SwitchNo) : t.districtOf k = s.districtOf k := by
  obtain ⟨pending, draws, lines, _, htu, fsu, sou, rcs, ehu, svu, rqi⟩ := t
  cases fmu
  rfl

theorem State.feederThresholds_congr {s t : State} (fmu : t.fmu = s.fmu) (fsu : t.fsu = s.fsu) :
    t.feederThresholds = s.feederThresholds := by
  obtain ⟨pending, draws, lines, _, htu, _, sou, rcs, ehu, svu, rqi⟩ := t
  cases fmu
  cases fsu
  rfl

theorem State.configured_of_district {s : State} {k : SwitchNo} {d : DistrictNo} (h : s.districtOf k = some d) :
    s.configured k = true := by
  unfold State.districtOf at h
  unfold State.configured
  cases e : s.config k with
  | none => rw [e] at h; cases h
  | some c => rfl

theorem State.mem_switchesOf {s : State} {test : DistrictNo → Bool} {k : SwitchNo} :
    k ∈ s.switchesOf test ↔ ∃ d, s.districtOf k = some d ∧ test d = true := by
  simp only [State.switchesOf, State.configuredSwitches, List.mem_filter, mem_allSwitches, true_and, Option.any_eq_true]
  exact ⟨fun h => h.2, fun ⟨d, hd, ht⟩ => ⟨State.configured_of_district hd, d, hd, ht⟩⟩

theorem State.switchesOf_nodup (s : State) (test : DistrictNo → Bool) : (s.switchesOf test).Nodup :=
  ((List.nodup_finRange 16).filter _).filter _

theorem State.switchesOf_congr {s t : State} (fmu : t.fmu = s.fmu) (test : DistrictNo → Bool) :
    t.switchesOf test = s.switchesOf test := by
  have config : t.configured = s.configured := funext fun k => congrArg Option.isSome (State.config_congr fmu k)
  simp only [State.switchesOf, State.configuredSwitches, config, State.districtOf_congr fmu]

/-! ### The polls wanted of the switches -/

/-- The records of the switches, the polls wanted of them apart. -/
def State.PollsOnly (s t : State) : Prop := ∀ k, t.runtime k = { s.runtime k with pollWanted := (t.runtime k).pollWanted }

theorem State.PollsOnly.refl (s : State) : s.PollsOnly s := fun _ => rfl

theorem State.PollsOnly.trans {s t u : State} (a : s.PollsOnly t) (b : t.PollsOnly u) : s.PollsOnly u := fun k => by
  rw [b k, a k]

theorem State.PollsOnly.of_sou {s t : State} (h : t.sou = s.sou) : s.PollsOnly t := fun k => by
  rw [State.runtime_congr h]

/-! ### The profiles (R97) -/

/-- The record of a switch with its profile compared with the one required. -/
def State.reviewed (s : State) (k : SwitchNo) : Runtime :=
  match s.requiredProfile k with
  | none => { s.runtime k with pushWanted := false }
  | some code =>
    if (s.runtime k).confirmed = some code then { s.runtime k with profileState := .confirmed, pushWanted := false }
    else { s.runtime k with profileState := .pending, pushWanted := true }

theorem State.reviewProfile_eq (s : State) (k : SwitchNo) : s.reviewProfile k =
    if s.configured k then s.setRuntime k (s.reviewed k) else s := by
  unfold State.reviewProfile State.reviewed
  dsimp only
  split
  · cases s.requiredProfile k with
    | none => rfl
    | some code =>
      dsimp only
      split <;> rfl
  · rfl

/-- Comparing profiles writes the records of the switches alone. -/
structure State.Reviewed (s t : State) : Prop where
  others : t.others = s.others
  rcs : t.rcs = s.rcs
  ehu : t.ehu = s.ehu
  rqi : t.rqi = s.rqi
  sou : t.sou = { s.sou with runtime := t.sou.runtime }

theorem State.reviewProfiles_spec {ks : List SwitchNo} (distinct : ks.Nodup) (s : State) : s.Reviewed (s.reviewProfiles ks)
    ∧ ∀ k, (s.reviewProfiles ks).runtime k = if k ∈ ks ∧ s.configured k = true then s.reviewed k else s.runtime k := by
  induction ks generalizing s with
  | nil => exact ⟨⟨rfl, rfl, rfl, rfl, rfl⟩, fun k => by simp [State.reviewProfiles]⟩
  | cons j ks ih =>
    obtain ⟨fresh, distinct⟩ := List.nodup_cons.mp distinct
    have one : s.Reviewed (s.reviewProfile j) ∧ ∀ k, (s.reviewProfile j).runtime k =
        if k = j ∧ s.configured k = true then s.reviewed k else s.runtime k := by
      rw [State.reviewProfile_eq]
      split
      next configured =>
        refine ⟨⟨rfl, rfl, rfl, rfl, rfl⟩, fun k => ?_⟩
        by_cases e : k = j
        · subst e
          rw [State.runtime_setRuntime_same, if_pos ⟨rfl, configured⟩]
        · rw [State.runtime_setRuntime_other _ _ e, if_neg fun h => e h.1]
      next unconfigured =>
        refine ⟨⟨rfl, rfl, rfl, rfl, rfl⟩, fun k => ?_⟩
        rw [if_neg]
        rintro ⟨rfl, configured⟩
        exact unconfigured configured
    obtain ⟨first, runtime⟩ := one
    obtain ⟨rest, runtime'⟩ := ih distinct (s.reviewProfile j)
    have fields := first.others
    simp only [State.others, Prod.mk.injEq] at fields
    obtain ⟨-, -, -, fmu, -, fsu, -⟩ := fields
    change s.Reviewed ((s.reviewProfile j).reviewProfiles ks) ∧ ∀ k, ((s.reviewProfile j).reviewProfiles ks).runtime k = _
    refine ⟨⟨rest.others.trans first.others, rest.rcs.trans first.rcs, rest.ehu.trans first.ehu, rest.rqi.trans first.rqi, ?_⟩,
      fun k => ?_⟩
    · rw [rest.sou, first.sou]
    · have configured : (s.reviewProfile j).configured k = s.configured k := congrArg Option.isSome (State.config_congr fmu k)
      rw [runtime', configured]
      by_cases e : k = j
      · subst e
        rw [if_neg fun h => fresh h.1, runtime]
        simp
      · have same : (s.reviewProfile j).runtime k = s.runtime k := (runtime k).trans (if_neg fun h => e h.1)
        have reviewed : (s.reviewProfile j).reviewed k = s.reviewed k := by
          unfold State.reviewed
          rw [State.requiredProfile_congr fmu fsu, same]
        rw [reviewed, same]
        simp [e]

/-- The fields of a record whose profile is compared. -/
theorem State.reviewed_spec (s : State) (k : SwitchNo) :
    s.reviewed k = { s.runtime k with profileState := (s.reviewed k).profileState, pushWanted := (s.reviewed k).pushWanted }
      ∧ ∀ code, s.requiredProfile k = some code →
        if (s.runtime k).confirmed = some code then
          (s.reviewed k).profileState = .confirmed ∧ (s.reviewed k).pushWanted = false
        else (s.reviewed k).profileState = .pending ∧ (s.reviewed k).pushWanted = true := by
  unfold State.reviewed
  cases required : s.requiredProfile k with
  | none => exact ⟨rfl, nofun⟩
  | some code =>
    dsimp only
    refine ⟨?_, ?_⟩
    · split <;> rfl
    · rintro _ ⟨⟩
      split
      · exact ⟨rfl, rfl⟩
      · exact ⟨rfl, rfl⟩

/-! ### The sequences (R114) -/

/-- A dead time of a shot no longer allowed. -/
def State.Overdue (s : State) (k : SwitchNo) : Prop :=
  ∃ n g, (s.seq k).state = .deadTime n ∧ s.effectiveGroup k = some g ∧ g.shots < n

theorem State.reevaluate_overdue {s : State} {k : SwitchNo} (h : s.Overdue k) : s.reevaluate k = s.lockOut k .level := by
  obtain ⟨n, g, state, group, fewer⟩ := h
  simp only [State.reevaluate, state, group, if_pos fewer]

theorem State.reevaluate_stands {s : State} {k : SwitchNo} (h : ¬ s.Overdue k) : s.reevaluate k = s := by
  unfold State.reevaluate
  split
  next n g state group => exact if_neg fun fewer => h ⟨n, g, state, group, fewer⟩
  next => rfl

/-- What evaluating the sequences again does: the records of the switches stand but for polls, and each overdue sequence is locked out. -/
structure State.Reevaluated (s t : State) (ks : List SwitchNo) : Prop where
  attended : s.Attended t
  polls : s.PollsOnly t
  sou : t.sou = { s.sou with runtime := t.sou.runtime }
  late : ∀ k ∈ ks, s.Overdue k → t.seq k = (s.seq k).lockedOut .level s.svu.minute ∧ t.noticed .lockout
  stand : ∀ k, ¬ (k ∈ ks ∧ s.Overdue k) → t.seq k = s.seq k

theorem State.reevaluateAll_spec {ks : List SwitchNo} (distinct : ks.Nodup) (s : State) : s.Reevaluated (s.reevaluateAll ks) ks := by
  induction ks generalizing s with
  | nil => exact ⟨.refl s, .refl s, rfl, nofun, fun _ _ => rfl⟩
  | cons j ks ih =>
    obtain ⟨fresh, distinct⟩ := List.nodup_cons.mp distinct
    obtain ⟨attended, polls, sou, late, stand⟩ := ih distinct (s.reevaluate j)
    have told := s.reevaluate_told j
    have overdue : ∀ k, k ≠ j → ((s.reevaluate j).Overdue k ↔ s.Overdue k) := fun k e => by
      unfold State.Overdue
      rw [told.seq_other e, State.effectiveGroup_congr told.fmu told.fsu]
    change s.Reevaluated ((s.reevaluate j).reevaluateAll ks) (j :: ks)
    refine ⟨told.attended.trans attended, State.PollsOnly.trans (fun k => told.runtime k) polls, ?_, fun k mem due => ?_, fun k other => ?_⟩
    · rw [sou, told.sou]
    · by_cases e : k = j
      · subst e
        rw [stand k fun h => fresh h.1]
        rw [State.reevaluate_overdue due] at attended ⊢
        exact ⟨(State.lockOut_seq s k k .level).trans (if_pos rfl), attended.notices _ (State.lockOut_noticed s k .level)⟩
      · have later := late k ((List.mem_cons.mp mem).resolve_left e) ((overdue k e).mpr due)
        rw [told.seq_other e, told.svu] at later
        exact later
    · by_cases e : k = j
      · subst e
        rw [stand k fun h => fresh h.1, State.reevaluate_stands fun due => other ⟨List.mem_cons_self, due⟩]
      · rw [stand k fun ⟨mem, due⟩ => other ⟨List.mem_cons_of_mem _ mem, (overdue k e).mp due⟩, told.seq_other e]

/-! ### The consequences of a danger that changed (R64, R73) -/

/-- The profiles of some switches compared, the sequences of some evaluated again, and the thresholds handed over. -/
def State.dangerTaken (s : State) (profiles sequences : List SwitchNo) : State :=
  ((s.reviewProfiles profiles).reevaluateAll sequences).handThresholds

structure State.DangerFollows (s t : State) (profiles sequences : List SwitchNo) : Prop where
  others : t.others = s.others
  notices : ∀ n, s.noticed n → t.noticed n
  thresholds : t.ehu.thresholds = t.feederThresholds
  sou : t.sou = { s.sou with runtime := t.sou.runtime }
  runtime : ∀ k, t.runtime k = { s.runtime k with
    profileState := (t.runtime k).profileState, pushWanted := (t.runtime k).pushWanted, pollWanted := (t.runtime k).pollWanted }
  compared : ∀ k code, k ∈ profiles → s.configured k = true → s.requiredProfile k = some code →
    if (s.runtime k).confirmed = some code then (t.runtime k).profileState = .confirmed ∧ (t.runtime k).pushWanted = false
    else (t.runtime k).profileState = .pending ∧ (t.runtime k).pushWanted = true
  unpicked : ∀ k, k ∉ profiles → (t.runtime k).profileState = (s.runtime k).profileState
    ∧ (t.runtime k).pushWanted = (s.runtime k).pushWanted
  late : ∀ k ∈ sequences, s.Overdue k → t.seq k = (s.seq k).lockedOut .level s.svu.minute ∧ t.noticed .lockout
  stand : ∀ k, ¬ (k ∈ sequences ∧ s.Overdue k) → t.seq k = s.seq k
  params : t.ehu.params = s.ehu.params

theorem State.dangerTaken_follows {profiles sequences : List SwitchNo} (hp : profiles.Nodup) (hs : sequences.Nodup) (s : State) :
    s.DangerFollows (s.dangerTaken profiles sequences) profiles sequences := by
  obtain ⟨reviewed, runtime⟩ := State.reviewProfiles_spec hp s
  obtain ⟨attended, polls, sou, late, stand⟩ := State.reevaluateAll_spec hs (s.reviewProfiles profiles)
  have fields := reviewed.others
  simp only [State.others, Prod.mk.injEq] at fields
  obtain ⟨-, -, -, fmu, -, fsu, svu⟩ := fields
  have seq : ∀ k, (s.reviewProfiles profiles).seq k = s.seq k := fun k => State.seq_of_rcs reviewed.rcs k
  have overdue : ∀ k, (s.reviewProfiles profiles).Overdue k ↔ s.Overdue k := fun k => by
    unfold State.Overdue
    rw [seq, State.effectiveGroup_congr fmu fsu]
  have here : ∀ k, (s.dangerTaken profiles sequences).runtime k
      = { (s.reviewProfiles profiles).runtime k with pollWanted := ((s.dangerTaken profiles sequences).runtime k).pollWanted } := polls
  have changes : ∀ k, (s.reviewProfiles profiles).runtime k = { s.runtime k with
      profileState := ((s.reviewProfiles profiles).runtime k).profileState
      pushWanted := ((s.reviewProfiles profiles).runtime k).pushWanted } := fun k => by
    rw [runtime]
    split
    · exact (s.reviewed_spec k).1
    · rfl
  have ehu := attended.ehu
  rw [reviewed.ehu] at ehu
  unfold State.dangerTaken at here ⊢
  generalize (s.reviewProfiles profiles).reevaluateAll sequences = t at *
  have profile : ∀ k, (t.handThresholds.runtime k).profileState = ((s.reviewProfiles profiles).runtime k).profileState
      ∧ (t.handThresholds.runtime k).pushWanted = ((s.reviewProfiles profiles).runtime k).pushWanted := fun k => by
    rw [here k]
    exact ⟨rfl, rfl⟩
  refine ⟨attended.others.trans reviewed.others, fun n h => attended.notices n (State.noticed_of_rqi reviewed.rqi h), rfl, ?_,
    fun k => ?_, fun k code mem configured required => ?_, fun k other => ?_, fun k mem due => ?_, fun k other => ?_, ?_⟩
  · exact sou.trans (congrArg (fun x : Sou => { x with runtime := t.sou.runtime }) reviewed.sou)
  · rw [(profile k).1, (profile k).2, here k, changes k]
  · have picked : k ∈ profiles ∧ s.configured k = true := ⟨mem, configured⟩
    rw [(profile k).1, (profile k).2, runtime, if_pos picked]
    exact (s.reviewed_spec k).2 code required
  · have unpicked : ¬ (k ∈ profiles ∧ s.configured k = true) := fun h => other h.1
    rw [(profile k).1, (profile k).2, runtime, if_neg unpicked]
    exact ⟨rfl, rfl⟩
  · have later := late k mem ((overdue k).mpr due)
    rw [seq, svu] at later
    exact later
  · exact (stand k fun ⟨mem, due⟩ => other ⟨mem, (overdue k).mp due⟩).trans (seq k)
  · exact (congrArg Ehu.params ehu :)

/-! ### A change of the setting groups (R64, R79) -/

/-- The levels in force whose groups differ from the old ones. -/
def State.changedGroups (s : State) (old : Groups) : List Level := allLevels.filter fun l => old.get l != s.group l && s.inForce l

theorem State.mem_changedGroups {s : State} {old : Groups} {l : Level} :
    l ∈ s.changedGroups old ↔ old.get l ≠ s.group l ∧ ∃ d, (s.district d).effective = l := by
  have all : l ∈ allLevels := by cases l <;> decide
  simp [State.changedGroups, all, State.inForce, mem_allDistricts]

/-- The switches whose profile code the change of their group moved, and those whose group it changed. -/
def State.profilesMoved (s : State) (old : Groups) : List SwitchNo := s.switchesOf fun d =>
  (s.changedGroups old).contains (s.district d).effective
    && (old.get (s.district d).effective).profile != (s.group (s.district d).effective).profile

def State.groupsMoved (s : State) (old : Groups) : List SwitchNo := s.switchesOf fun d =>
  (s.changedGroups old).contains (s.district d).effective

theorem State.groupConsequences_eq (s : State) (old : Groups) : s.groupConsequences old =
    if s.changedGroups old = [] then s
    else (s.notify .level).dangerTaken (s.profilesMoved old) (s.groupsMoved old) := by
  have reviewed := (State.reviewProfiles_spec (s.switchesOf_nodup _) (s.notify .level) (ks := s.profilesMoved old)).1.others
  simp only [State.others, Prod.mk.injEq] at reviewed
  obtain ⟨-, -, -, fmu, -, fsu, -⟩ := reviewed
  have sequences : ((s.notify .level).reviewProfiles (s.profilesMoved old)).switchesOf
      (fun d => (s.changedGroups old).contains
        ((((s.notify .level).reviewProfiles (s.profilesMoved old)).district d).effective)) = s.groupsMoved old := by
    rw [State.switchesOf_congr (s := s) fmu]
    simp only [State.district_congr (s := s) fsu]
    rfl
  by_cases none_ : s.changedGroups old = []
  · rw [if_pos none_]
    exact if_pos (List.isEmpty_iff.mpr none_)
  · rw [if_neg none_, State.dangerTaken, ← sequences]
    exact if_neg (mt List.isEmpty_iff.mp none_)

theorem State.mem_groupsMoved {s : State} {old : Groups} {k : SwitchNo} : k ∈ s.groupsMoved old ↔
    ∃ d, s.districtOf k = some d ∧ old.get (s.district d).effective ≠ s.group (s.district d).effective := by
  rw [State.groupsMoved, State.mem_switchesOf]
  refine exists_congr fun d => and_congr_right fun _ => ?_
  rw [List.contains_iff_mem, State.mem_changedGroups]
  exact ⟨fun h => h.1, fun h => ⟨h, d, rfl⟩⟩

theorem State.mem_profilesMoved {s : State} {old : Groups} {k : SwitchNo} : k ∈ s.profilesMoved old ↔
    ∃ d, s.districtOf k = some d
      ∧ (old.get (s.district d).effective).profile ≠ (s.group (s.district d).effective).profile := by
  rw [State.profilesMoved, State.mem_switchesOf]
  refine exists_congr fun d => and_congr_right fun _ => ?_
  rw [Bool.and_eq_true, List.contains_iff_mem, State.mem_changedGroups, bne_iff_ne]
  exact ⟨fun h => h.2, fun h => ⟨⟨fun same => h (congrArg Group.profile same), d, rfl⟩, h⟩⟩

theorem Groups.get_put (g : Groups) (v : Group) (l m : Level) : (g.put v l).get m = if m = l then v else g.get m := by
  cases l <;> cases m <;> rfl

/-! ### COMMIT GROUP (R63, R64) -/

/-- The FSU's records with a staged group committed. -/
def State.committed (s : State) (g : Staging) : State :=
  { s with fsu.groups := s.fsu.groups.put g.group g.level, fsu.staging := none }

theorem State.committed_group (s : State) (g : Staging) (l : Level) :
    (s.committed g).group l = if l = g.level then g.group else s.group l :=
  Groups.get_put _ _ _ _

/-- A committed group that is the one that stood, or that no district uses, changes nothing in force. -/
theorem State.committed_quiet {s : State} {g : Staging}
    (h : g.group = s.fsu.groups.get g.level ∨ ∀ d, (s.district d).effective ≠ g.level) :
    (s.committed g).changedGroups s.fsu.groups = [] := by
  rw [List.eq_nil_iff_forall_not_mem]
  rintro l mem
  obtain ⟨differs, d, force⟩ := State.mem_changedGroups.mp mem
  rw [State.committed_group] at differs
  by_cases e : l = g.level
  · rcases h with same | unused
    · rw [if_pos e, e] at differs
      exact differs same.symm
    · exact unused d (force.trans e)
  · rw [if_neg e] at differs
    exact differs rfl

theorem State.committed_uses {s : State} {g : Staging} {k : SwitchNo}
    (h : ∃ d, s.districtOf k = some d ∧ (s.district d).effective = g.level) : (s.committed g).effectiveGroup k = some g.group := by
  obtain ⟨d, district, level⟩ := h
  have group : (s.committed g).groupOfDistrict d = g.group := by
    rw [State.groupOfDistrict, State.committed_group]
    exact if_pos level
  rw [State.effectiveGroup, show (s.committed g).districtOf k = some d from district, ← group]
  rfl

/-- Settles O29. -/
theorem commitGroupWritesTheGroup : Obligations.CommitGroupWritesTheGroup := by
  unfold Obligations.CommitGroupWritesTheGroup
  intro s p g hs staging owner old groups uses
  have own : (s.taking p).ownStaging p = some g := State.ownStaging_of (s := s.taking p) staging owner
  refine ⟨fun risen => ?_, fun monotone => ?_⟩
  · cases fault : groups.orderFault with
    | none => exact absurd ((Groups.orderFault_none _).mp fault) risen
    | some x =>
      obtain ⟨n, pair⟩ := x
      refine ⟨n, pair, rfl, ?_⟩
      have carried : (s.taking p).carryOut p .commitGroup = (s.taking p, ⟨.refusedOrder, .order n pair⟩) := by
        have fault' : ((s.taking p).fsu.groups.put g.group g.level).orderFault = some (n, pair) := fault
        simp only [State.carryOut, State.commitGroup, own, fault']
      exact (exec_unmoved (c := .commitGroup p) rfl hs (fun _ => rfl) rfl rfl carried :)
  · have passed : ((s.taking p).fsu.groups.put g.group g.level).orderFault = none := (Groups.orderFault_none _).mpr monotone
    have carried : (s.taking p).carryOut p .commitGroup
        = (((s.taking p).committed g).groupConsequences s.fsu.groups, .done (.committed g.level (old.changes g.group))) := by
      simp only [State.carryOut, State.commitGroup, own, passed]
      rfl
    by_cases quiet : g.group = old ∨ ∀ d, (s.district d).effective ≠ g.level
    · have none_ : ((s.taking p).committed g).changedGroups s.fsu.groups = [] := State.committed_quiet (s := s.taking p) quiet
      rw [State.groupConsequences_eq, if_pos none_] at carried
      have answered := exec_answered (c := .commitGroup p) rfl hs (fun _ => rfl) rfl rfl carried
      rw [show (s.taking p).committed g = (s.committed g).taking p from rfl, State.answer_taking] at answered
      refine ⟨s.committed g, answered, rfl, rfl, rfl, rfl, fun changed ⟨d, force⟩ => ?_, fun k => ⟨rfl, fun ⟨d, _, force⟩ moved => ?_,
        fun _ => ⟨rfl, rfl⟩⟩, fun k n ⟨d, _, force⟩ changed => ?_, fun _ _ => rfl, fun _ => ⟨rfl, rfl, rfl, rfl⟩⟩
      · exact quiet.elim (fun same => absurd same changed) fun unused => absurd force (unused d)
      · exact quiet.elim (fun same => absurd (congrArg Group.profile same) moved) fun unused => absurd force (unused d)
      · exact quiet.elim (fun same => absurd same changed) fun unused => absurd force (unused d)
    · obtain ⟨changed, force⟩ := not_or.mp quiet
      have some_ : ((s.taking p).committed g).changedGroups s.fsu.groups ≠ [] := by
        obtain ⟨d, level⟩ := not_forall_not.mp force
        refine List.ne_nil_of_mem (State.mem_changedGroups.mpr ⟨?_, d, level⟩)
        rw [State.committed_group, if_pos rfl]
        exact Ne.symm changed
      have moved : ∀ d, old ≠ g.group → (s.district d).effective = g.level →
          s.fsu.groups.get (s.district d).effective ≠ (s.committed g).group (s.district d).effective := fun d other level => by
        rw [State.committed_group, if_pos level, level]
        exact other
      have unmoved : ∀ d, s.fsu.groups.get (s.district d).effective ≠ (s.committed g).group (s.district d).effective →
          (s.district d).effective = g.level := fun d differs => by
        by_contra other
        rw [State.committed_group, if_neg other] at differs
        exact differs rfl
      rw [State.groupConsequences_eq, if_neg some_] at carried
      have follows := State.dangerTaken_follows (State.switchesOf_nodup _ _) (State.switchesOf_nodup _ _)
        (((s.taking p).committed g).notify .level)
        (profiles := ((s.taking p).committed g).profilesMoved s.fsu.groups)
        (sequences := ((s.taking p).committed g).groupsMoved s.fsu.groups)
      have answered := exec_answered (c := .commitGroup p) rfl hs (fun _ => rfl) rfl rfl carried
      generalize State.dangerTaken _ _ _ = t at *
      have fields := follows.others
      simp only [State.others, Prod.mk.injEq] at fields
      obtain ⟨-, -, -, fmu, htu, fsu, svu⟩ := fields
      refine ⟨t, answered, fsu, htu, fmu, svu,
        fun _ _ => ⟨follows.notices _ (State.noticed_notify _ _), follows.thresholds⟩,
        fun k => ⟨follows.runtime k, fun used differs => ?_, fun unused => follows.unpicked k fun mem => ?_⟩,
        fun k n used _ state fewer => ?_, fun k other => follows.stand k fun ⟨mem, due⟩ => other ?_, fun no => absurd no quiet⟩
      · have group := State.committed_uses (s := s.taking p) used
        obtain ⟨d, district, level⟩ := used
        refine follows.compared k g.group.profile (State.mem_profilesMoved.mpr ⟨d, district, fun same => differs ?_⟩)
          (State.configured_of_district (s := s) district) (congrArg (Option.map Group.profile) group)
        have level' : (((s.taking p).committed g).district d).effective = g.level := level
        rw [State.committed_group, if_pos level', level'] at same
        exact same.symm
      · obtain ⟨d, district, differs⟩ := State.mem_profilesMoved.mp mem
        have level := unmoved d fun same => differs (congrArg Group.profile same)
        rcases unused with unused | same
        · exact unused ⟨d, district, level⟩
        · have level' : (((s.taking p).committed g).district d).effective = g.level := level
          rw [State.committed_group, if_pos level', level'] at differs
          exact differs same.symm
      · have group := State.committed_uses (s := s.taking p) used
        obtain ⟨d, district, level⟩ := used
        exact follows.late k (State.mem_groupsMoved.mpr ⟨d, district, moved d (Ne.symm changed) level⟩) ⟨n, g.group, state, group, fewer⟩
      · obtain ⟨d, district, differs⟩ := State.mem_groupsMoved.mp mem
        obtain ⟨n, x, state, group, fewer⟩ := due
        have used : uses k := ⟨d, district, unmoved d differs⟩
        have same : x = g.group := Option.some.inj (group.symm.trans (State.committed_uses (s := s.taking p) used))
        exact ⟨used, changed, n, state, same ▸ fewer⟩

end Sys2Proof.Machine
end

section
/-! The FIRE holds: what placing and retiring them does, one after another (R74, R75, R78). -/

namespace Sys2Proof.Machine

/-! ### What the FIRE holds leave alone -/

/-- Placing and retiring FIRE holds leaves the settings, the sequences and the clock alone, the records of the switches but for polls
wanted, and every reservation on a district. -/
structure State.FireAdjusted (s t : State) : Prop where
  departed : s.Departed t
  svu : t.svu = s.svu
  polls : s.PollsOnly t
  reservations : ∀ q d v, (t.port q).reservation = some (.district d v) ↔ (s.port q).reservation = some (.district d v)
  fsu : t.fsu = { s.fsu with districts := t.fsu.districts }
  sou : t.sou = { s.sou with runtime := t.sou.runtime }

theorem State.FireAdjusted.refl (s : State) : s.FireAdjusted s := ⟨.refl s, rfl, .refl s, fun _ _ _ => Iff.rfl, rfl, rfl⟩

theorem State.FireAdjusted.trans {s t u : State} (a : s.FireAdjusted t) (b : t.FireAdjusted u) : s.FireAdjusted u :=
  ⟨a.departed.trans b.departed, b.svu.trans a.svu, a.polls.trans b.polls,
    fun q d v => (b.reservations q d v).trans (a.reservations q d v), by rw [b.fsu, a.fsu], by rw [b.sou, a.sou]⟩

theorem State.FireAdjusted.fmu {s t : State} (h : s.FireAdjusted t) : t.fmu = s.fmu := h.departed.1

theorem State.FireAdjusted.level {s t : State} (h : s.FireAdjusted t) (d : DistrictNo) :
    t.district d = { s.district d with fire := (t.district d).fire } := by
  obtain ⟨-, -, view, -⟩ := h.departed
  have level := State.view_district view d
  simp only [District.level, Prod.mk.injEq] at level
  obtain ⟨declared, effective, version⟩ := level
  change t.district d = ⟨(s.district d).declared, (s.district d).effective, (s.district d).version, (t.district d).fire⟩
  rw [← declared, ← effective, ← version]

theorem State.FireAdjusted.effective {s t : State} (h : s.FireAdjusted t) (d : DistrictNo) :
    (t.district d).effective = (s.district d).effective := by rw [h.level d]

theorem State.FireAdjusted.fireHoldFor {s t : State} (h : s.FireAdjusted t) (d : DistrictNo) : t.fireHoldFor d = s.fireHoldFor d := by
  have zones : t.districtZones d = s.districtZones d := by
    simp only [State.districtZones, State.zoneInfo, State.zone, h.fmu]
  rw [State.fireHoldFor, zones, h.svu]
  rfl

/-! ### A FIRE hold placed (R74) -/

theorem State.placeFire_adjusted (s : State) (d : DistrictNo) : s.FireAdjusted (s.placeFire d) := by
  obtain ⟨-, -, -, fmu, fsu, sou, rcs, -, svu⟩ := s.placeHold_frame (s.deviceHold .noReclose .plain .fire (s.districtZones d) (.district d))
  have view := State.placeFire_view s d
  have ports : ∀ h : Hold, (∀ n, s.noticed n → (s.placeHold h).1.noticed n)
      ∧ ∀ q, ((s.placeHold h).1.port q).reservation = (s.port q).reservation := fun h => by
    unfold State.placeHold
    split
    · exact ⟨fun _ h => h, fun _ => rfl⟩
    · exact ⟨fun n h => State.noticed_kept _ _ _ h, fun q => by cases q <;> rfl⟩
  obtain ⟨notices, reservations⟩ := ports (s.deviceHold .noReclose .plain .fire (s.districtZones d) (.district d))
  refine ⟨⟨fmu, rcs, view, notices⟩, svu, .of_sou sou, fun q e v => by rw [show ((s.placeFire d).port q).reservation
    = (s.port q).reservation from reservations q], ?_, (congrArg (fun x : Sou => { x with runtime := (s.placeFire d).sou.runtime }) sou :)⟩
  have written : (s.placeFire d).fsu
      = { (s.placeHold (s.deviceHold .noReclose .plain .fire (s.districtZones d) (.district d))).1.fsu with
        districts := (s.placeFire d).fsu.districts } := rfl
  rw [written, fsu]

/-- What a FIRE hold placed makes of the table and of the district's record. -/
structure State.FirePlaced (s t : State) (d : DistrictNo) (i : SlotNo) : Prop where
  empty : s.holdAt i = none
  slot : t.slot i = ⟨some (s.fireHoldFor d), (s.slot i).useCount⟩
  slots : ∀ j, j ≠ i → t.slot j = s.slot j
  fire : (t.district d).fire = some ⟨i, (s.slot i).useCount⟩
  districts : ∀ e, e ≠ d → t.district e = s.district e
  counts : t.htu.counts = s.htu.counts.modify (· + 1) .fire
  noticed : t.noticed .hold

theorem State.placeFire_at {s : State} {i : SlotNo} (empty : s.holdAt i = none) (low : ∀ j, j < i → (s.holdAt j).isSome = true)
    (d : DistrictNo) : s.FirePlaced (s.placeFire d) d i := by
  have placed := State.placeHold_of empty low (s.deviceHold .noReclose .plain .fire (s.districtZones d) (.district d))
  have slots : ∀ j, (s.placeFire d).slot j = if i = j then ⟨some (s.fireHoldFor d), (s.slot i).useCount⟩ else s.slot j :=
    fun j => State.placeHold_slot empty low (s.deviceHold .noReclose .plain .fire (s.districtZones d) (.district d)) j
  have districts := fun e => State.placeFire_district s d e
  rw [placed] at districts
  refine ⟨empty, (slots i).trans (if_pos rfl), fun j hj => (slots j).trans (if_neg (Ne.symm hj)), ?_,
    fun e he => (districts e).trans (if_neg (Ne.symm he)), ?_, ?_⟩
  · rw [districts, if_pos rfl]
  · rw [State.placeFire_htu, placed]
    rfl
  · have told : (s.placeHold (s.deviceHold .noReclose .plain .fire (s.districtZones d) (.district d))).1.noticed .hold := by
      rw [placed]
      exact State.noticed_notify _ _
    exact told

/-- A slot filled leaves one empty slot fewer. -/
theorem State.emptySlots_filled {s t : State} {i : SlotNo} {n : Nat} (room : s.emptySlots (n + 1))
    (slots : ∀ j, j ≠ i → t.slot j = s.slot j) : t.emptySlots n := by
  have counted := length_filter_update allSlots i (mem_allSlots i) (List.nodup_finRange 64) (fun j => (s.holdAt j).isNone)
    (fun j => (t.holdAt j).isNone) fun j hj => by simp only [State.holdAt, slots j hj]
  have one := Bool.toNat_le (s.holdAt i).isNone
  rw [State.emptySlots] at room ⊢
  omega

theorem State.lowestEmpty_of_room {s : State} {n : Nat} (room : s.emptySlots (n + 1)) :
    ∃ i, s.holdAt i = none ∧ ∀ j, j < i → (s.holdAt j).isSome = true := by
  have some_ : (allSlots.filter fun i => (s.holdAt i).isNone) ≠ [] := List.ne_nil_of_length_pos (by
    rw [State.emptySlots] at room
    omega)
  cases e : s.lowestEmpty with
  | some i => exact ⟨i, State.lowestEmpty_spec e⟩
  | none =>
    obtain ⟨i, mem⟩ := List.exists_mem_of_ne_nil _ some_
    have all := List.find?_eq_none.mp e i (mem_allSlots i)
    exact absurd (List.mem_filter.mp mem).2 all

theorem State.placeFire_room {s : State} {n : Nat} (room : s.emptySlots (n + 1)) (d : DistrictNo) :
    ∃ i, s.FirePlaced (s.placeFire d) d i ∧ (s.placeFire d).emptySlots n := by
  obtain ⟨i, empty, low⟩ := State.lowestEmpty_of_room room
  have placed := State.placeFire_at empty low d
  exact ⟨i, placed, State.emptySlots_filled room placed.slots⟩

theorem State.FirePlaced.placed {s t : State} {d : DistrictNo} {i : SlotNo} (h : s.FirePlaced t d i) : s.fireHoldPlaced t d :=
  ⟨⟨i, (s.slot i).useCount⟩, h.fire, by simp [State.liveHold, State.holdAt, h.slot], h.noticed⟩

/-! ### A FIRE hold retired (R74) -/

theorem State.vacate_polls (s : State) (i : SlotNo) : (s.vacate i).sou = s.sou := by
  have drop : ∀ (u : State) (o : Origin) (h : Handle), (u.dropHandle o h).sou = u.sou := by
    intro u o h
    unfold State.dropHandle
    split
    · rfl
    · split <;> rfl
    · rfl
  cases live : s.holdAt i with
  | none => rw [State.vacate_empty live]; rfl
  | some r => rw [State.vacate_live live, drop]; rfl

theorem State.vacate_reservations (s : State) (i : SlotNo) (q : Port) (d : DistrictNo) (v : Version) :
    ((s.vacate i).port q).reservation = some (.district d v) ↔ (s.port q).reservation = some (.district d v) := by
  have emptied : ((s.emptied i).port q).reservation = some (.district d v) ↔ (s.port q).reservation = some (.district d v) := by
    have lost : ((s.emptied i).port q).reservation
        = ((s.loseReservations (·.namesHold ⟨i, (s.slot i).useCount⟩)).port q).reservation := by cases q <;> rfl
    rw [lost, State.loseReservations_port]
    split
    next named =>
      refine iff_of_false nofun fun held => ?_
      rw [held] at named
      cases named
    next => exact Iff.rfl
  cases live : s.holdAt i with
  | none => rw [State.vacate_empty live]; exact emptied
  | some r =>
    rw [State.vacate_live live]
    have same : ∀ u : State, ∀ o h, ((u.dropHandle o h).port q).reservation = (u.port q).reservation := fun u o h => by
      simp only [State.port, State.dropHandle_rqi]
    rw [same]
    exact emptied

theorem State.reportDeparture_polls (s : State) (o : Origin) : s.PollsOnly (s.reportDeparture o)
    ∧ (∀ q, ((s.reportDeparture o).port q).reservation = (s.port q).reservation)
    ∧ (∀ d, (s.reportDeparture o).district d = s.district d)
    ∧ (s.reportDeparture o).sou = { s.sou with runtime := (s.reportDeparture o).sou.runtime } := by
  have attempt : s.PollsOnly s.attemptStart ∧ (∀ q, (s.attemptStart.port q).reservation = (s.port q).reservation)
      ∧ (∀ d, s.attemptStart.district d = s.district d)
      ∧ s.attemptStart.sou = { s.sou with runtime := s.attemptStart.sou.runtime } := by
    obtain ⟨others, -, rqi⟩ := s.attemptStart_frame
    simp only [State.others, Prod.mk.injEq] at others
    obtain ⟨-, -, -, -, -, fsu, -⟩ := others
    refine ⟨?_, fun q => ?_, fun d => State.district_congr fsu d, ?_⟩
    · have failed : ∀ r, s.PollsOnly (s.attemptFailed r) := fun r => by
        unfold State.attemptFailed
        split
        · exact .of_sou rfl
        · exact .of_sou rfl
      unfold State.attemptStart
      split
      · exact State.PollsOnly.trans (t := State.notify { s with
          ehu.huntCase := s.freshCase .auto s.ehu.params.essential
          ehu.watch := { s.ehu.watch with state := .hunting, confirmTimer := .stopped, confirmed := false, lastRefusal := none } } .hunt)
          (.of_sou rfl) (State.enterLocating_polled _).2.2.2.2
      · exact failed _
      · exact failed _
    · rcases rqi with rqi | rqi <;> cases q <;> simp only [State.port, rqi] <;> rfl
    · have failed : ∀ r, (s.attemptFailed r).sou = { s.sou with runtime := (s.attemptFailed r).sou.runtime } := fun r => by
        unfold State.attemptFailed
        split <;> rfl
      unfold State.attemptStart
      split
      · exact (State.enterLocating_polled _).2.2.2.1
      · exact failed _
      · exact failed _
  unfold State.reportDeparture State.retryStart
  dsimp only
  split
  · split
    · exact attempt
    · exact ⟨.refl s, fun _ => rfl, fun _ => rfl, rfl⟩
  · exact ⟨.refl s, fun _ => rfl, fun _ => rfl, rfl⟩

theorem State.departHold_fsu (s : State) (i : SlotNo) :
    (s.departHold i).fsu = { s.fsu with districts := (s.departHold i).fsu.districts } := by
  have drop : ∀ (u : State) (o : Origin) (h : Handle),
      (u.dropHandle o h).fsu = { u.fsu with districts := (u.dropHandle o h).fsu.districts } := by
    intro u o h
    unfold State.dropHandle
    split
    · rfl
    · split
      · rfl
      · rfl
    · rfl
  have told : ∀ (u : State) (o : Origin), (u.reportDeparture o).fsu = u.fsu := by
    intro u o
    have others := u.attemptStart_frame.1
    simp only [State.others, Prod.mk.injEq] at others
    unfold State.reportDeparture State.retryStart
    dsimp only
    split
    · split
      · exact others.2.2.2.2.2.1
      · rfl
    · rfl
  unfold State.departHold
  cases live : s.holdAt i with
  | none => rfl
  | some r =>
    dsimp only
    rw [told, State.vacate_live live]
    exact drop _ _ _

theorem State.departHold_adjusted (s : State) (i : SlotNo) : s.FireAdjusted (s.departHold i) := by
  obtain ⟨departed, svu⟩ := s.departHold_departed i
  refine ⟨departed, svu, ?_, ?_, s.departHold_fsu i, ?_⟩
  · unfold State.departHold
    cases s.holdAt i with
    | none => exact .refl s
    | some r => exact State.PollsOnly.trans (.of_sou (s.vacate_polls i)) ((s.vacate i).reportDeparture_polls r.origin).1
  · unfold State.departHold
    cases s.holdAt i with
    | none => exact fun _ _ _ => Iff.rfl
    | some r =>
      intro q d v
      dsimp only
      rw [((s.vacate i).reportDeparture_polls r.origin).2.1 q]
      exact s.vacate_reservations i q d v
  · unfold State.departHold
    cases s.holdAt i with
    | none => rfl
    | some r =>
      dsimp only
      rw [((s.vacate i).reportDeparture_polls r.origin).2.2.2, s.vacate_polls i]

theorem State.retireFire_eq (s : State) (d : DistrictNo) : s.retireFire d =
    match (s.district d).fire with
    | none => s
    | some h => State.setDistrict (if (s.liveHold h).isSome then s.departHold h.slot else s) d
        { (if (s.liveHold h).isSome then s.departHold h.slot else s).district d with fire := none } := rfl

theorem State.retireFire_adjusted (s : State) (d : DistrictNo) : s.FireAdjusted (s.retireFire d) := by
  have view := State.retireFire_view s d
  rw [State.retireFire_eq] at view ⊢
  cases fire : (s.district d).fire with
  | none => exact .refl s
  | some h =>
    rw [fire] at view
    dsimp only at view ⊢
    have left : s.FireAdjusted (if (s.liveHold h).isSome then s.departHold h.slot else s) := by
      split
      · exact s.departHold_adjusted h.slot
      · exact .refl s
    generalize (if (s.liveHold h).isSome then s.departHold h.slot else s) = t at *
    obtain ⟨⟨fmu, rcs, -, notices⟩, svu, polls, reservations, fsu, sou⟩ := left
    refine ⟨⟨fmu, rcs, view, notices⟩, svu, polls, reservations, ?_, sou⟩
    exact (congrArg (fun f : Fsu => { f with districts := (t.setDistrict d { t.district d with fire := none }).fsu.districts }) fsu :)

/-- A departure drops at most the handles that name its hold (R35). -/
theorem State.departHold_fire (s : State) (i : SlotNo) (d : DistrictNo) :
    ((s.departHold i).district d).fire = (s.district d).fire
      ∨ (((s.departHold i).district d).fire = none ∧ (s.district d).fire = some (s.handleAt i)) := by
  have drop : ∀ (u : State) (o : Origin) (h : Handle), ((u.dropHandle o h).district d).fire = (u.district d).fire
      ∨ (((u.dropHandle o h).district d).fire = none ∧ (u.district d).fire = some h) := by
    intro u o h
    unfold State.dropHandle
    split
    · simp only [State.district, Vector.getElem_ofFn, Fin.getElem_fin, District.dropHandle]
      split
      next named => exact .inr ⟨rfl, named⟩
      next => exact .inl rfl
    · split
      · exact .inl rfl
      · exact .inl rfl
    · exact .inl rfl
  unfold State.departHold
  cases live : s.holdAt i with
  | none => exact .inl rfl
  | some r =>
    dsimp only
    rw [((s.vacate i).reportDeparture_polls r.origin).2.2.1 d, State.vacate_live live]
    exact drop { s.emptied i with htu.counts := (s.emptied i).htu.counts.modify (· - 1) r.origin } r.origin _

/-- The HOLD notice is set at a departure. -/
theorem State.departHold_noticed {s : State} {i : SlotNo} (live : (s.holdAt i).isSome = true) : (s.departHold i).noticed .hold := by
  unfold State.departHold
  cases h : s.holdAt i with
  | none => rw [h] at live; cases live
  | some r => exact ((s.vacate i).reportDeparture_departed r.origin).1.2.2.2 _ (s.vacate_noticed i)

/-- Handles given up and their holds departed, and nothing else of the hold table changed. -/
structure State.FireShrinks (s t : State) : Prop where
  slots : ∀ i, t.slot i = s.slot i
    ∨ (t.holdAt i = none ∧ t.noticed .hold ∧ ∃ d, (s.district d).fire = some (s.handleAt i))
  fires : ∀ d, (t.district d).fire = (s.district d).fire
    ∨ ((t.district d).fire = none ∧ ∀ h, (s.district d).fire = some h → t.liveHold h = none)
  notices : ∀ n, s.noticed n → t.noticed n

theorem State.liveHold_of_empty {s : State} {h : Handle} (empty : s.holdAt h.slot = none) : s.liveHold h = none := by
  rw [State.liveHold, empty, ite_self]

/-- A handle that names no live hold names none after holds have departed. -/
theorem State.FireShrinks.stale {s t : State} (h : s.FireShrinks t) {x : Handle} (stale : s.liveHold x = none) :
    t.liveHold x = none := by
  rcases h.slots x.slot with same | ⟨empty, -⟩
  · rw [State.liveHold_of_slot same]
    exact stale
  · exact State.liveHold_of_empty empty

theorem State.FireShrinks.refl (s : State) : s.FireShrinks s := ⟨fun _ => .inl rfl, fun _ => .inl rfl, fun _ h => h⟩

theorem State.FireShrinks.trans {s t u : State} (a : s.FireShrinks t) (b : t.FireShrinks u) : s.FireShrinks u := by
  refine ⟨fun i => ?_, fun d => ?_, fun n h => b.notices n (a.notices n h)⟩
  · rcases a.slots i with same | ⟨empty, notice, named⟩
    · rcases b.slots i with same' | ⟨empty', notice', d, fire⟩
      · exact .inl (same'.trans same)
      · refine .inr ⟨empty', notice', d, ?_⟩
        have handle : t.handleAt i = s.handleAt i := by rw [State.handleAt, same]; rfl
        rcases a.fires d with kept | ⟨none_, -⟩
        · rw [← kept, fire, handle]
        · rw [none_] at fire
          cases fire
    · refine .inr ⟨?_, b.notices _ notice, named⟩
      rcases b.slots i with same' | ⟨empty', -⟩
      · rw [State.holdAt, same']
        exact empty
      · exact empty'
  · rcases a.fires d with kept | ⟨none_, gone⟩
    · rcases b.fires d with kept' | ⟨none', gone'⟩
      · exact .inl (kept'.trans kept)
      · exact .inr ⟨none', fun h fire => gone' h (kept.trans fire)⟩
    · refine .inr ⟨?_, fun h fire => b.stale (gone h fire)⟩
      rcases b.fires d with kept' | ⟨none', -⟩
      · exact kept'.trans none_
      · exact none'

/-- The hold of a handle retired has departed. -/
theorem State.FireShrinks.retired {s t : State} (h : s.FireShrinks t) {d : DistrictNo} (none_ : (t.district d).fire = none) {x : Handle}
    (fire : (s.district d).fire = some x) : t.liveHold x = none ∧ ((s.liveHold x).isSome = true → t.noticed .hold) := by
  have gone : t.liveHold x = none := by
    rcases h.fires d with kept | ⟨-, gone⟩
    · rw [none_, fire] at kept
      cases kept
    · exact gone x fire
  refine ⟨gone, fun live => ?_⟩
  rcases h.slots x.slot with same | ⟨-, notice, -⟩
  · rw [← State.liveHold_of_slot same, gone] at live
    cases live
  · exact notice

theorem State.handleAt_of_live {s : State} {x : Handle} (live : (s.liveHold x).isSome = true) :
    s.handleAt x.slot = x ∧ (s.holdAt x.slot).isSome = true := by
  obtain ⟨r, hr⟩ := Option.isSome_iff_exists.mp live
  refine ⟨?_, by rw [State.holdAt_of_liveHold hr]; rfl⟩
  have current : (s.slot x.slot).useCount = x.useCount := by
    by_contra stale
    simp [State.liveHold, stale] at hr
  rw [State.handleAt, current]

theorem State.departHold_shrinks {s : State} {d : DistrictNo} {x : Handle} (fire : (s.district d).fire = some x)
    (live : (s.liveHold x).isSome = true) : s.FireShrinks (s.departHold x.slot) := by
  obtain ⟨handle, some_⟩ := State.handleAt_of_live live
  have emptied : (s.departHold x.slot).holdAt x.slot = none := by
    rw [State.holdAt, State.departHold_slot, if_pos ⟨rfl, some_⟩]
  refine ⟨fun i => ?_, fun e => ?_, (s.departHold_departed x.slot).1.2.2.2⟩
  · by_cases here : i = x.slot
    · subst here
      exact .inr ⟨emptied, State.departHold_noticed some_, d, by rw [handle]; exact fire⟩
    · exact .inl ((State.departHold_slot _ _ _).trans (if_neg fun h => here h.1))
  · rcases s.departHold_fire x.slot e with kept | ⟨none_, named⟩
    · exact .inl kept
    · refine .inr ⟨none_, fun y hy => ?_⟩
      rw [named, handle] at hy
      cases hy
      exact State.liveHold_of_empty emptied

/-- A handle dropped that names no live hold. -/
theorem State.dropFire_shrinks {s : State} {d : DistrictNo} (stale : ∀ x, (s.district d).fire = some x → s.liveHold x = none) :
    s.FireShrinks (s.setDistrict d { s.district d with fire := none }) := by
  refine ⟨fun _ => .inl rfl, fun e => ?_, fun _ h => h⟩
  by_cases here : e = d
  · subst here
    rw [State.district_setDistrict_same]
    exact .inr ⟨rfl, stale⟩
  · rw [State.district_setDistrict_other _ _ here]
    exact .inl rfl

theorem State.retireFire_shrinks (s : State) (d : DistrictNo) : s.FireShrinks (s.retireFire d)
    ∧ ((s.retireFire d).district d).fire = none := by
  rw [State.retireFire_eq]
  cases fire : (s.district d).fire with
  | none => exact ⟨.refl s, fire⟩
  | some x =>
    dsimp only
    by_cases live : (s.liveHold x).isSome = true
    · rw [if_pos live]
      have left := State.departHold_shrinks fire live
      refine ⟨left.trans (State.dropFire_shrinks fun y hy => ?_), by rw [State.district_setDistrict_same]⟩
      rcases left.fires d with kept | ⟨none_, -⟩
      · rw [kept, fire] at hy
        cases hy
        obtain ⟨-, some_⟩ := State.handleAt_of_live live
        refine State.liveHold_of_empty ?_
        rw [State.holdAt, State.departHold_slot, if_pos ⟨rfl, some_⟩]
      · rw [none_] at hy
        cases hy
    · rw [if_neg live]
      refine ⟨State.dropFire_shrinks fun y hy => ?_, by rw [State.district_setDistrict_same]⟩
      rw [fire] at hy
      cases hy
      simpa using live

/-- With each handle naming a FIRE hold of its own district, the other districts keep their records. -/
theorem State.retireFire_other {s : State} (live : s.fireHandlesLive) {d e : DistrictNo} (other : e ≠ d) :
    (s.retireFire d).district e = s.district e := by
  have adjusted := s.retireFire_adjusted d
  have kept : ((s.retireFire d).district e).fire = (s.district e).fire := by
    rw [State.retireFire_eq]
    cases fire : (s.district d).fire with
    | none => rfl
    | some x =>
      dsimp only
      rw [State.district_setDistrict_other _ _ other]
      split
      next names =>
        rcases s.departHold_fire x.slot e with kept | ⟨-, named⟩
        · exact kept
        · rw [(State.handleAt_of_live names).1] at named
          obtain ⟨r, hr, -, cause⟩ := live d x fire
          obtain ⟨r', hr', -, cause'⟩ := live e x named
          rw [hr] at hr'
          cases hr'
          rw [cause] at cause'
          cases cause'
          exact absurd rfl other
      next => rfl
  rw [adjusted.level e, kept]

/-! ### The step of R74, district after district -/

theorem State.adjustFire_low {s : State} {d : DistrictNo} (low : (s.district d).effective ≠ .ban) : s.adjustFire d = s.retireFire d :=
  if_neg (by simpa using low)

theorem State.adjustFire_places {s : State} {d : DistrictNo} (ban : (s.district d).effective = .ban) (zones : s.districtZones d ≠ 0)
    (fire : (s.district d).fire = none) : s.adjustFire d = s.placeFire d := by
  rw [State.adjustFire, ban, fire]
  exact (if_pos rfl).trans (if_pos (by simpa [State.districtPresent] using zones))

theorem State.adjustFire_stands {s : State} {d : DistrictNo} (ban : (s.district d).effective = .ban)
    (h : s.districtZones d = 0 ∨ (s.district d).fire.isSome = true) : s.adjustFire d = s := by
  rw [State.adjustFire, ban]
  refine (if_pos rfl).trans (if_neg ?_)
  rcases h with none_ | some_
  · simp [State.districtPresent, none_]
  · simp [Option.isNone_iff_eq_none, Option.ne_none_iff_isSome.mpr some_]

theorem State.adjustFire_adjusted (s : State) (d : DistrictNo) : s.FireAdjusted (s.adjustFire d) := by
  unfold State.adjustFire
  dsimp only
  split
  · split
    · exact s.placeFire_adjusted d
    · exact .refl s
  · exact s.retireFire_adjusted d

theorem foldl_adjustFire_adjusted (ds : List DistrictNo) (s : State) : s.FireAdjusted (ds.foldl State.adjustFire s) := by
  induction ds generalizing s with
  | nil => exact .refl s
  | cons d ds ih => exact (s.adjustFire_adjusted d).trans (ih _)

/-- Districts below BAN, one after another, lose their FIRE holds. -/
theorem foldl_adjustFire_shrinks (ds : List DistrictNo) {s : State} (low : ∀ d ∈ ds, (s.district d).effective ≠ .ban) :
    s.FireShrinks (ds.foldl State.adjustFire s) ∧ ∀ d ∈ ds, ((ds.foldl State.adjustFire s).district d).fire = none := by
  induction ds generalizing s with
  | nil => exact ⟨.refl s, nofun⟩
  | cons d ds ih =>
    obtain ⟨first, gone⟩ := s.retireFire_shrinks d
    have adjusted := s.retireFire_adjusted d
    rw [List.foldl_cons, State.adjustFire_low (low d List.mem_cons_self)]
    obtain ⟨rest, none_⟩ := ih (s := s.retireFire d) fun e mem => by
      rw [adjusted.effective]
      exact low e (List.mem_cons_of_mem _ mem)
    refine ⟨first.trans rest, fun e mem => ?_⟩
    rcases List.mem_cons.mp mem with rfl | mem
    · rcases rest.fires e with kept | ⟨gone', -⟩
      · exact kept.trans gone
      · exact gone'
    · exact none_ e mem

/-- What placing FIRE holds for some districts makes of the table and the records. -/
structure State.FireGrows (s t : State) (ds : List DistrictNo) : Prop where
  holds : ∀ i, (s.holdAt i).isSome = true → t.slot i = s.slot i
  others : ∀ d, d ∉ ds → t.district d = s.district d
  placed : ∀ d ∈ ds, (s.district d).effective = .ban → s.districtZones d ≠ 0 → s.fireHoldPlaced t d

theorem State.adjustFire_empty {s : State} {d : DistrictNo} (none_ : (s.district d).fire = none)
    (idle : ¬ ((s.district d).effective = .ban ∧ s.districtZones d ≠ 0)) : s.adjustFire d = s := by
  by_cases ban : (s.district d).effective = .ban
  · exact State.adjustFire_stands ban (.inl (by_contra fun zones => idle ⟨ban, zones⟩))
  · rw [State.adjustFire_low ban, State.retireFire_eq, none_]

/-- Districts without a handle, one after another: those at BAN have their FIRE holds. -/
theorem foldl_adjustFire_grows {ds : List DistrictNo} (distinct : ds.Nodup) {s : State} (room : s.emptySlots ds.length)
    (none_ : ∀ d ∈ ds, (s.district d).fire = none) :
    s.FireGrows (ds.foldl State.adjustFire s) ds := by
  induction ds generalizing s with
  | nil => exact ⟨fun _ _ => rfl, fun _ _ => rfl, nofun⟩
  | cons d ds ih =>
    obtain ⟨fresh, distinct⟩ := List.nodup_cons.mp distinct
    have here_ := none_ d List.mem_cons_self
    rw [List.foldl_cons]
    by_cases due : (s.district d).effective = .ban ∧ s.districtZones d ≠ 0
    case neg =>
      rw [State.adjustFire_empty here_ due]
      obtain ⟨holds, others, placed⟩ := ih distinct (s := s) (le_trans (Nat.le_succ _) room)
        fun e mem => none_ e (List.mem_cons_of_mem _ mem)
      refine ⟨holds, fun e other => others e fun mem => other (List.mem_cons_of_mem _ mem), fun e mem ban present => ?_⟩
      rcases List.mem_cons.mp mem with rfl | mem
      · exact absurd ⟨ban, present⟩ due
      · exact placed e mem ban present
    case pos =>
      obtain ⟨level, zones⟩ := due
      obtain ⟨i, here, room'⟩ := State.placeFire_room (n := ds.length) room d
      have adjusted := s.placeFire_adjusted d
      rw [State.adjustFire_places level zones here_]
      obtain ⟨holds, others, placed⟩ := ih distinct (s := s.placeFire d) room' fun e mem => by
        rw [here.districts e fun same => fresh (same ▸ mem)]
        exact none_ e (List.mem_cons_of_mem _ mem)
      have rest := foldl_adjustFire_adjusted ds (s.placeFire d)
      refine ⟨fun j some_ => ?_, fun e other => ?_, fun e mem ban present => ?_⟩
      · have elsewhere : j ≠ i := fun same => by
          rw [same, here.empty] at some_
          cases some_
        have kept := here.slots j elsewhere
        exact (holds j (by rw [State.holdAt, kept]; exact some_)).trans kept
      · rw [List.mem_cons, not_or] at other
        exact (others e other.2).trans (here.districts e other.1)
      · rcases List.mem_cons.mp mem with rfl | mem
        · refine ⟨⟨i, (s.slot i).useCount⟩, ?_, ?_, rest.departed.2.2.2 _ here.noticed⟩
          · rw [others e fresh]
            exact here.fire
          · have stays := holds i (by rw [State.holdAt, here.slot]; rfl)
            simp [State.liveHold, State.holdAt, stays, here.slot]
        · have zones' : (s.placeFire d).districtZones e = s.districtZones e := congrArg Hold.scope (adjusted.fireHoldFor e)
          obtain ⟨h, fire, live, notice⟩ := placed e mem (by rw [adjusted.effective]; exact ban) (by rw [zones']; exact present)
          exact ⟨h, fire, by rw [live, adjusted.fireHoldFor], notice⟩

end Sys2Proof.Machine
end

section
/-! The effective-level change and what follows it: DECLARE LEVEL, SET SEASON and the fire-ban line (R68 to R74). -/

namespace Sys2Proof.Machine

/-! ### The reservations (R51) -/

theorem State.Told.register {k : SwitchNo} {s t : State} (h : s.Told k t) (p : Port) :
    (t.port p).reservation = (s.port p).reservation := by
  induction h with
  | refl => rfl
  | @seq t q _ ih =>
    rw [← ih]
    cases p
    · exact congrArg (fun r : Rqi => r.controller.reservation) (State.setSeq_rqi t k q)
    · exact congrArg (fun r : Rqi => r.maintenance.reservation) (State.setSeq_rqi t k q)
  | note n _ ih => rw [← ih]; cases p <;> rfl

theorem State.dangerTaken_register (s : State) {profiles : List SwitchNo} (distinct : profiles.Nodup) (sequences : List SwitchNo)
    (p : Port) : ((s.dangerTaken profiles sequences).port p).reservation = (s.port p).reservation := by
  have evaluated : ∀ (ks : List SwitchNo) (u : State), ((u.reevaluateAll ks).port p).reservation = (u.port p).reservation := by
    intro ks
    induction ks with
    | nil => exact fun _ => rfl
    | cons k ks ih => exact fun u => (ih (u.reevaluate k)).trans ((u.reevaluate_told k).register p)
  have compared := (State.reviewProfiles_spec distinct s).1.rqi
  calc ((s.dangerTaken profiles sequences).port p).reservation
    _ = (((s.reviewProfiles profiles).reevaluateAll sequences).port p).reservation := by cases p <;> rfl
    _ = ((s.reviewProfiles profiles).port p).reservation := evaluated sequences _
    _ = (s.port p).reservation := by simp only [State.port, compared]

theorem State.loseDistrict_register (s : State) (e : DistrictNo) (q : Port) (d : DistrictNo) (v : Version) :
    ((s.loseDistrict e).port q).reservation = some (.district d v) ↔ (s.port q).reservation = some (.district d v) ∧ d ≠ e := by
  rw [State.loseDistrict, State.loseReservations_port]
  cases held : (s.port q).reservation with
  | none => simp [held]
  | some r => cases r with
    | hold h v' => simp [Reservation.namesDistrict, held]
    | district d' v' =>
      simp only [Option.any_some, Reservation.namesDistrict, beq_iff_eq]
      split
      next same =>
        subst same
        refine iff_of_false nofun ?_
        rintro ⟨⟨⟩, other⟩
        exact other rfl
      next other =>
        rw [held]
        refine ⟨fun h => ⟨h, ?_⟩, fun h => h.1⟩
        cases h
        exact other

theorem foldl_loseDistrict_registers (l : List DistrictNo) (s : State) :
    (∀ n, s.noticed n → (l.foldl State.loseDistrict s).noticed n)
      ∧ ∀ q d v, ((l.foldl State.loseDistrict s).port q).reservation = some (.district d v)
        ↔ (s.port q).reservation = some (.district d v) ∧ d ∉ l := by
  induction l generalizing s with
  | nil => exact ⟨fun _ h => h, fun _ _ _ => by simp⟩
  | cons e l ih =>
    obtain ⟨notices, registers⟩ := ih (s.loseDistrict e)
    refine ⟨fun n h => notices n (State.loseReservations_noticed h _), fun q d v => ?_⟩
    rw [List.foldl_cons, registers, State.loseDistrict_register, List.mem_cons, not_or, and_assoc]

/-! ### The change, with its consequences (R73) -/

/-- The levels set and the FIRE holds of the changed districts placed and retired. -/
def State.levelsTaken (s : State) : State := s.changedDistricts.foldl State.adjustFire (s.setLevels.notify .level)

/-- The switches of the changed districts. -/
def State.changedSwitches (s : State) : List SwitchNo := s.switchesOf s.changedDistricts.contains

theorem State.mem_changedDistricts {s : State} {d : DistrictNo} :
    d ∈ s.changedDistricts ↔ s.levelOfDistrict d ≠ (s.district d).effective := by
  simp [State.changedDistricts, mem_allDistricts]

theorem State.changedDistricts_nodup (s : State) : s.changedDistricts.Nodup := (List.nodup_finRange 8).filter _

theorem State.changedDistricts_length (s : State) : s.changedDistricts.length ≤ 8 :=
  (List.length_filter_le _ _).trans (List.length_finRange).le

theorem State.setLevels_spec (s : State) : s.setLevels = { s.withLevels with rqi := s.setLevels.rqi } := by
  obtain ⟨q, h⟩ := s.setLevels_eq
  rw [h]

theorem State.setLevels_district (s : State) (d : DistrictNo) :
    s.setLevels.district d = { s.district d with effective := s.levelOfDistrict d } := by
  rw [State.setLevels_spec]
  exact s.withLevels_district d

theorem State.levelsTaken_adjusted (s : State) : (s.setLevels.notify .level).FireAdjusted s.levelsTaken :=
  foldl_adjustFire_adjusted _ _

theorem State.applyLevels_eq (s : State) : s.applyLevels =
    if s.changedDistricts = [] then s.setLevels else s.levelsTaken.dangerTaken s.changedSwitches s.changedSwitches := by
  have fmu : s.levelsTaken.fmu = s.fmu := by
    rw [s.levelsTaken_adjusted.fmu, State.notify_fmu, State.setLevels_spec]
    rfl
  have switches : s.levelsTaken.switchesOf s.changedDistricts.contains = s.changedSwitches := State.switchesOf_congr fmu _
  by_cases none_ : s.changedDistricts = []
  · rw [if_pos none_]
    exact if_pos (List.isEmpty_iff.mpr none_)
  · rw [if_neg none_, State.dangerTaken, ← switches]
    exact if_neg (mt List.isEmpty_iff.mp none_)

/-- What an effective-level change does to all but the FIRE holds, relative to the state whose inputs changed. -/
structure State.Relevelled (s t : State) : Prop where
  fmu : t.fmu = s.fmu
  svu : t.svu = s.svu
  lines : t.lines = s.lines
  fsu : t.fsu = { s.fsu with districts := t.fsu.districts }
  district : ∀ d, t.district d = { s.district d with effective := s.levelOfDistrict d, fire := (t.district d).fire }
  registers : ∀ q d v, (t.port q).reservation = some (.district d v)
    ↔ (s.port q).reservation = some (.district d v) ∧ s.levelOfDistrict d = (s.district d).effective
  notices : ∀ n, s.noticed n → t.noticed n
  told : (∃ d, s.levelOfDistrict d ≠ (s.district d).effective) → t.noticed .level ∧ t.ehu.thresholds = t.feederThresholds
  follows : s.levelChangeFollows t

theorem State.mem_changedSwitches {s t : State} (district : ∀ d, (t.district d).effective = s.levelOfDistrict d) {k : SwitchNo} :
    k ∈ s.changedSwitches ↔ ∃ d, s.districtOf k = some d ∧ (t.district d).effective ≠ (s.district d).effective := by
  rw [State.changedSwitches, State.mem_switchesOf]
  refine exists_congr fun d => and_congr_right fun _ => ?_
  rw [List.contains_iff_mem, State.mem_changedDistricts, district]

theorem State.changedDistricts_eq_nil {s : State} : s.changedDistricts = [] ↔ ∀ d, s.levelOfDistrict d = (s.district d).effective := by
  simp only [List.eq_nil_iff_forall_not_mem, State.mem_changedDistricts, not_not]

/-- With no level changed, the change is the FSU's records as they stand. -/
theorem State.applyLevels_quiet {s : State} (same : ∀ d, s.levelOfDistrict d = (s.district d).effective) : s.applyLevels = s := by
  have none_ := State.changedDistricts_eq_nil.mpr same
  have levels : (Vector.ofFn fun d => { s.fsu.districts[d] with effective := s.levelOfDistrict d }) = s.fsu.districts := by
    refine Vector.ext fun i hi => ?_
    rw [Vector.getElem_ofFn, same ⟨i, hi⟩]
    rfl
  rw [State.applyLevels_eq, if_pos none_, State.setLevels, none_, levels]
  rfl

/-- The state with the levels set and the FIRE holds adjusted, beside the state whose inputs changed. -/
structure State.LevelsTaken (s u : State) : Prop where
  fmu : u.fmu = s.fmu
  rcs : u.rcs = s.rcs
  svu : u.svu = s.svu
  lines : u.lines = s.lines
  fsu : u.fsu = { s.fsu with districts := u.fsu.districts }
  polls : s.PollsOnly u
  registers : ∀ q d v, (u.port q).reservation = some (.district d v)
    ↔ (s.port q).reservation = some (.district d v) ∧ s.levelOfDistrict d = (s.district d).effective
  notices : ∀ n, s.noticed n → u.noticed n
  told : u.noticed .level
  district : ∀ d, u.district d = { s.district d with effective := s.levelOfDistrict d, fire := (u.district d).fire }

theorem State.levelsTaken_spec (s : State) : s.LevelsTaken s.levelsTaken := by
  have adjusted := s.levelsTaken_adjusted
  have level := adjusted.level
  obtain ⟨⟨fmu, rcs, view, notices⟩, svu, polls, reservations, fsu, -⟩ := adjusted
  obtain ⟨kept, lost⟩ := foldl_loseDistrict_registers s.changedDistricts s.withLevels
  have district := s.setLevels_district
  have set : s.setLevels.fmu = s.fmu ∧ s.setLevels.rcs = s.rcs ∧ s.setLevels.svu = s.svu ∧ s.setLevels.lines = s.lines
      ∧ s.setLevels.sou = s.sou ∧ s.setLevels.fsu = { s.fsu with districts := s.setLevels.fsu.districts } := by
    rw [s.setLevels_spec]
    exact ⟨rfl, rfl, rfl, rfl, rfl, rfl⟩
  obtain ⟨fmu', rcs', svu', lines', sou', fsu'⟩ := set
  have registers : ∀ q, ((s.setLevels.notify .level).port q).reservation = (s.setLevels.port q).reservation := fun q => by
    cases q <;> rfl
  generalize s.levelsTaken = u at *
  refine ⟨fmu.trans fmu', rcs.trans rcs', svu.trans svu', (State.view_lines view).trans lines', ?_,
    fun k => (polls k).trans (congrArg (fun r : Runtime => { r with pollWanted := (u.runtime k).pollWanted })
      (State.runtime_congr (s := s) (t := s.setLevels.notify .level) sou' k)),
    fun q d v => ?_, fun n h => notices n (State.noticed_kept _ _ _ (kept n h)), notices _ (State.noticed_notify _ _), fun d => ?_⟩
  · rw [fsu, State.notify_fsu, fsu']
  · rw [reservations, registers, State.setLevels]
    refine (lost q d v).trans (and_congr Iff.rfl ?_)
    rw [State.mem_changedDistricts, not_not]
  · rw [level d, show (s.setLevels.notify .level).district d = _ from district d]

theorem State.applyLevels_relevelled (s : State) : s.Relevelled s.applyLevels := by
  have levels := State.applyLevels_district s
  by_cases quiet : ∀ d, s.levelOfDistrict d = (s.district d).effective
  · rw [State.applyLevels_quiet quiet]
    have unpicked : ∀ k, ¬ ∃ d, s.districtOf k = some d ∧ (s.district d).effective ≠ (s.district d).effective :=
      fun k ⟨_, _, moved⟩ => moved rfl
    refine ⟨rfl, rfl, rfl, rfl, fun d => by rw [quiet d], fun q d v => by simp [quiet d], fun _ h => h,
      fun ⟨d, moved⟩ => absurd (quiet d) moved, fun k => ⟨rfl, fun _ picked => absurd picked (unpicked k), fun _ => ⟨rfl, rfl⟩⟩,
      fun k => ⟨fun _ _ owed => absurd owed.1 (unpicked k), fun _ => rfl⟩⟩
  · have some_ : s.changedDistricts ≠ [] := fun none_ => quiet (State.changedDistricts_eq_nil.mp none_)
    have picked : ∀ k, k ∈ s.changedSwitches ↔ _ := fun k => State.mem_changedSwitches (t := s.applyLevels) fun d => (levels d).2.2
    have registers := s.levelsTaken.dangerTaken_register (s.switchesOf_nodup s.changedDistricts.contains) s.changedSwitches
    have follows := State.dangerTaken_follows (s.switchesOf_nodup s.changedDistricts.contains)
      (s.switchesOf_nodup s.changedDistricts.contains) s.levelsTaken
    have taken : s.applyLevels = s.levelsTaken.dangerTaken s.changedSwitches s.changedSwitches :=
      s.applyLevels_eq.trans (if_neg some_)
    rw [← State.changedSwitches, ← taken] at follows
    rw [← State.changedSwitches, ← taken] at registers
    clear taken
    have set := s.levelsTaken_spec
    generalize s.applyLevels = t at *
    generalize s.levelsTaken = u at *
    have fields := follows.others
    simp only [State.others, Prod.mk.injEq] at fields
    obtain ⟨-, -, lines, fmu, -, fsu, svu⟩ := fields
    have runtime : ∀ k, t.runtime k = { s.runtime k with
        profileState := (t.runtime k).profileState, pushWanted := (t.runtime k).pushWanted, pollWanted := (t.runtime k).pollWanted } :=
      fun k => by rw [follows.runtime k, set.polls k]
    have same : ∀ k, (u.runtime k).confirmed = (s.runtime k).confirmed ∧ (u.runtime k).profileState = (s.runtime k).profileState
        ∧ (u.runtime k).pushWanted = (s.runtime k).pushWanted := fun k => by
      rw [set.polls k]
      exact ⟨rfl, rfl, rfl⟩
    have seq : ∀ k, u.seq k = s.seq k := fun k => State.seq_of_rcs set.rcs k
    refine ⟨fmu.trans set.fmu, svu.trans set.svu, lines.trans set.lines, by rw [fsu, set.fsu],
      fun d => by rw [State.district_congr fsu]; exact set.district d, fun q d v => by rw [registers]; exact set.registers q d v,
      fun n h => follows.notices n (set.notices n h), fun _ => ⟨follows.notices _ set.told, follows.thresholds⟩,
      fun k => ⟨runtime k, fun code moved required => ?_, fun still => ?_⟩, fun k => ⟨fun n g owed => ?_, fun none_ => ?_⟩⟩
    · have mem := (picked k).mpr moved
      obtain ⟨d, district, -⟩ := moved
      have configured : u.configured k = true := State.configured_of_district ((State.districtOf_congr set.fmu k).trans district)
      rw [← (same k).1]
      exact follows.compared k code mem configured ((State.requiredProfile_congr fmu fsu k).symm.trans required)
    · obtain ⟨profile, push⟩ := follows.unpicked k fun mem => still ((picked k).mp mem)
      exact ⟨profile.trans (same k).2.1, push.trans (same k).2.2⟩
    · obtain ⟨moved, state, group, fewer⟩ := owed
      rw [← seq, ← set.svu]
      exact follows.late k ((picked k).mpr moved) ⟨n, g, (congrArg Sequence.state (seq k)).trans state,
        (State.effectiveGroup_congr fmu fsu k).symm.trans group, fewer⟩
    · rw [← seq]
      refine follows.stand k fun ⟨mem, n, g, state, group, fewer⟩ => none_ n g ⟨(picked k).mp mem, ?_, ?_, fewer⟩
      · rw [← seq]
        exact state
      · exact (State.effectiveGroup_congr fmu fsu k).trans group

/-! ### The FIRE holds of the changed districts (R74) -/

/-- The change leaves the hold table and the FIRE handles as the adjustment of the FIRE holds makes them. -/
theorem State.applyLevels_table (s : State) : (∃ d, s.levelOfDistrict d ≠ (s.district d).effective) →
    s.applyLevels.htu = s.levelsTaken.htu ∧ (∀ d, s.applyLevels.district d = s.levelsTaken.district d)
      ∧ ∀ n, s.levelsTaken.noticed n → s.applyLevels.noticed n := by
  rintro ⟨d, moved⟩
  have some_ : s.changedDistricts ≠ [] := List.ne_nil_of_mem (State.mem_changedDistricts.mpr moved)
  rw [State.applyLevels_eq, if_neg some_]
  have follows := State.dangerTaken_follows (s.switchesOf_nodup s.changedDistricts.contains)
    (s.switchesOf_nodup s.changedDistricts.contains) s.levelsTaken
  have fields := follows.others
  simp only [State.others, Prod.mk.injEq] at fields
  obtain ⟨-, -, -, -, htu, fsu, -⟩ := fields
  exact ⟨htu, State.district_congr fsu, follows.notices⟩

theorem State.setLevels_htu (s : State) : (s.setLevels.notify .level).htu = s.htu := by
  rw [State.notify_htu, State.setLevels_spec]
  exact s.withLevels_htu

theorem State.setLevels_fireHoldFor (s : State) (d : DistrictNo) :
    (s.setLevels.notify .level).fireHoldFor d = s.fireHoldFor d
      ∧ (s.setLevels.notify .level).districtZones d = s.districtZones d := by
  rw [State.setLevels_spec]
  exact ⟨rfl, rfl⟩

/-- R74, where the levels that change all go to BAN from below, or none of them goes to BAN. -/
theorem State.applyLevels_fires {s : State} (below : ∀ d, (s.district d).effective ≠ .ban → (s.district d).fire = none)
    (room : s.emptySlots 8)
    (course : (∀ d, s.levelOfDistrict d ≠ (s.district d).effective → (s.district d).effective ≠ .ban)
      ∨ ∀ d, s.levelOfDistrict d ≠ (s.district d).effective → s.levelOfDistrict d ≠ .ban) : s.fireHoldsFollow s.applyLevels := by
  by_cases quiet : ∀ d, s.levelOfDistrict d = (s.district d).effective
  · rw [State.applyLevels_quiet quiet]
    exact ⟨fun d moved => absurd rfl moved, fun _ _ _ => rfl⟩
  obtain ⟨htu, districts, notices⟩ := s.applyLevels_table (not_forall.mp quiet)
  have levels : ∀ d, (s.applyLevels.district d).effective = s.levelOfDistrict d := fun d => (s.applyLevels_district d).2.2
  have table := s.setLevels_htu
  have district : ∀ d, (s.setLevels.notify .level).district d = { s.district d with effective := s.levelOfDistrict d } :=
    fun d => s.setLevels_district d
  have slots : ∀ i, (s.setLevels.notify .level).slot i = s.slot i := State.slot_congr table
  have holds : ∀ i, (s.setLevels.notify .level).holdAt i = s.holdAt i := State.holdAt_congr table
  have handles : ∀ i, (s.setLevels.notify .level).handleAt i = s.handleAt i := fun i => by rw [State.handleAt, slots]; rfl
  have slots' : ∀ i, s.applyLevels.slot i = s.levelsTaken.slot i := State.slot_congr htu
  have live' : ∀ h, s.applyLevels.liveHold h = s.levelsTaken.liveHold h := fun h => State.liveHold_of_slot (slots' _)
  have fireHold := s.setLevels_fireHoldFor
  unfold State.levelsTaken at districts notices slots' live'
  generalize s.applyLevels = t at *
  rcases course with rise | fall
  · have grows := foldl_adjustFire_grows s.changedDistricts_nodup (s := s.setLevels.notify .level)
      (by
        have room' : (s.setLevels.notify .level).emptySlots 8 := by
          rw [State.emptySlots] at room ⊢
          simpa only [holds] using room
        exact s.changedDistricts_length.trans room')
      fun d mem => by
        rw [district]
        exact below d (rise d (State.mem_changedDistricts.mp mem))
    obtain ⟨stand, -, placed⟩ := grows
    refine ⟨fun d moved => ?_, fun i some_ _ => ?_⟩
    · rw [levels] at moved
      refine ⟨fun ban zones _ => ?_, fun h _ fire _ => ?_⟩
      · obtain ⟨h, fire, live, notice⟩ := placed d (State.mem_changedDistricts.mpr moved)
          (by rw [district, ← levels]; exact ban) (by rw [(fireHold d).2]; exact zones)
        exact ⟨h, by rw [districts]; exact fire, by rw [live', live, (fireHold d).1], notices _ notice⟩
      · rw [below d (rise d moved)] at fire
        cases fire
    · rw [slots', stand i (by rw [holds]; exact some_), slots]
  · obtain ⟨shrinks, gone⟩ := foldl_adjustFire_shrinks s.changedDistricts (s := s.setLevels.notify .level) fun d mem => by
      rw [district]
      exact fall d (State.mem_changedDistricts.mp mem)
    refine ⟨fun d moved => ?_, fun i some_ unnamed => ?_⟩
    · rw [levels] at moved
      refine ⟨fun ban => absurd ((levels d).symm.trans ban) (fall d moved), fun h _ fire live => ?_⟩
      have none_ := gone d (State.mem_changedDistricts.mpr moved)
      obtain ⟨stale, notice⟩ := shrinks.retired none_ (x := h) (by rw [district]; exact fire)
      refine ⟨by rw [districts]; exact none_, by rw [live']; exact stale, notices _ (notice ?_)⟩
      rw [State.liveHold_of_slot (slots h.slot)]
      exact live
    · rw [slots']
      rcases shrinks.slots i with same | ⟨-, -, d, fire⟩
      · exact same.trans (slots i)
      · rw [district, handles] at fire
        exact absurd fire (unnamed d)

/-- Where the level of one district alone may change, the others keep their records. -/
theorem State.applyLevels_single {s : State} (live : s.fireHandlesLive) {d e : DistrictNo} (other : e ≠ d)
    (only : ∀ x, x ≠ d → s.levelOfDistrict x = (s.district x).effective) : s.applyLevels.district e = s.district e := by
  by_cases quiet : s.levelOfDistrict d = (s.district d).effective
  · rw [State.applyLevels_quiet fun x => by by_cases same : x = d; exacts [same ▸ quiet, only x same]]
  have alone : s.changedDistricts = [d] := by
    refine List.Perm.eq_singleton ((List.perm_ext_iff_of_nodup s.changedDistricts_nodup (List.nodup_singleton d)).mpr fun x => ?_)
    rw [State.mem_changedDistricts, List.mem_singleton]
    refine ⟨fun moved => by_contra fun same => moved (only x same), ?_⟩
    rintro rfl
    exact quiet
  have here : (s.setLevels.notify .level).district e = s.district e := by
    rw [show (s.setLevels.notify .level).district e = _ from s.setLevels_district e, only e other]
  have handles : (s.setLevels.notify .level).fireHandlesLive := fun x h fire => by
    rw [show (s.setLevels.notify .level).district x = _ from s.setLevels_district x] at fire
    rw [State.liveHold_of_slot (State.slot_congr s.setLevels_htu h.slot)]
    exact live x h fire
  rw [(s.applyLevels_table ⟨d, quiet⟩).2.1, State.levelsTaken, alone]
  refine Eq.trans ?_ here
  rw [List.foldl_cons, List.foldl_nil, State.adjustFire]
  split
  · split
    · rw [State.placeFire_district, if_neg (Ne.symm other)]
    · rfl
  · exact State.retireFire_other handles other

/-! ### The change as the state before the request knows it -/

/-- A state that differs in the inputs of the levels, in the lines and in the ports' records alone. -/
structure State.InputsOnly (b s : State) : Prop where
  fmu : s.fmu = b.fmu
  htu : s.htu = b.htu
  sou : s.sou = b.sou
  rcs : s.rcs = b.rcs
  svu : s.svu = b.svu
  effective : ∀ d, (s.district d).effective = (b.district d).effective
  fire : ∀ d, (s.district d).fire = (b.district d).fire

/-- Items 4 and 5 of R73 look at the FMU's, the SOU's, the RCS's and the SVU's records before the change and at the levels. -/
theorem State.levelChangeFollows.before {b s t : State} (follows : s.levelChangeFollows t) (fmu : s.fmu = b.fmu) (sou : s.sou = b.sou)
    (rcs : s.rcs = b.rcs) (svu : s.svu = b.svu) (effective : ∀ d, (s.district d).effective = (b.district d).effective) :
    b.levelChangeFollows t := by
  have runtime : ∀ k, s.runtime k = b.runtime k := State.runtime_congr sou
  have seq : ∀ k, s.seq k = b.seq k := State.seq_of_rcs rcs
  simpa only [State.levelChangeFollows, State.profilesCompared, State.sequencesReevaluated, State.districtOf_congr fmu, effective,
    runtime, seq, svu] using follows

theorem State.InputsOnly.levelChangeFollows {b s t : State} (h : b.InputsOnly s) (follows : s.levelChangeFollows t) :
    b.levelChangeFollows t := follows.before h.fmu h.sou h.rcs h.svu h.effective

theorem State.InputsOnly.fireHoldsFollow {b s t : State} (h : b.InputsOnly s) (follows : s.fireHoldsFollow t) :
    b.fireHoldsFollow t := by
  have slot : ∀ i, s.slot i = b.slot i := State.slot_congr h.htu
  have holds : ∀ i, s.holdAt i = b.holdAt i := State.holdAt_congr h.htu
  have handles : ∀ i, s.handleAt i = b.handleAt i := fun i => by rw [State.handleAt, slot]; rfl
  have live : ∀ x, s.liveHold x = b.liveHold x := fun x => State.liveHold_of_slot (slot _)
  have zones : ∀ d, s.districtZones d = b.districtZones d := fun d => by
    simp only [State.districtZones, State.zoneInfo, State.zone, h.fmu]
  simpa only [State.fireHoldsFollow, State.fireHoldPlaced, State.fireHoldFor, State.otherHoldsStand, slot, holds, handles, live,
    zones, h.effective, h.fire, h.svu] using follows

theorem State.InputsOnly.below {b s : State} (h : b.InputsOnly s) (settled : b.settled) (d : DistrictNo)
    (low : (s.district d).effective ≠ .ban) : (s.district d).fire = none := by
  rw [h.effective] at low
  rw [h.fire]
  exact settled.2.2 d low

theorem State.InputsOnly.emptySlots {b s : State} (h : b.InputsOnly s) {n : Nat} (room : b.emptySlots n) : s.emptySlots n := by
  rw [State.emptySlots] at room ⊢
  simpa only [State.holdAt_congr h.htu] using room

theorem State.InputsOnly.fireHandlesLive {b s : State} (h : b.InputsOnly s) (live : b.fireHandlesLive) : s.fireHandlesLive := by
  intro d x fire
  rw [h.fire] at fire
  rw [State.liveHold_of_slot (State.slot_congr h.htu x.slot)]
  exact live d x fire

/-- A register emptied after the change. -/
theorem State.levelChangeFollows.dropped {s t : State} (h : s.levelChangeFollows t) (p : Port) :
    s.levelChangeFollows (t.dropReservation p) := by
  obtain ⟨profiles, sequences⟩ := h
  refine ⟨profiles, fun k => ⟨fun n g owed => ?_, (sequences k).2⟩⟩
  obtain ⟨locked, notice⟩ := (sequences k).1 n g owed
  exact ⟨locked, State.dropReservation_noticed notice p⟩

theorem State.fireHoldsFollow.dropped {s t : State} (h : s.fireHoldsFollow t) (p : Port) :
    s.fireHoldsFollow (t.dropReservation p) := by
  obtain ⟨fires, stand⟩ := h
  refine ⟨fun d moved => ⟨fun ban zones none_ => ?_, fun x low fire live => ?_⟩, stand⟩
  · obtain ⟨x, fire, live, notice⟩ := (fires d moved).1 ban zones none_
    exact ⟨x, fire, live, State.dropReservation_noticed notice p⟩
  · obtain ⟨gone, stale, notice⟩ := (fires d moved).2 x low fire live
    exact ⟨gone, stale, State.dropReservation_noticed notice p⟩

/-! ### SET SEASON (R70) and the fire-ban line (R71) -/

theorem State.levelOfDistrict_eq (s : State) (d : DistrictNo) :
    s.levelOfDistrict d = levelGiven s.fsu.season s.fsu.tfb (s.district d).declared :=
  effectiveOf_eq_levelGiven _ _ _

/-- With the season moved, either every level that changes was NORMAL or every one becomes NORMAL. -/
theorem levelGiven_season {s u : State} (agree : s.levelsAgree) {f : Season} (differs : s.fsu.season ≠ f)
    (level : ∀ d, u.levelOfDistrict d = levelGiven f s.fsu.tfb (s.district d).declared) :
    (∀ d, u.levelOfDistrict d ≠ (s.district d).effective → (s.district d).effective ≠ .ban)
      ∨ ∀ d, u.levelOfDistrict d ≠ (s.district d).effective → u.levelOfDistrict d ≠ .ban := by
  simp only [level, show ∀ d, (s.district d).effective = _ from agree]
  cases s.fsu.tfb with
  | true => exact .inl fun _ moved => absurd rfl moved
  | false =>
    cases e : s.fsu.season with
    | inSeason =>
      cases f with
      | inSeason => exact absurd e differs
      | outOfSeason => exact .inr fun _ _ => nofun
    | outOfSeason => exact .inl fun _ _ => nofun

/-- Settles O31. -/
theorem setSeasonSets : Obligations.SetSeasonSets := by
  unfold Obligations.SetSeasonSets
  intro s f hs agree
  refine ⟨fun same => ?_, fun differs => ?_⟩
  · have carried : (s.taking .controller).carryOut .controller (.setSeason (.named f)) = (s.taking .controller, .already (.season f 0)) :=
      if_pos same
    exact (exec_unmoved (c := .setSeason .controller (.named f)) rfl hs nofun rfl rfl carried :)
  let u := State.notify { s.taking .controller with fsu.season := f } .level
  have carried : (s.taking .controller).carryOut .controller (.setSeason (.named f))
      = (u.applyLevels, .done (.season f u.changedDistricts.length)) := if_neg differs
  have answered := exec_answered (c := .setSeason .controller (.named f)) rfl hs nofun rfl rfl carried
  have base : s.InputsOnly u := ⟨rfl, rfl, rfl, rfl, rfl, fun _ => rfl, fun _ => rfl⟩
  have level : ∀ d, u.levelOfDistrict d = levelGiven f s.fsu.tfb (s.district d).declared := u.levelOfDistrict_eq
  obtain ⟨fmu, svu, -, fsu, district, registers, notices, -, follows⟩ := u.applyLevels_relevelled
  have registers' : ∀ q d v, (u.port q).reservation = some (.district d v) ↔ (s.port q).reservation = some (.district d v) := by
    intro q d v
    cases q <;> exact Iff.rfl
  have effective : ∀ d, (u.applyLevels.district d).effective = u.levelOfDistrict d := fun d => by rw [district]
  have count : u.changedDistricts.length
      = (allDistricts.filter fun d => (u.applyLevels.district d).effective != (s.district d).effective).length := by
    refine congrArg List.length (List.filter_congr fun d _ => ?_)
    rw [effective]
    rfl
  rw [count] at answered
  refine ⟨u.applyLevels, answered, (congrArg Fsu.season fsu :), (congrArg Fsu.tfb fsu :), (congrArg Fsu.groups fsu :),
    fun d => ⟨?_, ?_, (effective d).trans (level d)⟩, notices _ (State.noticed_notify _ _), fun q d v held => ?_,
    fun q d v held same => ?_, fmu, svu, fun settled room => ?_, base.levelChangeFollows follows⟩
  · rw [district]
    rfl
  · rw [district]
    rfl
  · exact (effective d).trans ((registers q d v).mp held).2
  · exact (registers q d v).mpr ⟨(registers' q d v).mpr held, (effective d).symm.trans same⟩
  · refine base.fireHoldsFollow (State.applyLevels_fires (base.below settled) (base.emptySlots room) ?_)
    exact levelGiven_season (s := s) agree differs level

/-- With the fire-ban line moved, every level that changes goes to BAN or every one leaves it. -/
theorem levelGiven_tfb {s u : State} (agree : s.levelsAgree) {b : Bool} (differs : s.fsu.tfb ≠ b)
    (level : ∀ d, u.levelOfDistrict d = levelGiven s.fsu.season b (s.district d).declared) :
    (∀ d, u.levelOfDistrict d ≠ (s.district d).effective → (s.district d).effective ≠ .ban)
      ∨ ∀ d, u.levelOfDistrict d ≠ (s.district d).effective → u.levelOfDistrict d ≠ .ban := by
  cases b with
  | true =>
    refine .inl fun d moved low => moved ?_
    rw [level, low]
    rfl
  | false =>
    refine .inr fun d moved low => moved ?_
    have asserted : s.fsu.tfb = true := by simpa using differs
    rw [low, show (s.district d).effective = _ from agree d, asserted]
    rfl

/-- The line moved while the blocks do not work, and while they do (R71). -/
theorem State.tfbChanges_idle {s : State} (idle : s.live = false) (b : Bool) :
    s.tfbChanges b = { s with lines := { s.lines with tfb := b } } := by
  unfold State.tfbChanges
  split
  next same => rw [← same]
  next => exact State.event_idle (s := { s with lines := { s.lines with tfb := b } }) idle _ _

theorem State.tfbChanges_working {s : State} (working : s.working) {b : Bool} (differs : s.lines.tfb ≠ b) :
    s.tfbChanges b = (State.applyLevels { s with lines := { s.lines with tfb := b }, fsu.tfb := b }).arbitrate := by
  unfold State.tfbChanges
  rw [if_neg differs]
  exact State.event_working (s := { s with lines := { s.lines with tfb := b } }) working _ _

/-- Settles O32. -/
theorem fireBanLineMovesTheLevels : Obligations.FireBanLineMovesTheLevels := by
  unfold Obligations.FireBanLineMovesTheLevels
  refine ⟨fun s b => ⟨fun same => ?_, fun idle => ?_, fun working agree differs => ?_⟩, fun s d i ban zones none_ empty low => ?_⟩
  · exact congrArg Host.Outcome.next (if_pos same)
  · exact congrArg Host.Outcome.next (State.tfbChanges_idle idle b)
  · let u : State := { s with lines := { s.lines with tfb := b }, fsu.tfb := b }
    have taken : exec (.tfbEdge b) s = .next u.applyLevels.arbitrate :=
      congrArg Host.Outcome.next (State.tfbChanges_working working differs)
    have base : s.InputsOnly u := ⟨rfl, rfl, rfl, rfl, rfl, fun _ => rfl, fun _ => rfl⟩
    have level : ∀ d, u.levelOfDistrict d = levelGiven s.fsu.season b (s.district d).declared := u.levelOfDistrict_eq
    obtain ⟨-, -, lines, fsu, district, -, -, told, follows⟩ := u.applyLevels_relevelled
    have effective : ∀ d, (u.applyLevels.district d).effective = u.levelOfDistrict d := fun d => by rw [district]
    refine ⟨u.applyLevels, taken, lines, (congrArg Fsu.tfb fsu :), (congrArg Fsu.season fsu :), (congrArg Fsu.groups fsu :),
      fun d => ⟨?_, ?_, (effective d).trans (level d)⟩, fun ⟨d, moved⟩ => ?_, fun same => ?_, fun settled room => ?_,
      base.levelChangeFollows follows⟩
    · rw [district]
      rfl
    · rw [district]
      rfl
    · rw [effective] at moved
      exact (told ⟨d, moved⟩).1
    · exact State.applyLevels_quiet fun d => (effective d).symm.trans (same d)
    · refine base.fireHoldsFollow (State.applyLevels_fires (base.below settled) (base.emptySlots room) ?_)
      by_cases same : s.fsu.tfb = b
      · refine .inl fun d moved => absurd ?_ moved
        rw [level, ← same]
        exact (agree d).symm
      · exact levelGiven_tfb (s := s) agree same level
  · have placed := State.placeFire_at empty low d
    rw [State.adjustFire_places ban zones none_]
    refine ⟨placed.fire, ?_, placed.slots, placed.counts, placed.noticed⟩
    rw [State.holdAt, placed.slot]
    rfl

/-! ### DECLARE LEVEL (R69) -/

/-- The record of a district with its declared level set, the notice set and its reservations lost, before the change. -/
def State.redeclared (s : State) (d : DistrictNo) (l : Level) : State :=
  ((s.setDistrict d { s.district d with declared := l, version := (s.district d).version + 1 }).notify .level).loseDistrict d

theorem State.redeclared_district (s : State) (d : DistrictNo) (l : Level) (e : DistrictNo) : (s.redeclared d l).district e =
    if e = d then { s.district d with declared := l, version := (s.district d).version + 1 } else s.district e := by
  by_cases same : e = d
  · rw [same, if_pos rfl]
    exact State.district_setDistrict_same _ _ _
  · rw [if_neg same]
    exact State.district_setDistrict_other _ _ same

theorem State.redeclared_base (s : State) (d : DistrictNo) (l : Level) : s.InputsOnly (s.redeclared d l) := by
  refine ⟨rfl, rfl, rfl, rfl, rfl, fun e => ?_, fun e => ?_⟩
  all_goals
    rw [State.redeclared_district]
    split
    next same => rw [same]
    next => rfl

/-- The level of the district declared is the one given, and where the levels agreed the others' levels stand. -/
theorem State.redeclared_level {s : State} (agree : s.levelsAgree) (d : DistrictNo) (l : Level) :
    (s.redeclared d l).levelOfDistrict d = levelGiven s.fsu.season s.fsu.tfb l
      ∧ ∀ e, e ≠ d → (s.redeclared d l).levelOfDistrict e = ((s.redeclared d l).district e).effective := by
  refine ⟨?_, fun e other => ?_⟩
  · rw [State.levelOfDistrict_eq, State.redeclared_district, if_pos rfl]
    rfl
  · rw [State.levelOfDistrict_eq, State.redeclared_district, if_neg other]
    exact (agree e).symm

/-- What DECLARE LEVEL makes of a declared level that differs. -/
structure State.Declared (s t : State) (d : DistrictNo) (l : Level) : Prop where
  declared : (t.district d).declared = l
  version : (t.district d).version = (s.district d).version + 1
  effective : (t.district d).effective = levelGiven s.fsu.season s.fsu.tfb l
  others : ∀ e, e ≠ d → t.district e = { s.district e with fire := (t.district e).fire }
  stand : s.fireHandlesLive → ∀ e, e ≠ d → t.district e = s.district e
  told : t.noticed .level
  lost : ∀ q v, (t.port q).reservation ≠ some (.district d v)
  thresholds : (t.district d).effective ≠ (s.district d).effective → t.ehu.thresholds = t.feederThresholds
  settings : t.fsu = { s.fsu with districts := t.fsu.districts }
  fmu : t.fmu = s.fmu
  svu : t.svu = s.svu
  fires : s.settled → s.emptySlots 8 → s.fireHoldsFollow t
  follows : s.levelChangeFollows t

theorem State.setDeclared_declared {s : State} (agree : s.levelsAgree) (d : DistrictNo) (l : Level) :
    s.Declared (s.setDeclared d l) d l := by
  have base := s.redeclared_base d l
  obtain ⟨here, others⟩ := State.redeclared_level agree d l
  have written := s.redeclared_district d l
  obtain ⟨fmu, svu, -, fsu, district, registers, notices, told, follows⟩ := (s.redeclared d l).applyLevels_relevelled
  have single := fun (live : s.fireHandlesLive) e other => State.applyLevels_single (e := e) (base.fireHandlesLive live) other others
  have fires := fun (settled : s.settled) (room : s.emptySlots 8) => base.fireHoldsFollow
    (State.applyLevels_fires (s := s.redeclared d l) (base.below settled) (base.emptySlots room) (by
      by_cases low : ((s.redeclared d l).district d).effective = .ban
      · refine .inr fun e moved => ?_
        have same : e = d := by_contra fun other => moved (others e other)
        rw [same] at moved ⊢
        exact fun ban => moved (ban.trans low.symm)
      · refine .inl fun e moved => ?_
        have same : e = d := by_contra fun other => moved (others e other)
        rw [same]
        exact low))
  have noticed : (s.redeclared d l).noticed .level := State.loseReservations_noticed (State.noticed_notify _ _) _
  have lost : ∀ q v, ((s.redeclared d l).port q).reservation ≠ some (.district d v) := fun q v held =>
    ((State.loseDistrict_register _ d q d v).mp held).2 rfl
  have change : s.setDeclared d l = (s.redeclared d l).applyLevels := rfl
  rw [change]
  have settings : (s.redeclared d l).fsu = { s.fsu with districts := (s.redeclared d l).fsu.districts } := rfl
  have fmu' : (s.redeclared d l).fmu = s.fmu := base.fmu
  have svu' : (s.redeclared d l).svu = s.svu := base.svu
  have effective := base.effective d
  have follows' := base.levelChangeFollows follows
  generalize (s.redeclared d l).applyLevels = t at *
  refine ⟨?_, ?_, ?_, fun e other => ?_, fun live e other => ?_, notices _ noticed, fun q v held => ?_, fun moved => ?_, ?_,
    fmu.trans fmu', svu.trans svu', fires, follows'⟩
  · rw [district, written, if_pos rfl]
  · rw [district, written, if_pos rfl]
  · rw [district]
    exact here
  · rw [district, others e other, written, if_neg other]
  · rw [single live e other, written, if_neg other]
  · exact lost q v ((registers q d v).mp held).1
  · refine (told ⟨d, fun same => moved ?_⟩).2
    rw [district, same]
    exact effective
  · rw [fsu, settings]

theorem State.Declared.dropped {s t : State} {d : DistrictNo} {l : Level} (h : s.Declared t d l) {p : Port} :
    s.Declared (t.dropReservation p) d l := by
  obtain ⟨declared, version, effective, others, stand, told, lost, thresholds, settings, fmu, svu, fires, follows⟩ := h
  refine ⟨declared, version, effective, others, stand, State.dropReservation_noticed told p, fun q v held => ?_, thresholds, settings,
    fmu, svu, fun settled room => (fires settled room).dropped p, follows.dropped p⟩
  rw [State.dropReservation_register] at held
  split at held
  · cases held
  · exact lost q v held

/-- What is so of the state that took the request is so of the state before. -/
theorem State.Declared.from_taking {s t : State} {d : DistrictNo} {l : Level} {p : Port} (h : (s.taking p).Declared t d l) :
    s.Declared t d l := by
  have base : s.InputsOnly (s.taking p) := ⟨rfl, rfl, rfl, rfl, rfl, fun _ => rfl, fun _ => rfl⟩
  obtain ⟨declared, version, effective, others, stand, told, lost, thresholds, settings, fmu, svu, fires, follows⟩ := h
  exact ⟨declared, version, effective, others, stand, told, lost, thresholds, settings, fmu, svu,
    fun settled room => base.fireHoldsFollow (fires settled room), base.levelChangeFollows follows⟩

/-- Settles O30. -/
theorem declareLevelDeclares : Obligations.DeclareLevelDeclares := by
  unfold Obligations.DeclareLevelDeclares
  refine ⟨fun s d l cond hs agree held => ?_, fun s cond hs => ⟨fun n l out => ?_, fun d l conditional lost => ?_⟩⟩
  · have register : ((s.taking .controller).port .controller).reservation = (s.port .controller).reservation := by
      rw [State.port_taking]
    have owned : (cond && ((s.taking .controller).port .controller).reservation
        != some (.district d ((s.taking .controller).district d).version)) = false := by
      rw [register]
      cases cond with
      | false => rfl
      | true => exact (Bool.true_and _).trans (bne_eq_false_iff_eq.mpr (held rfl))
    have carried : (s.taking .controller).carryOut .controller (.declareLevel d.val (.named l) cond)
        = if (s.district d).declared = l then (s.taking .controller, .already (.district (s.district d)))
          else ((s.taking .controller).setDeclared d l, .done (.declared (((s.taking .controller).setDeclared d l).district d).declared
            (((s.taking .controller).setDeclared d l).district d).effective
            (((s.taking .controller).setDeclared d l).district d).version)) := by
      simp only [State.carryOut, State.declareLevel, districtNo?_val, named?, owned, Bool.false_eq_true, if_false]
      rfl
    refine ⟨fun same => ?_, fun differs => ?_⟩
    · rw [if_pos same.symm] at carried
      exact (exec_conditional_unmoved (c := .declareLevel .controller d.val (.named l) cond) rfl hs nofun rfl carried :)
    · rw [if_neg (Ne.symm differs)] at carried
      have answered := exec_conditional (c := .declareLevel .controller d.val (.named l) cond) rfl hs nofun rfl carried
      have done_ := State.setDeclared_declared (s := s.taking .controller) agree d l
      rw [done_.declared, done_.effective, done_.version] at answered
      refine ⟨_, answered, ?_⟩
      have taken : State.Declared s (if isConditional (.declareLevel d.val (.named l) cond) then
          ((s.taking .controller).setDeclared d l).dropReservation .controller else (s.taking .controller).setDeclared d l) d l := by
        split
        · exact done_.dropped.from_taking
        · exact done_.from_taking
      generalize (if isConditional (.declareLevel d.val (.named l) cond) then _ else _ : State) = t at taken ⊢
      exact ⟨taken.declared, taken.version, taken.effective, taken.others, taken.stand, taken.told, taken.lost, taken.thresholds,
        (congrArg Fsu.groups taken.settings :), (congrArg Fsu.season taken.settings :), (congrArg Fsu.tfb taken.settings :),
        (congrArg Fsu.staging taken.settings :), taken.fmu, taken.svu, taken.fires, taken.follows⟩
  · have carried : (s.taking .controller).carryOut .controller (.declareLevel n l cond) = (s.taking .controller, .refuse .refusedRange) := by
      rcases out with far | unnamed
      · simp [State.carryOut, State.declareLevel, districtNo?_eq_none far]
      · simp only [State.carryOut, State.declareLevel, unnamed, named?]
        cases districtNo? n <;> rfl
    exact (exec_conditional_unmoved (c := .declareLevel .controller n l cond) (d := .refuse .refusedRange) rfl hs nofun rfl carried :)
  · have carried : (s.taking .controller).carryOut .controller (.declareLevel d.val (.named l) cond)
        = (s.taking .controller, .refuse .refusedLost) := by
      have differs : (cond && ((s.taking .controller).port .controller).reservation
          != some (.district d ((s.taking .controller).district d).version)) = true := by
        rw [State.port_taking, conditional]
        exact (Bool.true_and _).trans (bne_iff_ne.mpr lost)
      simp only [State.carryOut, State.declareLevel, districtNo?_val, named?, differs, if_true]
    exact (exec_conditional_unmoved (c := .declareLevel .controller d.val (.named l) cond) (d := .refuse .refusedLost) rfl hs nofun
      rfl carried :)

end Sys2Proof.Machine
end

section
/-! LOAD ZONES (R9 to R11). -/

namespace Sys2Proof.Machine

/-! ### The entries of the list (R9, R10) -/

theorem mapM_eq_none_of_mem {α β : Type} {f : α → Option β} {a : α} (none_ : f a = none) {l : List α} (mem : a ∈ l) :
    l.mapM f = none := by
  induction l with
  | nil => cases mem
  | cons b l ih =>
    rw [List.mapM_cons]
    rcases List.mem_cons.mp mem with rfl | mem
    · rw [none_]
      rfl
    · cases f b with
      | none => rfl
      | some v =>
        rw [ih mem]
        rfl

/-- The table a list leaves holds the last entry for each zone. -/
theorem foldl_zones (l : List (ZoneNo × ZoneInfo)) (v : Vector ZoneEntry 32) (z : ZoneNo) :
    (l.foldl (fun v e => v.set e.1 ⟨some e.2, 0⟩) v)[z]
      = match (l.filter fun e => e.1 == z).getLast? with | some e => ⟨some e.2, 0⟩ | none => v[z] := by
  induction l using List.reverseRecOn with
  | nil => rfl
  | append_singleton l e ih =>
    rw [List.foldl_append, List.foldl_cons, List.foldl_nil, List.filter_append]
    by_cases here : e.1 = z
    · subst here
      simp
    · have other : e.1.val ≠ z.val := fun same => here (Fin.ext same)
      rw [show [e].filter (fun e => e.1 == z) = [] by simp [here], List.append_nil, ← ih]
      exact Vector.getElem_set_ne _ _ other

theorem loadedZones_get (l : List (ZoneNo × ZoneInfo)) (z : ZoneNo) :
    (loadedZones l)[z] = ⟨((l.filter fun e => e.1 == z).getLast?).map (·.2), 0⟩ := by
  rw [loadedZones, foldl_zones]
  cases (l.filter fun e => e.1 == z).getLast? with
  | some e => rfl
  | none => simp [ZoneEntry.cold]

/-- An entry with a field out of range is none. -/
theorem zoneLoad?_eq_none {e : ZoneLoad} (out : 31 < e.zone ∨ (∃ q, e.parent = some q ∧ 31 < q) ∨ (e.parent = none ∧ e.zone ≠ 0)
    ∨ (∃ k, e.boundary = .switched k ∧ 15 < k) ∨ e.boundary = .unnamed ∨ 7 < e.district ∨ e.essential = .unnamed) :
    zoneLoad? e = none := by
  obtain ⟨zone, parent, boundary, district, essential⟩ := e
  dsimp only at out
  cases hz : zoneNo? zone with
  | none => simp [zoneLoad?, hz]
  | some z =>
    have near : ¬ 31 < zone := fun far => by rw [zoneNo?_eq_none far] at hz; cases hz
    rcases out with far | ⟨q, rfl, far⟩ | ⟨rfl, rootless⟩ | ⟨k, rfl, far⟩ | rfl | far | rfl
    · exact absurd far near
    · simp [zoneLoad?, hz, zoneNo?_eq_none far]
    · have other : z ≠ 0 := by
        rintro rfl
        simp only [zoneNo?, Option.dite_none_right_eq_some, Option.some.injEq] at hz
        obtain ⟨_, hz⟩ := hz
        exact rootless (congrArg Fin.val hz)
      simp [zoneLoad?, hz, other]
    · cases parent <;> simp [zoneLoad?, hz, switchNo?_eq_none far]
    · cases parent <;> simp [zoneLoad?, hz]
    · cases parent <;> cases boundary <;> simp [zoneLoad?, hz, districtNo?_eq_none far]
    · cases parent <;> cases boundary <;> simp [zoneLoad?, hz, named?]

/-! ### The holds widened (R11) -/

/-- A slot with its hold widened to the whole feeder. -/
def Slot.widened (v : Slot) : Slot :=
  { v with hold := v.hold.map fun h => { h with scope := wholeFeeder, version := h.version + 1 } }

theorem State.widen_live {s : State} {i : SlotNo} {h : Hold} (live : s.holdAt i = some h) :
    s.widen i = (s.setSlot i (s.slot i).widened).loseHold (s.handleAt i) := by
  have widened : (s.slot i).widened
      = { s.slot i with hold := some { h with scope := wholeFeeder, version := h.version + 1 } } := by
    rw [Slot.widened, show (s.slot i).hold = some h from live]
    rfl
  rw [widened, State.widen, live]

/-- Whether a reservation names the present hold of one of some slots. -/
def State.namedIn (s : State) (l : List SlotNo) (r : Reservation) : Bool :=
  match r with
  | .hold h _ => h.useCount == (s.slot h.slot).useCount && l.contains h.slot
  | .district _ _ => false

theorem State.namedIn_singleton (s : State) (i : SlotNo) (r : Reservation) : s.namedIn [i] r = r.namesHold (s.handleAt i) := by
  cases r with
  | district d v => rfl
  | hold h v =>
    obtain ⟨slot, useCount⟩ := h
    rw [Bool.eq_iff_iff]
    simp only [State.namedIn, Reservation.namesHold, State.handleAt, Bool.and_eq_true, beq_iff_eq, List.contains_iff_mem,
      List.mem_singleton, Handle.mk.injEq]
    constructor
    · rintro ⟨same, rfl⟩
      exact ⟨rfl, same⟩
    · rintro ⟨rfl, same⟩
      exact ⟨same, rfl⟩

/-- What widening the holds of some slots changes. -/
structure State.Widened (s t : State) (l : List SlotNo) : Prop where
  frame : t = { s with htu.slots := t.htu.slots, rqi := t.rqi }
  slots : ∀ i, t.slot i = if i ∈ l then (s.slot i).widened else s.slot i
  registers : ∀ q, t.port q = if (s.port q).reservation.any (s.namedIn l) then { s.port q with reservation := none } else s.port q

theorem State.widen_widened {s : State} {i : SlotNo} (live : (s.holdAt i).isSome = true) : s.Widened (s.widen i) [i] := by
  obtain ⟨h, live⟩ := Option.isSome_iff_exists.mp live
  rw [State.widen_live live]
  refine ⟨rfl, fun j => ?_, fun q => ?_⟩
  · refine (State.slot_setSlot s i j _).trans ?_
    by_cases here : i = j
    · subst here
      simp
    · simp [here, Ne.symm here]
  · rw [State.loseHold, State.loseReservations_port, show s.namedIn [i] = _ from funext (s.namedIn_singleton i)]
    rfl

theorem foldl_widen_widened {l : List SlotNo} (distinct : l.Nodup) {s : State} (live : ∀ i ∈ l, (s.holdAt i).isSome = true) :
    s.Widened (l.foldl State.widen s) l := by
  induction l generalizing s with
  | nil =>
    have unnamed : s.namedIn [] = fun _ => false := funext fun r => by cases r <;> simp [State.namedIn]
    exact ⟨rfl, fun i => by simp, fun q => by simp [unnamed]⟩
  | cons i l ih =>
    obtain ⟨fresh, distinct⟩ := List.nodup_cons.mp distinct
    obtain ⟨frame, slots, registers⟩ := State.widen_widened (live i List.mem_cons_self)
    have counts : ∀ j, ((s.widen i).slot j).useCount = (s.slot j).useCount := fun j => by
      rw [slots]
      split <;> rfl
    obtain ⟨frame', slots', registers'⟩ := ih distinct (s := s.widen i) fun j mem => by
      have other : j ∉ [i] := fun same => by
        rw [List.mem_singleton.mp same] at mem
        exact fresh mem
      rw [State.holdAt, slots, if_neg other]
      exact live j (List.mem_cons_of_mem _ mem)
    rw [List.foldl_cons]
    refine ⟨by rw [frame', frame], fun j => ?_, fun q => ?_⟩
    · rw [slots', slots]
      by_cases here : j = i
      · subst here
        simp [fresh]
      · simp [here]
    · have named : ∀ r, s.namedIn (i :: l) r = (s.namedIn [i] r || (s.widen i).namedIn l r) := fun r => by
        cases r with
        | district d v => rfl
        | hold h v => simp [State.namedIn, counts, Bool.and_or_distrib_left]
      rw [registers', registers]
      cases held : (s.port q).reservation with
      | none => simp [held]
      | some r =>
        simp only [Option.any_some, named]
        cases s.namedIn [i] r with
        | true => simp
        | false => simp [held]

/-- What LOAD ZONES' widening changes: the holds it names, and with any of them the HOLD notice. -/
theorem State.widenAll_spec (s : State) : s.widenAll.1 = { s with htu.slots := s.widenAll.1.htu.slots, rqi := s.widenAll.1.rqi }
    ∧ (∀ i, s.widenAll.1.slot i = if i ∈ s.slotsWhere (·.widens) then (s.slot i).widened else s.slot i)
    ∧ (∀ q, (s.widenAll.1.port q).reservation
        = if (s.port q).reservation.any (s.namedIn (s.slotsWhere (·.widens))) then none else (s.port q).reservation)
    ∧ (s.slotsWhere (·.widens) ≠ [] → s.widenAll.1.noticed .hold) ∧ s.widenAll.2 = (s.slotsWhere (·.widens)).length := by
  have live : ∀ i ∈ s.slotsWhere (·.widens), (s.holdAt i).isSome = true := fun i mem => by
    have any := (List.mem_filter.mp mem).2
    cases h : s.holdAt i with
    | none => rw [h] at any; cases any
    | some r => rfl
  have distinct : (s.slotsWhere (·.widens)).Nodup := (List.nodup_finRange 64).filter _
  obtain ⟨frame, slots, registers⟩ := foldl_widen_widened distinct live
  have result : s.widenAll.1 = if s.slotsWhere (·.widens) = [] then (s.slotsWhere (·.widens)).foldl State.widen s
      else ((s.slotsWhere (·.widens)).foldl State.widen s).notify .hold := by
    simp only [State.widenAll, List.isEmpty_iff]
  have lost : ∀ q, (((s.slotsWhere (·.widens)).foldl State.widen s).port q).reservation
      = if (s.port q).reservation.any (s.namedIn (s.slotsWhere (·.widens))) then none else (s.port q).reservation := fun q => by
    rw [show State.port _ q = _ from registers q]
    split <;> rfl
  rw [result]
  refine ⟨?_, fun i => ?_, fun q => ?_, fun some_ => ?_, rfl⟩
  · split
    · exact frame
    · exact congrArg (fun t : State => t.notify .hold) frame
  · rw [← slots i]
    split <;> rfl
  · rw [← lost q]
    split
    · rfl
    · cases q <;> rfl
  · rw [if_neg some_]
    exact State.noticed_notify _ _

theorem foldl_recode_clean {s : State} (clean : s.svu.badCodes = []) (rs : List RecordId) : rs.foldl State.recode s = s := by
  have one : ∀ r, s.recode r = s := fun r => by
    have same : s.svu.badCodes.filter (· != r) = s.svu.badCodes := by rw [clean]; rfl
    rw [State.recode, same]
  induction rs with
  | nil => rfl
  | cons r rs ih => rw [List.foldl_cons, one, ih]

/-- The state with the table replaced and the reach table invalid. -/
def State.withZones (s : State) (l : List (ZoneNo × ZoneInfo)) : State :=
  { s with fmu.zones := loadedZones l, fmu.reachTable := none }

theorem State.loadZones_loaded {s : State} (clean : s.svu.badCodes = []) (mode : s.fmu.mode = .commissioning)
    (still : s.ehu.huntCase.step = none) {entries : List ZoneLoad} (some_ : entries ≠ []) (short : entries.length ≤ 32)
    {l : List (ZoneNo × ZoneInfo)} (loaded : entries.mapM zoneLoad? = some l) :
    s.loadZones entries = ((s.withZones l).widenAll.1.handThresholds,
      .done (.loaded (allZones.filter fun z => ((s.withZones l).zoneInfo z).isSome).length (s.withZones l).widenAll.2)) := by
  have recoded : (allZones.map RecordId.zone).foldl State.recode (s.withZones l) = s.withZones l :=
    foldl_recode_clean (s := s.withZones l) clean _
  have serving : ¬ s.fmu.mode = .service := by rw [mode]; nofun
  have step : ¬ s.stepUnderWay = true := by simp [State.stepUnderWay, still]
  have list : ¬ (entries.isEmpty || decide (32 < entries.length)) = true := by simpa [some_] using short
  refine (if_neg serving).trans ((if_neg step).trans ((if_neg list).trans ?_))
  rw [loaded]
  refine Eq.trans (b := (((allZones.map RecordId.zone).foldl State.recode (s.withZones l)).widenAll.1.handThresholds,
    .done (.loaded (allZones.filter fun z => ((s.withZones l).zoneInfo z).isSome).length
      ((allZones.map RecordId.zone).foldl State.recode (s.withZones l)).widenAll.2))) rfl ?_
  rw [recoded]

/-- A hold that LOAD ZONES widens becomes another. -/
theorem Slot.widened_ne {v : Slot} {h : Hold} (live : v.hold = some h) (widens : h.widens = true) : v.widened ≠ v := by
  intro same
  have scope := congrArg (fun v : Slot => v.hold.map (·.scope)) same
  simp only [Slot.widened, live, Option.map_some, Option.some.injEq] at scope
  simp [Hold.widens, ← scope] at widens

/-- A slot widened where its hold is one that LOAD ZONES widens. -/
theorem Slot.widened_cases (v : Slot) : (if v.hold.any (·.widens) = true then v.widened else v) =
    { v with hold := v.hold.map fun h =>
        if (h.origin = .controller ∨ h.origin = .maintenance ∨ h.origin = .hunt) ∧ h.scope ≠ wholeFeeder then
          { h with scope := wholeFeeder, version := h.version + 1 }
        else h } := by
  obtain ⟨hold, useCount⟩ := v
  cases hold with
  | none => rfl
  | some h =>
    have widens : h.widens = true
        ↔ (h.origin = .controller ∨ h.origin = .maintenance ∨ h.origin = .hunt) ∧ h.scope ≠ wholeFeeder := by
      simp [Hold.widens, or_assoc]
    simp only [Option.any_some, widens, Option.map_some, Slot.widened]
    split <;> rfl

/-- Settles O19. -/
theorem loadZonesReplacesTheTable : Obligations.LoadZonesReplacesTheTable := by
  unfold Obligations.LoadZonesReplacesTheTable
  refine ⟨fun s p entries l hs mode still some_ short loaded => ?_, fun s p entries hs => ⟨fun mode => ?_, fun mode step => ?_,
    fun mode still out => ?_⟩⟩
  · have carried : (s.taking p).carryOut p (.loadZones entries) = _ :=
      State.loadZones_loaded (s := s.taking p) hs.2.2 mode still some_ short loaded
    have answered := exec_answered (c := .loadZones p entries) rfl hs (fun _ => rfl) rfl rfl carried
    obtain ⟨frame, slots, registers, told, count⟩ := ((s.taking p).withZones l).widenAll_spec
    have zones : ∀ z, ((s.taking p).withZones l).zone z = ⟨((l.filter fun e => e.1 == z).getLast?).map (·.2), 0⟩ := loadedZones_get l
    have fmu : ((s.taking p).withZones l).fmu = { s.fmu with zones := loadedZones l, reachTable := none } := rfl
    have register : ∀ q, (((s.taking p).withZones l).port q).reservation = (s.port q).reservation := fun q => by
      cases p <;> cases q <;> rfl
    obtain ⟨counts, fsu, sou, rcs, svu, lines, ehu⟩ : ((s.taking p).withZones l).htu.counts = s.htu.counts ∧ ((s.taking p).withZones l).fsu = s.fsu
        ∧ ((s.taking p).withZones l).sou = s.sou ∧ ((s.taking p).withZones l).rcs = s.rcs ∧ ((s.taking p).withZones l).svu = s.svu
        ∧ ((s.taking p).withZones l).lines = s.lines ∧ ((s.taking p).withZones l).ehu = s.ehu := ⟨rfl, rfl, rfl, rfl, rfl, rfl, rfl⟩
    have slot : ∀ i, ((s.taking p).withZones l).slot i = s.slot i := fun _ => rfl
    have widens : ∀ i, i ∈ ((s.taking p).withZones l).slotsWhere (·.widens) ↔ (s.slot i).hold.any (·.widens) = true := fun i => by
      rw [State.slotsWhere, List.mem_filter]
      exact ⟨fun h => h.2, fun h => ⟨mem_allSlots i, h⟩⟩
    have moved : ∀ i, i ∈ ((s.taking p).withZones l).slotsWhere (·.widens)
        ↔ ((s.taking p).withZones l).widenAll.1.slot i ≠ s.slot i := fun i => by
      rw [slots, slot]
      split
      next mem =>
        obtain ⟨h, live, wide⟩ := (Option.any_eq_true _ _).mp ((widens i).mp mem)
        exact iff_of_true mem (Slot.widened_ne live wide)
      next out => exact iff_of_false out (not_not.mpr rfl)
    generalize (s.taking p).withZones l = w at *
    generalize w.widenAll = W at *
    have fmu' : W.1.fmu = w.fmu := (congrArg State.fmu frame :)
    have present : (allZones.filter fun z => (w.zoneInfo z).isSome).length
        = (allZones.filter fun z => (W.1.handThresholds.zone z).info.isSome).length := by
      have zone : ∀ z, W.1.handThresholds.zone z = w.zone z := fun z => by
        rw [State.zone, show W.1.handThresholds.fmu = W.1.fmu from rfl, fmu']
        rfl
      simp only [zone, State.zoneInfo]
    have widened : W.2 = (allSlots.filter fun i => W.1.handThresholds.slot i != s.slot i).length := by
      rw [count, State.slotsWhere]
      refine congrArg List.length (List.filter_congr fun i _ => ?_)
      rw [Bool.eq_iff_iff, bne_iff_ne, State.holdAt, slot]
      exact (widens i).symm.trans (moved i)
    rw [present, widened] at answered
    refine ⟨W.1.handThresholds, answered, fun z => ?_, ?_, ?_, ?_, fun i => ?_, fun ⟨i, other⟩ => ?_, fun q => ?_, ?_, ?_, ?_, ?_,
      ?_, ?_, ?_⟩
    · rw [← zones]
      exact (congrArg (fun f : Fmu => f.zones[z]) fmu' :)
    · exact (congrArg Fmu.mode (fmu'.trans fmu) :).trans mode
    · exact (congrArg Fmu.switches (fmu'.trans fmu) :)
    · exact (congrArg Fmu.reachTable (fmu'.trans fmu) :)
    · refine (slots i).trans ?_
      simp only [slot, widens]
      exact Slot.widened_cases (s.slot i)
    · exact told (List.ne_nil_of_mem ((moved i).mpr other))
    · refine (show (W.1.handThresholds.port q).reservation = _ from registers q).trans ?_
      rw [register]
      cases held : (s.port q).reservation with
      | none => rfl
      | some r => cases r with
        | district d v => rfl
        | hold h v =>
          have named : w.namedIn (w.slotsWhere (·.widens)) (.hold h v) = true
              ↔ h.useCount = (s.slot h.slot).useCount ∧ W.1.handThresholds.slot h.slot ≠ s.slot h.slot := by
            simp only [State.namedIn, Bool.and_eq_true, beq_iff_eq, List.contains_iff_mem, slot]
            exact and_congr Iff.rfl (moved h.slot)
          simp only [Option.any_some, named]
    · exact (congrArg (fun t : State => t.htu.counts) frame :).trans counts
    · exact (congrArg (fun e : Ehu => { e with thresholds := W.1.handThresholds.feederThresholds })
        ((congrArg State.ehu frame :).trans ehu) :)
    · exact (congrArg State.fsu frame :).trans fsu
    · exact (congrArg State.sou frame :).trans sou
    · exact (congrArg State.rcs frame :).trans rcs
    · exact (congrArg State.svu frame :).trans svu
    · exact (congrArg State.lines frame :).trans lines
  · have carried : (s.taking p).carryOut p (.loadZones entries) = (s.taking p, .refuse .refusedMode) := if_pos mode
    exact (exec_unmoved (c := .loadZones p entries) rfl hs (fun _ => rfl) rfl rfl carried :)
  · have serving : ¬ (s.taking p).fmu.mode = .service := by rw [show (s.taking p).fmu.mode = _ from mode]; nofun
    have carried : (s.taking p).carryOut p (.loadZones entries) = (s.taking p, .refuse .refusedBusy) :=
      (if_neg serving).trans (if_pos step)
    exact (exec_unmoved (c := .loadZones p entries) rfl hs (fun _ => rfl) rfl rfl carried :)
  · have serving : ¬ (s.taking p).fmu.mode = .service := by rw [show (s.taking p).fmu.mode = _ from mode]; nofun
    have idle : ¬ (s.taking p).stepUnderWay = true := by simp [State.stepUnderWay, State.taking, State.setPort, still]
    have carried : (s.taking p).carryOut p (.loadZones entries) = (s.taking p, .refuse .refusedRange) := by
      refine (if_neg serving).trans ((if_neg idle).trans ?_)
      by_cases list : (entries.isEmpty || decide (32 < entries.length)) = true
      · exact if_pos list
      · refine (if_neg list).trans ?_
        rcases out with none_ | long | ⟨e, mem, far⟩
        · exact absurd (by simp [none_]) list
        · exact absurd (by simp [long]) list
        · rw [mapM_eq_none_of_mem (zoneLoad?_eq_none far) mem]
    exact (exec_unmoved (c := .loadZones p entries) rfl hs (fun _ => rfl) rfl rfl carried :)

end Sys2Proof.Machine
end

section
/-! ENTER COMMISSIONING: the course out of service (R16, R17, R118, R123, R146, R152). -/

namespace Sys2Proof.Machine

/-! ### A request that ends CANCELLED, at the RCS (R112, R115) -/

/-- What a CANCELLED result makes of the sequence out of service: a reclose under way is recorded as a MODE lockout, and of the
sequences that owe nothing none changes. -/
structure State.SeqCancelled (s t : State) (k : SwitchNo) (q : OpRequest) : Prop where
  idle : (s.seq k).state.owes = false → t.seq k = s.seq k
  owing : q.action = .toClose → t.seq k = s.seq k ∨ (t.seq k = (s.seq k).lockedOut .mode s.svu.minute ∧ t.noticed .lockout)

theorem State.rcsResult_cancelled {s : State} (mode : s.fmu.mode = .commissioning) (k : SwitchNo) (q : OpRequest) :
    s.SeqCancelled (s.rcsResult k q.action q.classes .cancelled) k q := by
  cases action : q.action with
  | toClose =>
    have either : (s.rcsResult k .toClose q.classes .cancelled = s)
        ∨ ((s.seq k).state.owes = true ∧ s.rcsResult k .toClose q.classes .cancelled = s.lockOut k .mode) := by
      simp only [State.rcsResult, State.rcsCloseResult]
      split
      · split
        next n state =>
          split
          · exact .inl rfl
          · refine .inr ⟨by rw [state]; rfl, ?_⟩
            rw [State.recloseEnded, mode]
            rfl
        next => exact .inl rfl
      · split
        case h_4 => exact .inl rfl
        all_goals contradiction
    rcases either with same | ⟨owes, locked⟩
    · rw [same]
      exact ⟨fun _ => rfl, fun _ => .inl rfl⟩
    · rw [locked]
      refine ⟨fun idle => absurd (idle.symm.trans owes) nofun, fun _ => .inr ⟨?_, State.lockOut_noticed s k .mode⟩⟩
      rw [State.lockOut_seq, if_pos rfl]
  | toOpen =>
    refine ⟨fun idle => ?_, fun close => by rw [action] at close; cases close⟩
    simp only [State.rcsResult, State.rcsOpenResult]
    cases state : (s.seq k).state with
    | deadTime n => rw [state] at idle; cases idle
    | reclosing n => rw [state] at idle; cases idle
    | _ => rfl

/-! ### The step that waits on a cancelled request (R140, R144, R146) -/

/-- Whether a step waits on a request of a switch's slot. -/
def Step.waitsOn (st : Step) (q : OpRequest) : Prop := q.classes.hunt = true
  ∧ ((st.phase = .opening ∧ q.action = .toOpen) ∨ (st.phase = .closingBack ∧ q.action = .toClose ∧ st.outcome.isSome = true))

/-- The case with the step ended by a request cancelled. -/
def HuntCase.leftBy (c : HuntCase) (st : Step) : HuntCase :=
  match st.phase, st.outcome with
  | .closingBack, some o => (c.nameLeftOpen st.switch .held).closeStep st.switch o
  | _, _ => c.closeStep st.switch .inconclusive

/-- The case abandoned as its step ends by a request cancelled. -/
def State.abandonStep (s : State) (st : Step) (r : AbandonReason) : State :=
  State.concludeAbandoned
    { s with ehu.huntCase := s.ehu.huntCase.leftBy st, ehu.settleTimer := .stopped, ehu.observeTimer := .stopped } r

theorem State.endStep_abandons {s : State} {r : AbandonReason} (pending : s.ehu.pendingAbandon = some r) (k : SwitchNo)
    (o : StepOutcome) (own : OwnCourse) : s.endStep k o own = State.concludeAbandoned
      { s with ehu.huntCase := s.ehu.huntCase.closeStep k o, ehu.settleTimer := .stopped, ehu.observeTimer := .stopped } r := by
  unfold State.endStep State.afterStep
  dsimp only
  rw [pending]

theorem State.huntResult_cancelled {s : State} {st : Step} {r : AbandonReason} (step : s.ehu.huntCase.step = some st)
    (pending : s.ehu.pendingAbandon = some r) (k : SwitchNo) (q : OpRequest) :
    (k = st.switch ∧ st.waitsOn q → s.huntResult k q .cancelled false = s.abandonStep st r)
      ∧ (¬ (k = st.switch ∧ st.waitsOn q) → s.huntResult k q .cancelled false = s) := by
  obtain ⟨t, phase, outcome⟩ := st
  obtain ⟨action, classes⟩ := q
  have course : s.huntResult k ⟨action, classes⟩ .cancelled false = if t = k ∧ classes.hunt = true then
      (match (generalizing := false) phase, action, outcome with
        | .opening, .toOpen, _ => s.openEnded k .cancelled
        | .closingBack, .toClose, some o => s.closeBackEnded k o .cancelled
        | _, _, _ => s) else s := by
    simp only [State.huntResult, step]
    by_cases here : t = k
    · subst here
      rw [bne_self_eq_false]
      cases classes.hunt with
      | false => exact (if_neg nofun).trans (if_neg fun h => Bool.false_ne_true h.2).symm
      | true => exact (if_neg nofun).trans (if_pos (c := t = t ∧ true = true) ⟨rfl, rfl⟩).symm
    · exact (if_pos (bne_iff_ne.mpr here)).trans (if_neg fun h => here h.1).symm
  refine ⟨?_, fun other => ?_⟩
  · rintro ⟨rfl, hunt, ⟨rfl, rfl⟩ | ⟨rfl, rfl, some_⟩⟩
    · rw [course, if_pos ⟨rfl, hunt⟩]
      exact State.endStep_abandons pending _ _ _
    · obtain ⟨o, rfl⟩ := Option.isSome_iff_exists.mp some_
      rw [course, if_pos ⟨rfl, hunt⟩]
      exact State.endStep_abandons (s := s.nameLeftOpen _ .held) pending _ _ _
  · rw [course]
    split
    next mine =>
      obtain ⟨rfl, hunt⟩ := mine
      split
      · exact absurd ⟨rfl, hunt, .inl ⟨rfl, rfl⟩⟩ other
      · exact absurd ⟨rfl, hunt, .inr ⟨rfl, rfl, rfl⟩⟩ other
      · rfl
    next => rfl

/-! ### A request of a slot cancelled (R17) -/

/-- Whether a step waits on the request in the slot of its switch. -/
def State.stepWaits (s : State) (st : Step) : Prop := ∃ q, (s.runtime st.switch).slot = some q ∧ st.waitsOn q

/-- The record of a switch whose slot's request ends CANCELLED. -/
def Runtime.cancelled (r : Runtime) : Runtime :=
  { r with slot := none, lastResult := match r.slot with | some q => some ⟨q.action, q.classes, .cancelled⟩ | none => r.lastResult }

theorem Runtime.cancelled_empty {r : Runtime} (empty : r.slot = none) : r.cancelled = r := by
  cases r
  cases empty
  rfl

/-- What the cancellations of some switches' requests change, the case apart. -/
structure State.Cancelled (s t : State) (ks : List SwitchNo) : Prop where
  others : t.others = s.others
  sou : t.sou = { s.sou with runtime := t.sou.runtime }
  runtime : ∀ k, t.runtime k = if k ∈ ks then (s.runtime k).cancelled else s.runtime k
  told : ∀ k ∈ ks, (s.runtime k).slot.isSome = true → t.noticed .operation
  notices : ∀ n, s.noticed n → t.noticed n
  ehu : t.ehu = { s.ehu with
    runningCount := t.ehu.runningCount, huntCase := t.ehu.huntCase, settleTimer := t.ehu.settleTimer
    observeTimer := t.ehu.observeTimer }
  idle : ∀ k, (s.seq k).state.owes = false → t.seq k = s.seq k
  owing : ∀ k, (∀ q, (s.runtime k).slot = some q → q.action = .toClose) →
    t.seq k = s.seq k ∨ (t.seq k = (s.seq k).lockedOut .mode s.svu.minute ∧ t.noticed .lockout)
  elsewhere : ∀ k, k ∉ ks → t.seq k = s.seq k

/-- What they do to the case: nothing where no step is under way; where one is, with its abandonment pending, it ends where it waits on
one of them. -/
structure State.CaseCancelled (s t : State) (ks : List SwitchNo) : Prop where
  still : s.ehu.huntCase.step = none → t.ehu.huntCase = s.ehu.huntCase
  stands : ∀ st r, s.ehu.huntCase.step = some st → s.ehu.pendingAbandon = some r → ¬ (st.switch ∈ ks ∧ s.stepWaits st) →
    t.ehu.huntCase = s.ehu.huntCase
  ends : ∀ st r, s.ehu.huntCase.step = some st → s.ehu.pendingAbandon = some r → st.switch ∈ ks ∧ s.stepWaits st →
    t.ehu.huntCase = { (s.ehu.huntCase.leftBy st).conclude .abandoned with abandon := some r } ∧ t.noticed .hunt

/-- The step's case abandoned besides. -/
theorem State.Cancelled.abandoned {s t : State} {ks : List SwitchNo} (h : s.Cancelled t ks) (st : Step) (r : AbandonReason) :
    s.Cancelled (t.abandonStep st r) ks := by
  obtain ⟨others, sou, runtime, told, notices, ehu, idle, owing, elsewhere⟩ := h
  have more : ∀ n, t.noticed n → (t.abandonStep st r).noticed n := fun n h => State.noticed_kept _ _ _ h
  refine ⟨others, sou, runtime, fun k mem some_ => more _ (told k mem some_), fun n h => more n (notices n h), ?_, idle,
    fun k closes => (owing k closes).imp_right fun ⟨seq, notice⟩ => ⟨seq, more _ notice⟩, elsewhere⟩
  have whole : (t.abandonStep st r).ehu = { t.ehu with
      huntCase := (t.abandonStep st r).ehu.huntCase, settleTimer := .stopped, observeTimer := .stopped } := rfl
  rw [whole, ehu]

theorem State.cancelSlot_empty {s : State} {k : SwitchNo} (empty : (s.runtime k).slot = none) : s.cancelSlot k = s := by
  rw [State.cancelSlot, empty]

theorem State.cancelSlot_spec {s : State} (quiet : s.ehu.huntCase.state ≠ .suspended) (mode : s.fmu.mode = .commissioning)
    (k : SwitchNo) (pending : s.ehu.huntCase.step.isSome = true → s.ehu.pendingAbandon.isSome = true) :
    s.Cancelled (s.cancelSlot k) [k] ∧ s.CaseCancelled (s.cancelSlot k) [k] := by
  cases slot : (s.runtime k).slot with
  | none =>
    rw [State.cancelSlot_empty slot]
    have same := Runtime.cancelled_empty slot
    refine ⟨⟨rfl, rfl, fun j => ?_, fun j mem some_ => ?_, fun _ h => h, rfl, fun _ _ => rfl, fun _ _ => .inl rfl, fun _ _ => rfl⟩,
      ⟨fun _ => rfl, fun _ _ _ _ _ => rfl, fun st r step _ ⟨mem, q, waits, _⟩ => ?_⟩⟩
    · by_cases here : j = k
      · rw [if_pos (List.mem_singleton.mpr here), here, same]
      · rw [if_neg (mt List.mem_singleton.mp here)]
    · rw [List.mem_singleton.mp mem, slot] at some_
      cases some_
    · rw [List.mem_singleton.mp mem, slot] at waits
      cases waits
  | some q =>
    have cancel : s.cancelSlot k = ((s.setRuntime k { s.runtime k with slot := none }).endInSlot k q .cancelled).huntResult k q
        .cancelled false := by
      rw [State.cancelSlot, slot]
      rfl
    obtain ⟨ehu, sou, notices⟩ := State.endInSlot_quiet (s := s.setRuntime k { s.runtime k with slot := none }) quiet k q .cancelled
    have runtime := State.endInSlot_runtime (s := s.setRuntime k { s.runtime k with slot := none }) quiet k q .cancelled
    obtain ⟨others, told, -, elsewhere, -, -⟩ := State.endInSlot_spec (s.setRuntime k { s.runtime k with slot := none }) k q .cancelled
    have sequences := State.rcsResult_cancelled
      (s := (s.setRuntime k { s.runtime k with slot := none }).recordResult k q .cancelled) mode k q
    rw [cancel]
    unfold State.endInSlot at ehu sou notices runtime others told elsewhere ⊢
    generalize State.rcsResult _ k q.action q.classes .cancelled = u at *
    have kept : u.ehu.huntCase = s.ehu.huntCase := by rw [ehu]; rfl
    have first : s.Cancelled u [k] := by
      refine ⟨others, ?_, fun j => (runtime j).trans ?_, fun _ _ _ => told, notices, ?_, fun j idle => ?_, fun j closes => ?_,
        fun j other => elsewhere j (mt List.mem_singleton.mpr other)⟩
      · rw [sou]
        rfl
      · by_cases here : j = k
        · rw [if_pos here, if_pos (List.mem_singleton.mpr here), here, State.runtime_setRuntime_same, Runtime.cancelled, slot]
        · rw [if_neg here, if_neg (mt List.mem_singleton.mp here), State.runtime_setRuntime_other _ _ here]
      · rw [ehu]
        rfl
      · by_cases here : j = k
        · exact here ▸ sequences.idle (here ▸ idle)
        · exact elsewhere j here
      · by_cases here : j = k
        · subst here
          exact sequences.owing (closes q slot)
        · exact .inl (elsewhere j here)
    cases step : s.ehu.huntCase.step with
    | none =>
      have stays : u.huntResult k q .cancelled false = u := by
        have step' : u.ehu.huntCase.step = none := by rw [kept, step]
        rw [State.huntResult, step']
      rw [stays]
      exact ⟨first, fun _ => kept, fun _ _ h => (by rw [step] at h; cases h), fun _ _ h => (by rw [step] at h; cases h)⟩
    | some st =>
      obtain ⟨r, pends⟩ := Option.isSome_iff_exists.mp (pending (by rw [step]; rfl))
      have step' : u.ehu.huntCase.step = some st := by rw [kept, step]
      have pends' : u.ehu.pendingAbandon = some r := by rw [ehu]; exact pends
      obtain ⟨ends, stands⟩ := State.huntResult_cancelled step' pends' k q
      have waits : (k = st.switch ∧ st.waitsOn q) ↔ (st.switch ∈ [k] ∧ s.stepWaits st) := by
        rw [List.mem_singleton]
        refine ⟨?_, ?_⟩
        · rintro ⟨rfl, on⟩
          exact ⟨rfl, q, slot, on⟩
        · rintro ⟨rfl, q', slot', on⟩
          rw [slot] at slot'
          cases slot'
          exact ⟨rfl, on⟩
      by_cases mine : k = st.switch ∧ st.waitsOn q
      · rw [ends mine]
        refine ⟨first.abandoned st r, fun h => ?_, fun st' r' h h' other => ?_, fun st' r' h h' _ => ?_⟩
        · rw [step] at h
          cases h
        · rw [step] at h
          cases h
          exact absurd (waits.mp mine) other
        · rw [step] at h
          cases h
          rw [pends] at h'
          cases h'
          refine ⟨?_, State.noticed_notify _ _⟩
          rw [← kept]
          rfl
      · rw [stands mine]
        refine ⟨first, fun _ => kept, fun _ _ _ _ _ => kept, fun st' r' h h' other => ?_⟩
        rw [step] at h
        cases h
        exact absurd (waits.mpr other) mine

theorem HuntCase.closeStep_step (c : HuntCase) (k : SwitchNo) (o : StepOutcome) : (c.closeStep k o).step = none := by
  cases o <;> rfl

theorem HuntCase.leftBy_step (c : HuntCase) (st : Step) : (c.leftBy st).step = none := by
  unfold HuntCase.leftBy
  split
  · exact HuntCase.closeStep_step _ _ _
  · exact HuntCase.closeStep_step _ _ _

/-- The case stands, or is concluded with no step. -/
theorem State.CaseCancelled.course {s t : State} {ks : List SwitchNo} (h : s.CaseCancelled t ks)
    (pending : s.ehu.huntCase.step.isSome = true → s.ehu.pendingAbandon.isSome = true) :
    t.ehu.huntCase = s.ehu.huntCase ∨ (t.ehu.huntCase.state = .concluded ∧ t.ehu.huntCase.step = none) := by
  cases step : s.ehu.huntCase.step with
  | none => exact .inl (h.still step)
  | some st =>
    obtain ⟨r, pends⟩ := Option.isSome_iff_exists.mp (pending (by rw [step]; rfl))
    by_cases waits : st.switch ∈ ks ∧ s.stepWaits st
    · rw [(h.ends st r step pends waits).1]
      exact .inr ⟨rfl, HuntCase.leftBy_step _ _⟩
    · exact .inl (h.stands st r step pends waits)

/-- One switch's request cancelled, and then those of others. -/
theorem State.CaseCancelled.trans {s t u : State} {k : SwitchNo} {ks : List SwitchNo} (a : s.CaseCancelled t [k])
    (b : t.CaseCancelled u ks) (runtime : ∀ j ∈ ks, t.runtime j = s.runtime j)
    (pends : t.ehu.pendingAbandon = s.ehu.pendingAbandon) (kept : ∀ n, t.noticed n → u.noticed n) :
    s.CaseCancelled u (k :: ks) := by
  refine ⟨fun none_ => ?_, fun st r step pending other => ?_, fun st r step pending waits => ?_⟩
  · have same := a.still none_
    exact (b.still (by rw [same]; exact none_)).trans same
  · have same := a.stands st r step pending fun ⟨mem, waits⟩ => other ⟨List.mem_cons.mpr (.inl (List.mem_singleton.mp mem)), waits⟩
    refine (b.stands st r (by rw [same]; exact step) (pends.trans pending) fun ⟨mem, q, slot, on⟩ => ?_).trans same
    rw [runtime _ mem] at slot
    exact other ⟨List.mem_cons_of_mem _ mem, q, slot, on⟩
  · obtain ⟨mem, waits⟩ := waits
    by_cases here : st.switch = k
    · obtain ⟨ended, notice⟩ := a.ends st r step pending ⟨List.mem_singleton.mpr here, waits⟩
      have none_ : t.ehu.huntCase.step = none := by
        rw [ended]
        exact HuntCase.leftBy_step _ _
      rw [b.still none_]
      exact ⟨ended, kept _ notice⟩
    · have same := a.stands st r step pending fun h => here (List.mem_singleton.mp h.1)
      have later := (List.mem_cons.mp mem).resolve_left here
      obtain ⟨q, slot, on⟩ := waits
      rw [← same]
      exact b.ends st r (by rw [same]; exact step) (pends.trans pending) ⟨later, q, by rw [runtime _ later]; exact slot, on⟩

theorem foldl_cancelSlot_spec {ks : List SwitchNo} (distinct : ks.Nodup) {s : State} (quiet : s.ehu.huntCase.state ≠ .suspended)
    (mode : s.fmu.mode = .commissioning) (pending : s.ehu.huntCase.step.isSome = true → s.ehu.pendingAbandon.isSome = true) :
    s.Cancelled (ks.foldl State.cancelSlot s) ks ∧ s.CaseCancelled (ks.foldl State.cancelSlot s) ks := by
  induction ks generalizing s with
  | nil =>
    exact ⟨⟨rfl, rfl, fun k => by simp, nofun, fun _ h => h, rfl, fun _ _ => rfl, fun _ _ => .inl rfl, fun _ _ => rfl⟩,
      ⟨fun _ => rfl, fun _ _ _ _ _ => rfl, fun _ _ _ _ ⟨mem, _⟩ => nomatch mem⟩⟩
  | cons k ks ih =>
    obtain ⟨fresh, distinct⟩ := List.nodup_cons.mp distinct
    obtain ⟨first, case1⟩ := State.cancelSlot_spec quiet mode k pending
    have course := case1.course pending
    rw [List.foldl_cons]
    generalize s.cancelSlot k = t at *
    have others := first.others
    simp only [State.others, Prod.mk.injEq] at others
    obtain ⟨-, -, -, fmu, -, -, svu⟩ := others
    have pends : t.ehu.pendingAbandon = s.ehu.pendingAbandon := by rw [first.ehu]
    obtain ⟨rest, case2⟩ := ih distinct (s := t)
      (by
        rcases course with same | ⟨concluded, -⟩
        · rw [same]
          exact quiet
        · rw [concluded]
          nofun)
      (by rw [fmu]; exact mode)
      (fun step => by
        rcases course with same | ⟨-, none_⟩
        · rw [pends]
          exact pending (same ▸ step)
        · rw [none_] at step
          cases step)
    generalize ks.foldl State.cancelSlot t = u at *
    have runtime : ∀ j, j ≠ k → t.runtime j = s.runtime j := fun j other =>
      (first.runtime j).trans (if_neg (mt List.mem_singleton.mp other))
    refine ⟨⟨rest.others.trans first.others, by rw [rest.sou, first.sou], fun j => ?_, fun j mem some_ => ?_,
      fun n h => rest.notices n (first.notices n h), by rw [rest.ehu, first.ehu], fun j idle => ?_, fun j closes => ?_, fun j other => ?_⟩, ?_⟩
    · by_cases here : j = k
      · subst here
        rw [rest.runtime, if_neg fresh, first.runtime, if_pos (List.mem_singleton_self j), if_pos List.mem_cons_self]
      · rw [rest.runtime, runtime j here]
        simp [here]
    · by_cases here : j = k
      · subst here
        exact rest.notices _ (first.told j (List.mem_singleton_self j) some_)
      · exact rest.told j ((List.mem_cons.mp mem).resolve_left here) (by rw [runtime j here]; exact some_)
    · have same := first.idle j idle
      exact (rest.idle j (by rw [same]; exact idle)).trans same
    · by_cases here : j = k
      · subst here
        rw [rest.elsewhere j fresh]
        exact (first.owing j closes).imp_right fun ⟨seq, notice⟩ => ⟨seq, rest.notices _ notice⟩
      · have same := first.elsewhere j (mt List.mem_singleton.mp here)
        have later := rest.owing j fun q slot => closes q (by rw [← runtime j here]; exact slot)
        rwa [same, svu] at later
    · rw [List.mem_cons, not_or] at other
      exact (rest.elsewhere j other.2).trans (first.elsewhere j (mt List.mem_singleton.mp other.1))
    · exact case1.trans case2 (fun j mem => runtime j fun same => fresh (same ▸ mem)) pends rest.notices

/-! ### The sequences leave service (R118) -/

/-- A sequence out of service: one that owed a reclose recorded as a MODE lockout. -/
def Sequence.left (q : Sequence) (m : Minute) : Sequence :=
  if q.state.owes then { q.moveTo .outOfService with lastLockout := some ⟨.mode, m⟩ } else q.moveTo .outOfService

theorem State.rcsLeave_seq (s : State) (k j : SwitchNo) :
    (s.rcsLeave k).seq j = if j = k then (s.seq k).left s.svu.minute else s.seq j := by
  unfold State.rcsLeave Sequence.left
  dsimp only
  split
  · rw [State.seq_of_rcs (State.notify_rcs _ _), State.setSeq_seq]
  · rw [State.setSeq_seq]

theorem State.rcsLeave_noticed {s : State} {k : SwitchNo} (owes : (s.seq k).state.owes = true) : (s.rcsLeave k).noticed .lockout := by
  unfold State.rcsLeave
  rw [if_pos owes]
  exact State.noticed_notify _ _

/-- What sequences leaving service change, with no case suspended. -/
structure State.SeqsLeft (s t : State) (ks : List SwitchNo) : Prop where
  others : t.others = s.others
  sou : t.sou = s.sou
  ehu : t.ehu = { s.ehu with runningCount := t.ehu.runningCount }
  seq : ∀ k, t.seq k = if k ∈ ks then (s.seq k).left s.svu.minute else s.seq k
  told : ∀ k ∈ ks, (s.seq k).state.owes = true → t.noticed .lockout
  notices : ∀ n, s.noticed n → t.noticed n

theorem foldl_rcsLeave_left {ks : List SwitchNo} (distinct : ks.Nodup) {s : State} (quiet : s.ehu.huntCase.state ≠ .suspended) :
    s.SeqsLeft (ks.foldl State.rcsLeave s) ks := by
  induction ks generalizing s with
  | nil => exact ⟨rfl, rfl, rfl, fun k => by simp, nofun, fun _ h => h⟩
  | cons k ks ih =>
    obtain ⟨fresh, distinct⟩ := List.nodup_cons.mp distinct
    have told := s.rcsLeave_told k
    obtain ⟨huntCase, sou⟩ := told.quiet quiet
    obtain ⟨others, sou', ehu, seq, told', notices⟩ := ih distinct (s := s.rcsLeave k) (by rw [huntCase]; exact quiet)
    have seq1 := s.rcsLeave_seq k
    rw [List.foldl_cons]
    refine ⟨others.trans told.others, sou'.trans sou, by rw [ehu, told.quiet_ehu quiet], fun j => ?_, fun j mem owes => ?_,
      fun n h => notices n (told.noticed h)⟩
    · rw [seq, seq1, told.svu]
      by_cases here : j = k
      · subst here
        simp [fresh]
      · simp [here]
    · rcases List.mem_cons.mp mem with rfl | later
      · exact notices _ (State.rcsLeave_noticed owes)
      · refine told' j later ?_
        have other : j ≠ k := fun same => fresh (by rw [← same]; exact later)
        rw [seq1, if_neg other]
        exact owes

theorem Sequence.left_state (q : Sequence) (m : Minute) : (q.left m).state = .outOfService ∧ (q.left m).deadTimer = .stopped
    ∧ (q.left m).reclaimTimer = .stopped ∧ (q.left m).cancel = false ∧ (q.left m).note = none ∧ (q.left m).marker = none
    ∧ (q.left m).shotsUsed = q.shotsUsed
    ∧ (q.left m).lastLockout = if q.state.owes then some ⟨.mode, m⟩ else q.lastLockout := by
  unfold Sequence.left
  split
  next owes => exact ⟨rfl, rfl, rfl, rfl, rfl, rfl, rfl, rfl⟩
  next idle => exact ⟨rfl, rfl, rfl, rfl, rfl, rfl, rfl, rfl⟩

/-! ### The case (R146, R152) -/

/-- The reason a step under way ends its case for, one pending first. -/
def Ehu.reasonOr (e : Ehu) (r : AbandonReason) : AbandonReason := match e.pendingAbandon with | some a => a | none => r

/-- What abandoning an open case changes (R146). -/
structure State.CaseAbandoned (s t : State) (r : AbandonReason) : Prop where
  frame : t = { s with ehu := t.ehu, rqi := t.rqi }
  ehu : t.ehu = { s.ehu with
    huntCase := t.ehu.huntCase, settleTimer := t.ehu.settleTimer, observeTimer := t.ehu.observeTimer
    pendingAbandon := t.ehu.pendingAbandon }
  notices : ∀ n, s.noticed n → t.noticed n
  closed : s.ehu.huntCase.state = .idle ∨ s.ehu.huntCase.state = .concluded → t.ehu.huntCase = s.ehu.huntCase
  waiting : s.ehu.huntCase.state = .locating ∨ s.ehu.huntCase.state = .suspended →
    t.ehu.huntCase = { s.ehu.huntCase.conclude .abandoned with abandon := some r } ∧ t.noticed .hunt
  stepping : s.ehu.huntCase.state = .stepping →
    t.ehu.huntCase = s.ehu.huntCase ∧ t.ehu.pendingAbandon = some (s.ehu.reasonOr r)
  unpended : s.ehu.huntCase.state ≠ .stepping → t.ehu.pendingAbandon = s.ehu.pendingAbandon

theorem State.abandonCase_spec (s : State) (r : AbandonReason) : s.CaseAbandoned (s.abandonCase r) r := by
  have concluded : s.ehu.huntCase.state = .locating ∨ s.ehu.huntCase.state = .suspended →
      s.CaseAbandoned (s.concludeAbandoned r) r := fun waits =>
    ⟨rfl, rfl, fun n h => State.noticed_kept _ _ _ h, fun idle => (by rcases waits with h | h <;> rw [h] at idle <;> simp at idle),
      fun _ => ⟨rfl, State.noticed_notify _ _⟩, fun step => (by rcases waits with h | h <;> rw [h] at step <;> cases step),
      fun _ => rfl⟩
  have stands : s.ehu.huntCase.state = .idle ∨ s.ehu.huntCase.state = .concluded → s.CaseAbandoned s r := fun closed =>
    ⟨rfl, rfl, fun _ h => h, fun _ => rfl, fun waits => (by rcases closed with h | h <;> rw [h] at waits <;> simp at waits),
      fun step => (by rcases closed with h | h <;> rw [h] at step <;> cases step), fun _ => rfl⟩
  unfold State.abandonCase
  split
  next state => exact concluded (.inl state)
  next state => exact concluded (.inr state)
  next state =>
    unfold State.pendAbandon
    split
    next some_ =>
      refine ⟨rfl, rfl, fun _ h => h, fun _ => rfl, fun waits => (by rw [state] at waits; simp at waits), fun _ => ⟨rfl, ?_⟩,
        fun _ => rfl⟩
      obtain ⟨a, pending⟩ := Option.isSome_iff_exists.mp some_
      rw [Ehu.reasonOr, pending]
    next none_ =>
      refine ⟨rfl, rfl, fun _ h => h, fun _ => rfl, fun waits => (by rw [state] at waits; simp at waits), fun _ => ⟨rfl, ?_⟩,
        fun other => absurd state other⟩
      rw [Ehu.reasonOr, Option.not_isSome_iff_eq_none.mp none_]
  next state => exact stands (.inl state)
  next state => exact stands (.inr state)

/-! ### The course out of service (R17) -/

/-- The case abandoned, or its abandonment pending. -/
def State.modeLeft (s : State) : State := State.abandonCase { s with fmu.mode := .commissioning } .mode

/-- The slots emptied and the polls cleared besides. -/
def State.linkLeft (s : State) : State := (allSwitches.foldl State.cancelSlot s.modeLeft).stopPolls

theorem State.leaveService_eq (s : State) : s.leaveService =
    { s.linkLeft.rcsLeaveService with ehu.watch := .start } := by
  unfold State.leaveService State.linkLeft State.modeLeft
  rfl

theorem State.stopPolls_runtime (s : State) (k : SwitchNo) :
    s.stopPolls.runtime k = { s.runtime k with pollWanted := none } := by
  simp [State.stopPolls, State.runtime]

/-- What the course out of service leaves, with the case's records as R132 and R139 have them. -/
structure State.ServiceLeft (s t : State) : Prop where
  fmu : t.fmu = { s.fmu with mode := .commissioning }
  htu : t.htu = s.htu
  fsu : t.fsu = s.fsu
  svu : t.svu = s.svu
  lines : t.lines = s.lines
  sou : t.sou = { s.sou with runtime := t.sou.runtime, routineTimer := .stopped, headTimer := .stopped }
  runtime : ∀ k, t.runtime k = { (s.runtime k).cancelled with pollWanted := none }
  told : ∀ k, (s.runtime k).slot.isSome = true → t.noticed .operation
  out : ∀ k, (t.seq k).state = .outOfService ∧ (t.seq k).deadTimer = .stopped ∧ (t.seq k).reclaimTimer = .stopped
    ∧ (t.seq k).cancel = false ∧ (t.seq k).note = none ∧ (t.seq k).marker = none
  owing : ∀ k, (s.seq k).state.owes = true → (∀ q, (s.runtime k).slot = some q → q.action = .toClose) →
    (t.seq k).lastLockout = some ⟨.mode, s.svu.minute⟩ ∧ (t.seq k).shotsUsed = (s.seq k).shotsUsed ∧ t.noticed .lockout
  idle : ∀ k, (s.seq k).state.owes = false →
    (t.seq k).lastLockout = (s.seq k).lastLockout ∧ (t.seq k).shotsUsed = (s.seq k).shotsUsed
  watch : t.ehu.watch = .start
  params : t.ehu.params = s.ehu.params
  thresholds : t.ehu.thresholds = s.ehu.thresholds
  closed : s.ehu.huntCase.state = .idle ∨ s.ehu.huntCase.state = .concluded → t.ehu.huntCase = s.ehu.huntCase
  waiting : s.ehu.huntCase.state = .locating ∨ s.ehu.huntCase.state = .suspended →
    t.ehu.huntCase = { s.ehu.huntCase.conclude .abandoned with abandon := some .mode } ∧ t.noticed .hunt
  stepping : ∀ st, s.ehu.huntCase.step = some st → t.ehu.pendingAbandon = some (s.ehu.reasonOr .mode)
    ∧ (¬ s.stepWaits st → t.ehu.huntCase = s.ehu.huntCase)
    ∧ (s.stepWaits st → t.noticed .hunt
      ∧ t.ehu.huntCase = { (s.ehu.huntCase.leftBy st).conclude .abandoned with abandon := some (s.ehu.reasonOr .mode) })

theorem State.leaveService_left {s : State} (settled : s.settled) : s.ServiceLeft s.leaveService := by
  obtain ⟨stepping, -, -⟩ := settled
  have first := State.abandonCase_spec { s with fmu.mode := .commissioning } .mode
  rw [State.leaveService_eq, State.linkLeft, State.modeLeft]
  generalize State.abandonCase { s with fmu.mode := .commissioning } .mode = t at *
  have standing : (t.ehu.huntCase.state = .concluded ∨ t.ehu.huntCase.state = .idle) ∧ t.ehu.huntCase.step = s.ehu.huntCase.step
      ∧ s.ehu.huntCase.state ≠ .stepping ∨ t.ehu.huntCase.state = .stepping ∧ t.ehu.pendingAbandon.isSome = true := by
    cases state : s.ehu.huntCase.state with
    | idle =>
      rw [first.closed (.inl state)]
      exact .inl ⟨.inr state, rfl, nofun⟩
    | concluded =>
      rw [first.closed (.inr state)]
      exact .inl ⟨.inl state, rfl, nofun⟩
    | locating =>
      rw [(first.waiting (.inl state)).1]
      exact .inl ⟨.inl rfl, rfl, nofun⟩
    | suspended =>
      rw [(first.waiting (.inr state)).1]
      exact .inl ⟨.inl rfl, rfl, nofun⟩
    | stepping =>
      obtain ⟨same, pends⟩ := first.stepping state
      rw [same, pends]
      exact .inr ⟨state, rfl⟩
  have quiet : t.ehu.huntCase.state ≠ .suspended := by
    rcases standing with ⟨state | state, -⟩ | ⟨state, -⟩ <;> rw [state] <;> nofun
  have pending : t.ehu.huntCase.step.isSome = true → t.ehu.pendingAbandon.isSome = true := fun step => by
    rcases standing with ⟨-, same, still⟩ | ⟨-, pends⟩
    · rw [same] at step
      exact absurd (stepping.mp step) still
    · exact pends
  have mode : t.fmu.mode = .commissioning := by rw [first.frame]
  obtain ⟨second, case⟩ := foldl_cancelSlot_spec (List.nodup_finRange 16) quiet mode pending
  have course := case.course pending
  rw [← allSwitches] at second case course
  generalize allSwitches.foldl State.cancelSlot t = u at *
  have quiet' : u.stopPolls.ehu.huntCase.state ≠ .suspended := by
    rw [State.stopPolls_ehu]
    rcases course with same | ⟨concluded, -⟩
    · rw [same]
      exact quiet
    · rw [concluded]
      nofun
  have third := foldl_rcsLeave_left (List.nodup_finRange 16) quiet'
  rw [← allSwitches] at third
  unfold State.rcsLeaveService
  generalize allSwitches.foldl State.rcsLeave u.stopPolls = v at *
  have fields1 := second.others
  have fields2 := third.others
  simp only [State.others, Prod.mk.injEq, State.stopPolls_lines, State.stopPolls_fmu, State.stopPolls_htu, State.stopPolls_fsu,
    State.stopPolls_svu] at fields1 fields2
  obtain ⟨-, -, lines1, fmu1, htu1, fsu1, svu1⟩ := fields1
  obtain ⟨-, -, lines2, fmu2, htu2, fsu2, svu2⟩ := fields2
  have runtime0 : ∀ k, t.runtime k = s.runtime k := fun k => (congrArg (fun x : State => x.runtime k) first.frame :)
  have seq0 : ∀ k, t.seq k = s.seq k := fun k => (congrArg (fun x : State => x.seq k) first.frame :)
  have svu0 : t.svu = s.svu := (congrArg State.svu first.frame :)
  have runtime : ∀ k, v.runtime k = { (s.runtime k).cancelled with pollWanted := none } := fun k => by
    rw [State.runtime_congr third.sou, State.stopPolls_runtime, second.runtime, if_pos (mem_allSwitches k), runtime0]
  have seq : ∀ k, v.seq k = (u.seq k).left s.svu.minute := fun k => by
    rw [third.seq, if_pos (mem_allSwitches k), show u.stopPolls.seq k = u.seq k from rfl, State.stopPolls_svu, svu1, svu0]
  have sou : v.sou = { s.sou with runtime := v.sou.runtime, routineTimer := .stopped, headTimer := .stopped } := by
    have stopped : u.stopPolls.sou
        = { u.sou with runtime := u.stopPolls.sou.runtime, routineTimer := .stopped, headTimer := .stopped } := rfl
    have sou0 : t.sou = s.sou := (congrArg State.sou first.frame :)
    rw [third.sou, stopped, second.sou, sou0]
  have waits : ∀ st, t.stepWaits st ↔ s.stepWaits st := fun st => by rw [State.stepWaits, runtime0]; rfl
  have huntCase : v.ehu.huntCase = u.ehu.huntCase := by rw [third.ehu]; rfl
  have notices : ∀ n, u.noticed n → v.noticed n := fun n h => third.notices n h
  have params : v.ehu.params = s.ehu.params := by rw [third.ehu, State.stopPolls_ehu, second.ehu, first.ehu]
  have thresholds : v.ehu.thresholds = s.ehu.thresholds := by rw [third.ehu, State.stopPolls_ehu, second.ehu, first.ehu]
  have abandon : v.ehu.pendingAbandon = t.ehu.pendingAbandon := by rw [third.ehu, State.stopPolls_ehu, second.ehu]
  have none_ : s.ehu.huntCase.state ≠ .stepping → s.ehu.huntCase.step = none := fun still =>
    Option.not_isSome_iff_eq_none.mp fun some_ => still (stepping.mp some_)
  refine ⟨?_, ?_, ?_, ?_, ?_, sou, runtime, fun k some_ => ?_, fun k => ?_, fun k owes closes => ?_, fun k idle => ?_, rfl, ?_, ?_,
    fun closed => ?_, fun wait => ?_, fun st step => ?_⟩
  · exact (fmu2.trans fmu1).trans (congrArg State.fmu first.frame :)
  · exact (htu2.trans htu1).trans (congrArg State.htu first.frame :)
  · exact (fsu2.trans fsu1).trans (congrArg State.fsu first.frame :)
  · exact (svu2.trans svu1).trans svu0
  · exact (lines2.trans lines1).trans (congrArg State.lines first.frame :)
  · exact notices _ (second.told k (mem_allSwitches k) (by rw [runtime0]; exact some_))
  · have left := (u.seq k).left_state s.svu.minute
    rw [← seq] at left
    obtain ⟨state, dead, reclaim, cancel, note, marker, -⟩ := left
    exact ⟨state, dead, reclaim, cancel, note, marker⟩
  · have left := (u.seq k).left_state s.svu.minute
    rw [← seq] at left
    obtain ⟨-, -, -, -, -, -, shots, lockout⟩ := left
    rcases second.owing k (by rw [runtime0]; exact closes) with same | ⟨locked, notice⟩
    · rw [same, seq0] at shots lockout
      refine ⟨lockout.trans (if_pos owes), shots, third.told k (mem_allSwitches k) ?_⟩
      rw [show u.stopPolls.seq k = u.seq k from rfl, same, seq0]
      exact owes
    · rw [locked, seq0, svu0] at shots lockout
      exact ⟨lockout.trans (if_neg nofun), shots, notices _ notice⟩
  · have left := (u.seq k).left_state s.svu.minute
    rw [← seq, second.idle k (by rw [seq0]; exact idle), seq0] at left
    obtain ⟨-, -, -, -, -, -, shots, lockout⟩ := left
    exact ⟨lockout.trans (if_neg (by rw [idle]; nofun)), shots⟩
  · exact params
  · exact thresholds
  · have still : s.ehu.huntCase.step = none := none_ fun state => by rcases closed with h | h <;> rw [h] at state <;> cases state
    have same := first.closed closed
    exact (huntCase.trans (case.still (by rw [same]; exact still))).trans same
  · have still : s.ehu.huntCase.step = none := none_ fun state => by rcases wait with h | h <;> rw [h] at state <;> cases state
    obtain ⟨same, notice⟩ := first.waiting wait
    exact ⟨(huntCase.trans (case.still (by rw [same]; exact still))).trans same, notices _ (second.notices _ notice)⟩
  · obtain ⟨same, pends⟩ := first.stepping (stepping.mp (by rw [step]; rfl))
    have step' : t.ehu.huntCase.step = some st := by rw [same]; exact step
    refine ⟨?_, fun other => ?_, fun mine => ?_⟩
    · exact abandon.trans pends
    · exact (huntCase.trans (case.stands st _ step' pends fun h => other ((waits st).mp h.2))).trans same
    · obtain ⟨ended, notice⟩ := case.ends st _ step' pends ⟨mem_allSwitches _, (waits st).mpr mine⟩
      refine ⟨notices _ notice, ?_⟩
      rw [← same]
      exact huntCase.trans ended

/-- The case whose step has ended by a request cancelled. -/
theorem HuntCase.leftBy_spec (c : HuntCase) (st : Step) : (c.leftBy st).stepsTaken = c.stepsTaken + 1
    ∧ (c.leftBy st).candidates = c.candidates
    ∧ (st.phase = .opening → (c.leftBy st).leftOpen = c.leftOpen)
    ∧ (st.phase = .closingBack → st.outcome.isSome = true → (∀ e ∈ c.leftOpen, e.switch ≠ st.switch) →
        (c.leftBy st).leftOpen = c.leftOpen ++ [⟨st.switch, .held⟩]) := by
  have close : ∀ (d : HuntCase) k o, (d.closeStep k o).stepsTaken = d.stepsTaken + 1 ∧ (d.closeStep k o).candidates = d.candidates
      ∧ (d.closeStep k o).leftOpen = d.leftOpen := fun d k o => by cases o <;> exact ⟨rfl, rfl, rfl⟩
  obtain ⟨t, phase, outcome⟩ := st
  unfold HuntCase.leftBy
  split
  next o hp ho =>
    obtain ⟨steps, candidates, left⟩ := close (c.nameLeftOpen t .held) t o
    rw [steps, candidates, left, HuntCase.nameLeftOpen_eq]
    refine ⟨rfl, rfl, fun h => absurd (hp.symm.trans h) nofun, fun _ _ unlisted => if_neg ?_⟩
    simpa using unlisted
  next other =>
    obtain ⟨steps, candidates, left⟩ := close c t .inconclusive
    refine ⟨steps, candidates, fun _ => left, fun h some_ => ?_⟩
    obtain ⟨o, ho⟩ := Option.isSome_iff_exists.mp some_
    exact absurd ho (other o h)

/-- Settles O22. -/
theorem enterCommissioningCompletes : Obligations.EnterCommissioningCompletes := by
  unfold Obligations.EnterCommissioningCompletes
  intro s p hs
  refine ⟨fun mode => ?_, fun mode key => ?_, fun mode key settled => ?_⟩
  · have carried : (s.taking p).carryOut p .enterCommissioning = (s.taking p, .already) := if_pos mode
    exact (exec_unmoved (c := .enterCommissioning p) rfl hs (fun _ => rfl) rfl rfl carried :)
  · have serving : ¬ (s.taking p).fmu.mode = .commissioning := by rw [show (s.taking p).fmu.mode = _ from mode]; nofun
    have locked : (!(s.taking p).lines.lkey) = true := by rw [show (s.taking p).lines.lkey = _ from key]; rfl
    have carried : (s.taking p).carryOut p .enterCommissioning = (s.taking p, .refuse .refusedKey) :=
      (if_neg serving).trans (if_pos locked)
    exact (exec_unmoved (c := .enterCommissioning p) rfl hs (fun _ => rfl) rfl rfl carried :)
  · intro c reason waits
    have serving : ¬ (s.taking p).fmu.mode = .commissioning := by rw [show (s.taking p).fmu.mode = _ from mode]; nofun
    have turned : ¬ (!(s.taking p).lines.lkey) = true := by rw [show (s.taking p).lines.lkey = _ from key]; nofun
    have carried : (s.taking p).carryOut p .enterCommissioning = ((s.taking p).leaveService, .done) :=
      (if_neg serving).trans (if_neg turned)
    have answered := exec_answered (c := .enterCommissioning p) rfl hs (fun _ => rfl) rfl rfl carried
    obtain ⟨fmu, htu, fsu, svu, lines, sou, runtime, told, out, owing, idle, watch, params, thresholds, closed, waiting, stepping⟩ :=
      State.leaveService_left (s := s.taking p) settled
    generalize (s.taking p).leaveService = t at *
    refine ⟨t, answered, fmu, htu, fsu, svu, lines, sou, runtime, told, out, owing, idle, watch, params, thresholds, closed, waiting,
      fun st step => ?_⟩
    obtain ⟨pending, stands, ends⟩ := stepping st step
    refine ⟨pending, stands, fun mine => ?_⟩
    obtain ⟨notice, ended⟩ := ends mine
    obtain ⟨steps, candidates, opening, closing⟩ := HuntCase.leftBy_spec c st
    rw [ended]
    refine ⟨notice, rfl, HuntCase.leftBy_step _ _, rfl, rfl, steps, candidates, opening, fun phase => closing phase ?_⟩
    obtain ⟨q, -, -, ⟨opens, -⟩ | ⟨-, -, some_⟩⟩ := mine
    · rw [phase] at opens
      cases opens
    · exact some_

end Sys2Proof.Machine
end

section
/-! The FIRE holds of all districts, each placed, kept, retired or replaced in its turn (R75, R78). -/

namespace Sys2Proof.Machine

/-! ### What the steps for some districts leave -/

/-- Slots stand but for those that were empty and those whose FIRE holds the districts' handles name, which departed. -/
structure State.FiresTaken (s t : State) (ds : List DistrictNo) : Prop where
  adjusted : s.FireAdjusted t
  live : t.fireHandlesLive
  others : ∀ d, d ∉ ds → t.district d = s.district d
  slots : ∀ i, t.slot i = s.slot i ∨ (s.holdAt i = none ∧ (t.slot i).useCount = (s.slot i).useCount)
    ∨ (∃ d ∈ ds, (s.district d).fire = some (s.handleAt i)) ∧ (t.slot i).useCount = (s.slot i).useCount + 1

theorem UseCount.succ_ne (u : UseCount) : u + 1 ≠ u := by
  intro same
  simp at same

theorem State.fireHandlesLive.live {s : State} (h : s.fireHandlesLive) {d : DistrictNo} {x : Handle}
    (fire : (s.district d).fire = some x) : (s.liveHold x).isSome = true := by
  obtain ⟨r, hr, -⟩ := h d x fire
  rw [hr]
  rfl

/-- Two districts' handles name different slots. -/
theorem State.fireHandlesLive.distinct {s : State} (h : s.fireHandlesLive) {d e : DistrictNo} {x y : Handle}
    (fire : (s.district d).fire = some x) (fire' : (s.district e).fire = some y) (same : x.slot = y.slot) : d = e := by
  obtain ⟨r, hr, -, cause⟩ := h d x fire
  obtain ⟨r', hr', -, cause'⟩ := h e y fire'
  have here := State.holdAt_of_liveHold hr
  rw [same, State.holdAt_of_liveHold hr'] at here
  cases here
  rw [cause] at cause'
  cases cause'
  rfl

theorem State.FiresTaken.refl {s : State} (live : s.fireHandlesLive) : s.FiresTaken s [] :=
  ⟨.refl s, live, fun _ _ => rfl, fun _ => .inl rfl⟩

/-- A district's hold stands while the steps of others are taken. -/
theorem State.FiresTaken.stands {s t : State} {ds : List DistrictNo} (h : s.FiresTaken t ds) (live : s.fireHandlesLive)
    {d : DistrictNo} (other : d ∉ ds) {x : Handle} (fire : (s.district d).fire = some x) : t.slot x.slot = s.slot x.slot := by
  rcases h.slots x.slot with same | ⟨empty, -⟩ | ⟨⟨e, mem, fire'⟩, -⟩
  · exact same
  · have some_ := (State.handleAt_of_live (live.live fire)).2
    rw [empty] at some_
    cases some_
  · exact absurd (live.distinct fire fire' rfl ▸ mem) other

/-- A slot whose use count has passed a departed hold's stays past it. -/
theorem State.FiresTaken.counted {s t : State} {ds : List DistrictNo} (h : s.FiresTaken t ds) {i : SlotNo}
    (unnamed : ∀ d ∈ ds, (s.district d).fire ≠ some (s.handleAt i)) : (t.slot i).useCount = (s.slot i).useCount := by
  rcases h.slots i with same | ⟨-, same⟩ | ⟨⟨d, mem, fire⟩, -⟩
  · rw [same]
  · exact same
  · exact absurd fire (unnamed d mem)

theorem State.FiresTaken.cons {s t u : State} {d : DistrictNo} {ds : List DistrictNo} (live : s.fireHandlesLive)
    (fresh : d ∉ ds) (a : s.FiresTaken t [d]) (b : t.FiresTaken u ds) : s.FiresTaken u (d :: ds) := by
  have same : ∀ e ∈ ds, t.district e = s.district e := fun e mem => a.others e fun here => by
    rw [List.mem_singleton.mp here] at mem
    exact fresh mem
  refine ⟨a.adjusted.trans b.adjusted, b.live, fun e other => ?_, fun i => ?_⟩
  · rw [List.mem_cons, not_or] at other
    exact (b.others e other.2).trans (a.others e (mt List.mem_singleton.mp other.1))
  · rcases a.slots i with stands | ⟨empty, count⟩ | ⟨⟨e, mem, fire⟩, count⟩
    · have handle : t.handleAt i = s.handleAt i := by rw [State.handleAt, stands]; rfl
      rcases b.slots i with stands' | ⟨empty', count'⟩ | ⟨⟨e', mem', fire'⟩, count'⟩
      · exact .inl (stands'.trans stands)
      · rw [State.holdAt, stands] at empty'
        rw [stands] at count'
        exact .inr (.inl ⟨empty', count'⟩)
      · rw [same e' mem', handle] at fire'
        rw [stands] at count'
        exact .inr (.inr ⟨⟨e', List.mem_cons_of_mem _ mem', fire'⟩, count'⟩)
    · refine .inr (.inl ⟨empty, (b.counted fun e mem fire => ?_).trans count⟩)
      rw [same e mem] at fire
      have some_ := (State.handleAt_of_live (live.live fire)).2
      rw [show (t.handleAt i).slot = i from rfl, empty] at some_
      cases some_
    · have here : e = d := List.mem_singleton.mp mem
      subst here
      refine .inr (.inr ⟨⟨e, List.mem_cons_self, fire⟩, (b.counted fun e' mem' fire' => ?_).trans count⟩)
      rw [same e' mem'] at fire'
      have one := live.distinct fire fire' rfl
      subst one
      exact fresh mem'

/-! ### One district's step -/

/-- The district stands at BAN with a present zone. -/
def State.fireWanted (s : State) (d : DistrictNo) : Prop := (s.district d).effective = .ban ∧ s.districtZones d ≠ 0

/-- What becomes of one district's FIRE hold, with the holds that it keeps. -/
structure State.FireSettled (s t : State) (d : DistrictNo) (keeps : Hold → Prop) : Prop where
  kept : ∀ x r, s.fireWanted d → (s.district d).fire = some x → s.liveHold x = some r → keeps r → s.fireHoldKept t d x
  placed : s.fireWanted d → (∀ x r, (s.district d).fire = some x → s.liveHold x = some r → ¬ keeps r) →
    s.fireHoldPlaced t d ∧ ∀ x, (s.district d).fire = some x → (t.slot x.slot).useCount = (s.slot x.slot).useCount + 1
  retired : ¬ s.fireWanted d → (t.district d).fire = none ∧ ∀ x, (s.district d).fire = some x →
    (t.slot x.slot).useCount = (s.slot x.slot).useCount + 1 ∧ t.noticed .hold

/-- A district's step, with room for one more hold. -/
structure State.FireStep (s t : State) (d : DistrictNo) (keeps : Hold → Prop) : Prop where
  taken : s.FiresTaken t [d]
  settled : s.FireSettled t d keeps
  room : ∀ n, s.emptySlots (n + 1) → t.emptySlots n

theorem State.emptySlots_mono {s : State} {m n : Nat} (h : m ≤ n) (room : s.emptySlots n) : s.emptySlots m := h.trans room

/-- The district keeps its hold. -/
theorem State.FireStep.keep {s : State} (live : s.fireHandlesLive) {d : DistrictNo} {keeps : Hold → Prop} {x : Handle} {r : Hold}
    (wanted : s.fireWanted d) (fire : (s.district d).fire = some x) (hold : s.liveHold x = some r) (mine : keeps r) :
    s.FireStep s d keeps := by
  refine ⟨⟨.refl s, live, fun _ _ => rfl, fun _ => .inl rfl⟩, ⟨fun y _ _ fire' _ _ => ⟨fire', rfl⟩, fun _ none_ => ?_,
    fun unwanted => absurd wanted unwanted⟩, fun n => State.emptySlots_mono (Nat.le_succ n)⟩
  exact absurd mine (none_ x r fire hold)

theorem State.FirePlaced.taken {s t : State} {d : DistrictNo} {i : SlotNo} (h : s.FirePlaced t d i) (adjusted : s.FireAdjusted t)
    (live : t.fireHandlesLive) : s.FiresTaken t [d] := by
  refine ⟨adjusted, live, fun e other => h.districts e (mt List.mem_singleton.mpr other), fun j => ?_⟩
  by_cases here : j = i
  · subst here
    exact .inr (.inl ⟨h.empty, by rw [h.slot]⟩)
  · exact .inl (h.slots j here)

/-- The district without a hold that wants one has it placed. -/
theorem State.placeFire_step {s : State} (live : s.fireHandlesLive) {n : Nat} (room : s.emptySlots (n + 1)) {d : DistrictNo}
    {keeps : Hold → Prop} (wanted : s.fireWanted d) (none_ : (s.district d).fire = none) : s.FireStep (s.placeFire d) d keeps := by
  have live' := fireHandlesLive_base.placeFire live wanted.1
  obtain ⟨i, placed, -⟩ := State.placeFire_room room d
  have adjusted := s.placeFire_adjusted d
  refine ⟨placed.taken adjusted live', ⟨fun x r _ fire => ?_, fun _ _ => ⟨placed.placed, fun x fire => ?_⟩,
    fun unwanted => absurd wanted unwanted⟩, fun m room => State.emptySlots_filled room placed.slots⟩
  · rw [none_] at fire
    cases fire
  · rw [none_] at fire
    cases fire

/-- What a retirement leaves of the hold table. -/
theorem State.retireFire_taken {s : State} (live : s.fireHandlesLive) (d : DistrictNo) : s.FiresTaken (s.retireFire d) [d]
    ∧ (∀ x, (s.district d).fire = some x →
        (s.retireFire d).slot x.slot = ⟨none, (s.slot x.slot).useCount + 1⟩ ∧ (s.retireFire d).noticed .hold)
    ∧ ∀ n, s.emptySlots n → (s.retireFire d).emptySlots n := by
  have adjusted := s.retireFire_adjusted d
  have live' := fireHandlesLive_base.retireFire live d
  have others : ∀ e, e ∉ [d] → (s.retireFire d).district e = s.district e := fun e other =>
    State.retireFire_other live (mt List.mem_singleton.mpr other)
  cases fire : (s.district d).fire with
  | none =>
    have same : s.retireFire d = s := by rw [State.retireFire_eq, fire]
    rw [same] at adjusted live' others ⊢
    exact ⟨⟨adjusted, live', others, fun _ => .inl rfl⟩, nofun, fun _ h => h⟩
  | some x =>
    obtain ⟨handle, some_⟩ := State.handleAt_of_live (live.live fire)
    have slots : ∀ i, (s.retireFire d).slot i = if i = x.slot then ⟨none, (s.slot i).useCount + 1⟩ else s.slot i := fun i => by
      rw [State.retireFire_eq, fire]
      dsimp only
      rw [if_pos (live.live fire)]
      refine (State.departHold_slot s x.slot i).trans ?_
      by_cases here : i = x.slot
      · rw [if_pos ⟨here, some_⟩, if_pos here, here]
      · rw [if_neg fun h => here h.1, if_neg here]
    have told : (s.retireFire d).noticed .hold := by
      rw [State.retireFire_eq, fire]
      dsimp only
      rw [if_pos (live.live fire)]
      exact State.departHold_noticed some_
    refine ⟨⟨adjusted, live', others, fun i => ?_⟩, fun y hy => ?_, fun n room => room.trans ?_⟩
    · by_cases here : i = x.slot
      · refine .inr (.inr ⟨⟨d, List.mem_singleton_self d, ?_⟩, ?_⟩)
        · rw [fire, here, handle]
        · rw [slots, if_pos here]
      · exact .inl ((slots i).trans (if_neg here))
    · cases hy
      exact ⟨(slots x.slot).trans (if_pos rfl), told⟩
    · refine (List.monotone_filter_right _ fun i empty => ?_).length_le
      rw [State.holdAt, slots]
      split
      · rfl
      · exact empty

/-- The district that wants no hold has the one it has retired. -/
theorem State.retireFire_step {s : State} (live : s.fireHandlesLive) {d : DistrictNo} {keeps : Hold → Prop}
    (unwanted : ¬ s.fireWanted d) : s.FireStep (s.retireFire d) d keeps := by
  obtain ⟨taken, gone, room⟩ := State.retireFire_taken live d
  refine ⟨taken, ⟨fun _ _ wanted => absurd wanted unwanted, fun wanted => absurd wanted unwanted,
    fun _ => ⟨(s.retireFire_shrinks d).2, fun x fire => ?_⟩⟩, fun n h => room n (State.emptySlots_mono (Nat.le_succ n) h)⟩
  obtain ⟨slot, told⟩ := gone x fire
  exact ⟨by rw [slot], told⟩

/-- The district whose hold is not the one wanted has it replaced. -/
theorem State.replaceFire_step {s : State} (live : s.fireHandlesLive) {n : Nat} (room : s.emptySlots (n + 1)) {d : DistrictNo}
    {keeps : Hold → Prop} (wanted : s.fireWanted d) {x : Handle} {r : Hold} (fire : (s.district d).fire = some x)
    (hold : s.liveHold x = some r) (other : ¬ keeps r) : s.FireStep ((s.retireFire d).placeFire d) d keeps := by
  obtain ⟨taken, gone, mono⟩ := State.retireFire_taken live d
  obtain ⟨slot, told⟩ := gone x fire
  have none_ := (s.retireFire_shrinks d).2
  generalize s.retireFire d = t at *
  have zones := taken.adjusted.fireHoldFor d
  have wanted' : t.fireWanted d := by
    refine ⟨(taken.adjusted.effective d).trans wanted.1, ?_⟩
    rw [show t.districtZones d = s.districtZones d from congrArg Hold.scope zones]
    exact wanted.2
  obtain ⟨taken', settled, room'⟩ := State.placeFire_step (keeps := keeps) taken.live (mono _ room) wanted' none_
  obtain ⟨i, placed, -⟩ := State.placeFire_room (mono _ room) d
  generalize t.placeFire d = u at *
  have counts : ∀ j, (u.slot j).useCount = (t.slot j).useCount := fun j => taken'.counted fun e mem fire' => by
    rw [List.mem_singleton.mp mem, none_] at fire'
    cases fire'
  refine ⟨⟨taken.adjusted.trans taken'.adjusted, taken'.live, fun e h => (taken'.others e h).trans (taken.others e h), fun j => ?_⟩,
    ⟨fun y r' _ fire' hold' mine => ?_, fun _ _ => ⟨?_, fun y fire' => ?_⟩, fun unwanted => absurd wanted unwanted⟩,
    fun m h => room' m (mono _ h)⟩
  · rcases taken.slots j with same | ⟨empty, count⟩ | ⟨named, count⟩
    · by_cases here : j = i
      · subst here
        have empty := placed.empty
        rw [State.holdAt, same] at empty
        exact .inr (.inl ⟨empty, by rw [counts, same]⟩)
      · exact .inl ((placed.slots j here).trans same)
    · exact .inr (.inl ⟨empty, (counts j).trans count⟩)
    · exact .inr (.inr ⟨named, (counts j).trans count⟩)
  · rw [fire] at fire'
    cases fire'
    rw [hold] at hold'
    cases hold'
    exact absurd mine other
  · obtain ⟨h, fire', live', notice⟩ := placed.placed
    exact ⟨h, fire', by rw [live', zones], notice⟩
  · rw [fire] at fire'
    cases fire'
    rw [counts, slot]

/-! ### The steps of all districts -/

theorem State.FireAdjusted.fireWanted {s t : State} (h : s.FireAdjusted t) (d : DistrictNo) : t.fireWanted d ↔ s.fireWanted d := by
  rw [State.fireWanted, State.fireWanted, h.effective, show t.districtZones d = s.districtZones d from congrArg Hold.scope (h.fireHoldFor d)]

/-- The district has been settled and others follow. -/
theorem State.FireSettled.followed {s t u : State} {d : DistrictNo} {ds : List DistrictNo} {keeps : Hold → Prop}
    (settled : s.FireSettled t d keeps) (live : s.fireHandlesLive) (a : s.FiresTaken t [d]) (b : t.FiresTaken u ds) (fresh : d ∉ ds) :
    s.FireSettled u d keeps := by
  have district := b.others d fresh
  have counts : ∀ x : Handle, (t.slot x.slot).useCount = (s.slot x.slot).useCount + 1 →
      (u.slot x.slot).useCount = (s.slot x.slot).useCount + 1 := fun x count => by
    refine (b.counted fun e mem fire => ?_).trans count
    have other : e ∉ [d] := fun same => fresh (List.mem_singleton.mp same ▸ mem)
    rw [a.others e other] at fire
    have current := congrArg Handle.useCount (State.handleAt_of_live (live.live fire)).1
    exact UseCount.succ_ne _ (count.symm.trans current.symm)
  refine ⟨fun x r wanted fire hold mine => ?_, fun wanted other => ?_, fun unwanted => ?_⟩
  · obtain ⟨fire', slot⟩ := settled.kept x r wanted fire hold mine
    exact ⟨by rw [district]; exact fire', (b.stands a.live fresh fire').trans slot⟩
  · obtain ⟨⟨x, fire, hold, notice⟩, gone⟩ := settled.placed wanted other
    refine ⟨⟨x, by rw [district]; exact fire, ?_, b.adjusted.departed.2.2.2 _ notice⟩, fun y hy => counts y (gone y hy)⟩
    rw [State.liveHold_of_slot (b.stands a.live fresh fire)]
    exact hold
  · obtain ⟨fire, gone⟩ := settled.retired unwanted
    refine ⟨by rw [district]; exact fire, fun y hy => ?_⟩
    obtain ⟨count, notice⟩ := gone y hy
    exact ⟨counts y count, b.adjusted.departed.2.2.2 _ notice⟩

/-- Another district's step came first. -/
theorem State.FireSettled.preceded {s t u : State} {d e : DistrictNo} {keeps : Hold → Prop}
    (settled : t.FireSettled u e keeps) (live : s.fireHandlesLive) (a : s.FiresTaken t [d]) (other : e ≠ d) :
    s.FireSettled u e keeps := by
  have unlisted : e ∉ [d] := mt List.mem_singleton.mp other
  have district := a.others e unlisted
  have wanted := a.adjusted.fireWanted e
  have slot : ∀ x, (s.district e).fire = some x → t.slot x.slot = s.slot x.slot := fun x fire => a.stands live unlisted fire
  obtain ⟨kept, placed, retired⟩ := settled
  rw [district] at kept placed retired
  refine ⟨fun x r want fire hold mine => ?_, fun want none_ => ?_, fun unwanted => ?_⟩
  · obtain ⟨fire', same⟩ := kept x r (wanted.mpr want) fire (by rw [State.liveHold_of_slot (slot x fire)]; exact hold) mine
    exact ⟨fire', same.trans (slot x fire)⟩
  · obtain ⟨⟨x, fire, hold, notice⟩, gone⟩ := placed (wanted.mpr want) fun x r fire hold => none_ x r fire (by
      rw [← State.liveHold_of_slot (slot x fire)]
      exact hold)
    refine ⟨⟨x, fire, by rw [hold, a.adjusted.fireHoldFor], notice⟩, fun y hy => ?_⟩
    rw [gone y hy, slot y hy]
  · obtain ⟨fire, gone⟩ := retired (mt wanted.mp unwanted)
    refine ⟨fire, fun y hy => ?_⟩
    rw [← slot y hy]
    exact gone y hy

/-- Steps of distinct districts, one after another, settle each as its own step alone would. -/
theorem foldl_fires_settled {b : State} {f : State → DistrictNo → State} {keeps : DistrictNo → Hold → Prop}
    (step : ∀ (s : State) (d : DistrictNo) (n : Nat), b.FireAdjusted s → s.fireHandlesLive → s.emptySlots (n + 1) →
      s.FireStep (f s d) d (keeps d))
    {ds : List DistrictNo} (distinct : ds.Nodup) {s : State} (base : b.FireAdjusted s) (live : s.fireHandlesLive)
    (room : s.emptySlots ds.length) :
    s.FiresTaken (ds.foldl f s) ds ∧ ∀ d ∈ ds, s.FireSettled (ds.foldl f s) d (keeps d) := by
  induction ds generalizing s with
  | nil => exact ⟨.refl live, nofun⟩
  | cons d ds ih =>
    obtain ⟨fresh, distinct⟩ := List.nodup_cons.mp distinct
    obtain ⟨taken, settled, room'⟩ := step s d ds.length base live room
    obtain ⟨taken', settled'⟩ := ih distinct (base.trans taken.adjusted) taken.live (room' _ room)
    refine ⟨taken.cons live fresh taken', fun e mem => ?_⟩
    rcases List.mem_cons.mp mem with rfl | later
    · exact settled.followed live taken taken' fresh
    · exact (settled' e later).preceded live taken fun same => fresh (same ▸ later)

/-- The hold of a slot whose use count has passed it is gone. -/
theorem State.liveHold_counted {s t : State} (live : s.fireHandlesLive) {d : DistrictNo} {x : Handle}
    (fire : (s.district d).fire = some x) (count : (t.slot x.slot).useCount = (s.slot x.slot).useCount + 1) : t.liveHold x = none := by
  have current := congrArg Handle.useCount (State.handleAt_of_live (live.live fire)).1
  have differs : (t.slot x.slot).useCount ≠ x.useCount := by
    rw [count, ← current]
    exact UseCount.succ_ne _
  rw [State.liveHold]
  exact if_neg (by simpa using differs)

/-- The holds that no district's handle names stand. -/
theorem State.FiresTaken.otherHoldsStand {s t : State} {ds : List DistrictNo} (h : s.FiresTaken t ds) : s.otherHoldsStand t := by
  intro i some_ unnamed
  rcases h.slots i with same | ⟨empty, -⟩ | ⟨⟨d, -, fire⟩, -⟩
  · exact same
  · rw [empty] at some_
    cases some_
  · exact absurd fire (unnamed d)

/-! ### The two courses: ENTER SERVICE (R75) and a start (R78) -/

theorem State.rederiveFire_step {b s : State} (base : b.FireAdjusted s) (live : s.fireHandlesLive) {n : Nat}
    (room : s.emptySlots (n + 1)) (d : DistrictNo) : s.FireStep (s.rederiveFire d) d (fun r => r.scope = b.districtZones d) := by
  have zones : s.districtZones d = b.districtZones d := congrArg Hold.scope (base.fireHoldFor d)
  have present : ((s.district d).effective == .ban && s.districtZones d != 0) = true ↔ s.fireWanted d := by simp [State.fireWanted]
  unfold State.rederiveFire
  dsimp only
  by_cases wanted : s.fireWanted d
  · rw [if_pos (present.mpr wanted)]
    cases fire : (s.district d).fire with
    | none => exact State.placeFire_step live room wanted fire
    | some x =>
      obtain ⟨r, hold⟩ := Option.isSome_iff_exists.mp (live.live fire)
      dsimp only
      rw [hold, Option.any_some, zones]
      by_cases same : r.scope = b.districtZones d
      · rw [if_pos (beq_iff_eq.mpr same)]
        exact .keep live wanted fire hold same
      · rw [if_neg (by simpa using same)]
        exact State.replaceFire_step live room wanted fire hold same
  · rw [if_neg (mt present.mp wanted)]
    exact State.retireFire_step live wanted

end Sys2Proof.Machine
end

section
/-! ENTER SERVICE (R14, R15, R75, R97, R117). -/

namespace Sys2Proof.Machine

/-! ### Polls wanted stay wanted -/

theorem State.checkResume_wanted (s : State) {k : SwitchNo} (h : (s.runtime k).pollWanted.isSome = true) :
    (s.checkResume.runtime k).pollWanted.isSome = true := by
  unfold State.checkResume
  split
  · split
    · exact h
    · have polled := foldl_wantPoll_runtime ((List.nodup_finRange 16).filter (State.locatingPolls { s with
        ehu.huntCase.suspension := none })) .hunt { s with ehu.huntCase.suspension := none } k
      refine (congrArg (fun r : Runtime => r.pollWanted.isSome) polled).trans ?_
      split
      · exact Runtime.wantPoll_isSome _ _
      · exact h
  · exact h

theorem State.Told.wanted {k : SwitchNo} {s t : State} (told : s.Told k t) {j : SwitchNo}
    (h : (s.runtime j).pollWanted.isSome = true) : (t.runtime j).pollWanted.isSome = true := by
  induction told with
  | refl => exact h
  | @seq t q _ ih =>
    obtain ⟨n, e | e⟩ := State.setSeq_cases t k q
    · rw [e]
      exact State.checkResume_wanted _ ih
    · rw [e]
      exact ih
  | note n _ ih => exact ih

/-! ### The sequences enter service (R117) -/

/-- What sequences becoming UNCERTAIN leave. -/
structure State.SeqsEntered (s t : State) (ks : List SwitchNo) : Prop where
  others : t.others = s.others
  sou : t.sou = { s.sou with runtime := t.sou.runtime }
  runtime : ∀ k, t.runtime k = { s.runtime k with pollWanted := (t.runtime k).pollWanted }
  wanted : ∀ k, (s.runtime k).pollWanted.isSome = true → (t.runtime k).pollWanted.isSome = true
  thresholds : t.ehu.thresholds = s.ehu.thresholds
  notices : ∀ n, s.noticed n → t.noticed n
  seq : ∀ k, t.seq k = if k ∈ ks then (s.seq k).settled .uncertain else s.seq k

theorem foldl_settleSeq_entered {ks : List SwitchNo} (distinct : ks.Nodup) (s : State) :
    s.SeqsEntered (ks.foldl (fun t k => t.settleSeq k .uncertain) s) ks := by
  induction ks generalizing s with
  | nil => exact ⟨rfl, rfl, fun _ => rfl, fun _ h => h, rfl, fun _ h => h, fun k => by simp⟩
  | cons j ks ih =>
    obtain ⟨fresh, distinct⟩ := List.nodup_cons.mp distinct
    have told := s.settleSeq_told j .uncertain
    have seq1 := fun k => State.settleSeq_seq s j k (st := .uncertain) (.inr (.inr rfl))
    obtain ⟨others, sou, runtime, wanted, thresholds, notices, seq⟩ := ih distinct (s.settleSeq j .uncertain)
    rw [List.foldl_cons]
    refine ⟨others.trans told.others, by rw [sou, told.sou], fun k => by rw [runtime k, told.runtime k], fun k h => wanted k (told.wanted h),
      by rw [thresholds, told.ehu], fun n h => notices n (told.noticed h), fun k => ?_⟩
    rw [seq, seq1]
    by_cases here : k = j
    · subst here
      simp [fresh]
    · simp [here]

/-! ### The link enters service (R15, R97, R100) -/

/-- The polls wanted, the profiles compared and both poll timers set. -/
def State.linkEntered (s : State) : State := (s.pollAll.reviewProfiles s.configuredSwitches).startPollTimers

structure State.LinkEntered (s t : State) : Prop where
  others : t.others = s.others
  rcs : t.rcs = s.rcs
  ehu : t.ehu = s.ehu
  rqi : t.rqi = s.rqi
  wanted : ∀ k, s.configured k = true → (t.runtime k).pollWanted.isSome = true
  runtime : ∀ k, t.runtime k = { s.runtime k with
    profileState := (t.runtime k).profileState, pushWanted := (t.runtime k).pushWanted, pollWanted := (t.runtime k).pollWanted }
  compared : ∀ k code, s.configured k = true → s.requiredProfile k = some code →
    if (s.runtime k).confirmed = some code then (t.runtime k).profileState = .confirmed ∧ (t.runtime k).pushWanted = false
    else (t.runtime k).profileState = .pending ∧ (t.runtime k).pushWanted = true
  routine : t.sou.routineTimer = .running (10 * s.sou.link.pollInterval) (10 * s.sou.link.pollInterval)
  head : t.sou.headTimer = if (s.config 0).any (·.sensing) then
    .running (10 * s.sou.link.headInterval) (10 * s.sou.link.headInterval) else .stopped

theorem State.linkEntered_spec (s : State) : s.LinkEntered s.linkEntered := by
  have polled : s.pollAll = { s with sou.runtime := s.pollAll.sou.runtime } := foldl_wantPoll_eq _ _ _
  have polls : ∀ k, s.pollAll.runtime k = if k ∈ s.configuredSwitches then (s.runtime k).wantPoll .routine else s.runtime k :=
    foldl_wantPoll_runtime ((List.nodup_finRange 16).filter _) .routine s
  obtain ⟨reviewed, runtime⟩ := State.reviewProfiles_spec (ks := s.configuredSwitches) ((List.nodup_finRange 16).filter _) s.pollAll
  have configured : ∀ k, s.configured k = true → k ∈ s.configuredSwitches := fun k h => List.mem_filter.mpr ⟨mem_allSwitches k, h⟩
  have fields : s.pollAll.others = s.others ∧ s.pollAll.rcs = s.rcs ∧ s.pollAll.ehu = s.ehu ∧ s.pollAll.rqi = s.rqi
      ∧ s.pollAll.fmu = s.fmu ∧ s.pollAll.fsu = s.fsu ∧ s.pollAll.sou = { s.sou with runtime := s.pollAll.sou.runtime } := by
    rw [polled]
    exact ⟨rfl, rfl, rfl, rfl, rfl, rfl, rfl⟩
  unfold State.linkEntered
  generalize s.pollAll = u at *
  obtain ⟨others, rcs, ehu, rqi, fmu, fsu, sou⟩ := fields
  have required := State.requiredProfile_congr fmu fsu
  have here : ∀ k, (u.reviewProfiles s.configuredSwitches).startPollTimers.runtime k
      = if k ∈ s.configuredSwitches ∧ u.configured k = true then u.reviewed k else u.runtime k := runtime
  have same : ∀ k, u.runtime k = { s.runtime k with pollWanted := (u.runtime k).pollWanted } := fun k => by
    rw [polls]
    split
    · exact Runtime.wantPoll_eq _ _
    · rfl
  have whole : (u.reviewProfiles s.configuredSwitches).sou = { s.sou with runtime := (u.reviewProfiles s.configuredSwitches).sou.runtime } := by
    rw [reviewed.sou, sou]
  have conf : ∀ k, u.configured k = s.configured k := fun k => congrArg Option.isSome (State.config_congr fmu k)
  refine ⟨reviewed.others.trans others, reviewed.rcs.trans rcs, reviewed.ehu.trans ehu, reviewed.rqi.trans rqi, fun k h => ?_,
    fun k => ?_, fun k code h req => ?_, ?_, ?_⟩
  · rw [here, if_pos ⟨configured k h, (conf k).trans h⟩, (u.reviewed_spec k).1, polls, if_pos (configured k h)]
    exact Runtime.wantPoll_isSome _ _
  · rw [here]
    split
    · rw [(u.reviewed_spec k).1, same]
    · rw [same]
  · rw [show State.runtime _ k = u.reviewed k from (here k).trans (if_pos ⟨configured k h, (conf k).trans h⟩)]
    have compared := (u.reviewed_spec k).2 code ((required k).trans req)
    rwa [show (u.runtime k).confirmed = (s.runtime k).confirmed by rw [same]] at compared
  · exact (congrArg (fun x : Sou => Timer.start (10 * x.link.pollInterval)) whole :)
  · have fields := reviewed.others
    simp only [State.others, Prod.mk.injEq] at fields
    obtain ⟨-, -, -, fmu', -⟩ := fields
    have config := State.config_congr (fmu'.trans fmu) 0
    exact (congrArg₂ (fun (x : Sou) (c : Option SwitchConfig) =>
      if c.any (·.sensing) then Timer.start (10 * x.link.headInterval) else .stopped) whole config :)

/-! ### The FIRE holds derived again (R75) -/

theorem State.rederiveFire_adjusted (s : State) (d : DistrictNo) : s.FireAdjusted (s.rederiveFire d) := by
  unfold State.rederiveFire
  dsimp only
  split
  · split
    · exact s.placeFire_adjusted d
    · split
      · exact .refl s
      · exact (s.retireFire_adjusted d).trans (State.placeFire_adjusted _ d)
  · exact s.retireFire_adjusted d

theorem State.rederiveFire_unwanted {s : State} {d : DistrictNo} (unwanted : ¬ s.fireWanted d) :
    s.rederiveFire d = s.retireFire d := by
  unfold State.rederiveFire
  exact if_neg (by simpa [State.fireWanted] using unwanted)

/-- A district's step drops at most the handle of another. -/
theorem State.rederiveFire_other (s : State) {d e : DistrictNo} (other : e ≠ d) (none_ : (s.district e).fire = none) :
    ((s.rederiveFire d).district e).fire = none := by
  have placed : ∀ u : State, (u.district e).fire = none → ((u.placeFire d).district e).fire = none := fun u h => by
    rw [State.placeFire_district, if_neg (Ne.symm other)]
    exact h
  have retired : ((s.retireFire d).district e).fire = none := by
    rcases (s.retireFire_shrinks d).1.fires e with same | ⟨gone, -⟩
    · exact same.trans none_
    · exact gone
  unfold State.rederiveFire
  dsimp only
  split
  · split
    · exact placed s none_
    · split
      · exact none_
      · exact placed _ retired
  · exact retired

theorem foldl_rederiveFire_unwanted (ds : List DistrictNo) (s : State) :
    s.FireAdjusted (ds.foldl State.rederiveFire s)
      ∧ ∀ d, ¬ s.fireWanted d → (d ∈ ds ∨ (s.district d).fire = none) → ((ds.foldl State.rederiveFire s).district d).fire = none := by
  induction ds generalizing s with
  | nil => exact ⟨.refl s, fun _ _ h => h.resolve_left List.not_mem_nil⟩
  | cons e ds ih =>
    have adjusted := s.rederiveFire_adjusted e
    obtain ⟨rest, gone⟩ := ih (s.rederiveFire e)
    refine ⟨adjusted.trans rest, fun d unwanted h => gone d (mt (adjusted.fireWanted d).mp unwanted) ?_⟩
    by_cases here : d = e
    · subst here
      rw [State.rederiveFire_unwanted unwanted]
      exact .inr (s.retireFire_shrinks d).2
    · rcases h with mem | none_
      · exact .inl ((List.mem_cons.mp mem).resolve_left here)
      · exact .inr (s.rederiveFire_other here none_)

/-! ### The completion -/

/-- The feeder model in service: the reach table built. -/
def State.reachBuilt (s : State) : State := { s with fmu.reachTable := some s.fmu.buildReach, fmu.mode := .service }

/-- The FIRE holds derived again besides. -/
def State.firesDerived (s : State) : State := allDistricts.foldl State.rederiveFire s.reachBuilt

theorem State.intoService_eq (s : State) : s.intoService =
    s.firesDerived.handThresholds.linkEntered.rcsEnterService := rfl

/-- Operations that leave the records of the FIRE holds keep what was settled. -/
theorem State.FireSettled.told {s t u : State} {d : DistrictNo} {keeps : Hold → Prop} (h : s.FireSettled t d keeps)
    (fsu : u.fsu = t.fsu) (htu : u.htu = t.htu) (notices : ∀ n, t.noticed n → u.noticed n) : s.FireSettled u d keeps := by
  have district : u.district d = t.district d := State.district_congr fsu d
  have slot : ∀ i, u.slot i = t.slot i := State.slot_congr htu
  obtain ⟨kept, placed, retired⟩ := h
  refine ⟨fun x r wanted fire hold mine => ?_, fun wanted other => ?_, fun unwanted => ?_⟩
  · rw [State.fireHoldKept, district, slot]
    exact kept x r wanted fire hold mine
  · obtain ⟨⟨x, fire, hold, notice⟩, gone⟩ := placed wanted other
    exact ⟨⟨x, by rw [district]; exact fire, by rw [State.liveHold_of_slot (slot x.slot)]; exact hold, notices _ notice⟩,
      fun y hy => by rw [slot]; exact gone y hy⟩
  · obtain ⟨fire, gone⟩ := retired unwanted
    exact ⟨by rw [district]; exact fire, fun y hy => ⟨by rw [slot]; exact (gone y hy).1, notices _ (gone y hy).2⟩⟩

/-- What ENTER SERVICE leaves. -/
structure State.ServiceEntered (s t : State) : Prop where
  fmu : t.fmu = { s.fmu with reachTable := some s.fmu.buildReach, mode := .service }
  level : ∀ d, t.district d = { s.district d with fire := (t.district d).fire }
  unwanted : ∀ d, ¬ s.fireWanted d → (t.district d).fire = none
  fires : s.fireHandlesLive → s.emptySlots 8 → s.otherHoldsStand t
    ∧ ∀ d, s.FireSettled t d (fun r => r.scope = s.districtZones d)
  fsu : t.fsu = { s.fsu with districts := t.fsu.districts }
  thresholds : t.ehu.thresholds = t.feederThresholds
  polled : ∀ k, s.configured k = true → (t.runtime k).pollWanted.isSome = true
  compared : ∀ k code, s.configured k = true → t.requiredProfile k = some code →
    if (s.runtime k).confirmed = some code then (t.runtime k).profileState = .confirmed ∧ (t.runtime k).pushWanted = false
    else (t.runtime k).profileState = .pending ∧ (t.runtime k).pushWanted = true
  seq : ∀ k, t.seq k = if s.configured k = true then (s.seq k).settled .uncertain else s.seq k
  runtime : ∀ k, t.runtime k = { s.runtime k with
    profileState := (t.runtime k).profileState, pushWanted := (t.runtime k).pushWanted, pollWanted := (t.runtime k).pollWanted }
  routine : t.sou.routineTimer = .running (10 * s.sou.link.pollInterval) (10 * s.sou.link.pollInterval)
  head : t.sou.headTimer = if (s.config 0).any (·.sensing) then
    .running (10 * s.sou.link.headInterval) (10 * s.sou.link.headInterval) else .stopped

theorem State.intoService_entered (s : State) : s.ServiceEntered s.intoService := by
  obtain ⟨adjusted, unwanted⟩ := foldl_rederiveFire_unwanted allDistricts s.reachBuilt
  have course := fun (live : s.fireHandlesLive) (room : s.emptySlots 8) => foldl_fires_settled (b := s.reachBuilt)
    (f := State.rederiveFire) (fun u d n base live room => State.rederiveFire_step base live room d) (List.nodup_finRange 8)
    (.refl s.reachBuilt) (s := s.reachBuilt) live room
  rw [← allDistricts] at course
  have linked := s.firesDerived.handThresholds.linkEntered_spec
  rw [State.intoService_eq]
  unfold State.firesDerived at linked ⊢
  generalize allDistricts.foldl State.rederiveFire s.reachBuilt = u at *
  have entered := foldl_settleSeq_entered (ks := u.handThresholds.linkEntered.configuredSwitches) ((List.nodup_finRange 16).filter _)
    u.handThresholds.linkEntered
  unfold State.rcsEnterService
  have mem : ∀ k, k ∈ u.handThresholds.linkEntered.configuredSwitches ↔ s.configured k = true := fun k => by
    have fields := linked.others
    simp only [State.others, Prod.mk.injEq] at fields
    obtain ⟨-, -, -, fmu, -⟩ := fields
    have config : u.handThresholds.linkEntered.configured k = s.configured k :=
      congrArg Option.isSome ((State.config_congr (fmu.trans adjusted.fmu) k).trans rfl)
    rw [State.configuredSwitches, List.mem_filter, config]
    exact ⟨fun h => h.2, fun h => ⟨mem_allSwitches k, h⟩⟩
  generalize u.handThresholds.linkEntered = l at *
  generalize l.configuredSwitches.foldl (fun t k => t.settleSeq k .uncertain) l = t at *
  have fields1 := linked.others
  have fields2 := entered.others
  simp only [State.others, Prod.mk.injEq] at fields1 fields2
  obtain ⟨-, -, -, fmu1, htu1, fsu1, svu1⟩ := fields1
  obtain ⟨-, -, -, fmu2, htu2, fsu2, svu2⟩ := fields2
  have fmu : t.fmu = s.reachBuilt.fmu := (fmu2.trans fmu1).trans adjusted.fmu
  have fsu : t.fsu = u.fsu := fsu2.trans fsu1
  have htu : t.htu = u.htu := htu2.trans htu1
  have notices : ∀ n, u.noticed n → t.noticed n := fun n h => entered.notices n (State.noticed_of_rqi (s := u) linked.rqi h)
  have district := State.district_congr fsu
  have polls : ∀ k, u.runtime k = { s.runtime k with pollWanted := (u.runtime k).pollWanted } := adjusted.polls
  have runtime : ∀ k, t.runtime k = { u.runtime k with
      profileState := (t.runtime k).profileState, pushWanted := (t.runtime k).pushWanted, pollWanted := (t.runtime k).pollWanted } :=
    fun k => by rw [entered.runtime k, linked.runtime k]; rfl
  have required : ∀ k, t.requiredProfile k = u.requiredProfile k :=
    State.requiredProfile_congr (fmu.trans adjusted.fmu.symm) fsu
  have configured : ∀ k, u.configured k = s.configured k := fun k =>
    congrArg Option.isSome (State.config_congr adjusted.fmu k)
  have profile : ∀ k, (t.runtime k).profileState = (l.runtime k).profileState ∧ (t.runtime k).pushWanted = (l.runtime k).pushWanted :=
    fun k => by rw [entered.runtime k]; exact ⟨rfl, rfl⟩
  have seq : ∀ k, l.seq k = s.seq k := fun k => State.seq_of_rcs (linked.rcs.trans adjusted.departed.2.1) k
  refine ⟨fmu, fun d => ?_, fun d out => ?_, fun live room => ?_, ?_, ?_, fun k h => ?_, fun k code h req => ?_, fun k => ?_, fun k => ?_,
    ?_, ?_⟩
  · rw [district]
    exact adjusted.level d
  · rw [district]
    exact unwanted d out (.inl (mem_allDistricts d))
  · obtain ⟨taken, settled⟩ := course live room
    refine ⟨fun i some_ unnamed => (State.slot_congr htu i).trans (taken.otherHoldsStand i some_ unnamed), fun d => ?_⟩
    obtain ⟨kept, placed, retired⟩ := (settled d (mem_allDistricts d)).told fsu htu notices
    exact ⟨kept, placed, retired⟩
  · rw [fsu]
    exact adjusted.fsu
  · rw [entered.thresholds, linked.ehu, State.feederThresholds_congr (fmu.trans adjusted.fmu.symm) fsu]
    rfl
  · exact entered.wanted k (linked.wanted k ((configured k).trans h))
  · rw [(profile k).1, (profile k).2]
    have compared := linked.compared k code ((configured k).trans h) ((required k).symm.trans req)
    rwa [show (u.handThresholds.runtime k).confirmed = (s.runtime k).confirmed from
      (congrArg Runtime.confirmed (polls k) :)] at compared
  · rw [entered.seq, seq]
    simp only [mem]
  · rw [runtime k, polls k]
  · rw [(congrArg Sou.routineTimer entered.sou :), linked.routine]
    exact (congrArg (fun x : Sou => Timer.running (10 * x.link.pollInterval) (10 * x.link.pollInterval)) adjusted.sou :)
  · rw [(congrArg Sou.headTimer entered.sou :), linked.head]
    have config : u.handThresholds.config 0 = s.config 0 := State.config_congr adjusted.fmu 0
    rw [config]
    exact (congrArg (fun x : Sou => if (s.config 0).any (·.sensing) then
      Timer.running (10 * x.link.headInterval) (10 * x.link.headInterval) else .stopped) adjusted.sou :)

/-- Settles O21. -/
theorem enterServiceCompletes : Obligations.EnterServiceCompletes := by
  unfold Obligations.EnterServiceCompletes
  intro s p hs
  refine ⟨fun mode => ?_, fun mode n o fault => ?_, fun mode passed => ?_⟩
  · have carried : (s.taking p).carryOut p .enterService = (s.taking p, .already) := if_pos mode
    exact (exec_unmoved (c := .enterService p) rfl hs (fun _ => rfl) rfl rfl carried :)
  all_goals have serving : ¬ (s.taking p).fmu.mode = .service := by rw [show (s.taking p).fmu.mode = _ from mode]; nofun
  · have carried : (s.taking p).carryOut p .enterService = (s.taking p, ⟨.refusedTopology, .topology n o⟩) := by
      refine (if_neg serving).trans ?_
      rw [show (s.taking p).fmu.failedCheck = _ from fault]
    exact (exec_unmoved (c := .enterService p) rfl hs (fun _ => rfl) rfl rfl carried :)
  · have carried : (s.taking p).carryOut p .enterService = ((s.taking p).intoService, .done) := by
      refine (if_neg serving).trans ?_
      rw [show (s.taking p).fmu.failedCheck = _ from passed]
    have answered := exec_answered (c := .enterService p) rfl hs (fun _ => rfl) rfl rfl carried
    have register : ∀ k, (s.taking p).configured k = s.configured k := fun _ => rfl
    obtain ⟨fmu, level, unwanted, fires, fsu, thresholds, polled, compared, seq, runtime, routine, head⟩ :=
      (s.taking p).intoService_entered
    generalize (s.taking p).intoService = t at *
    have configured : ∀ k, t.configured k = s.configured k := fun k => by
      rw [State.configured, State.config, fmu]
      rfl
    refine ⟨t, answered, (congrArg Fmu.mode fmu :), (congrArg Fmu.zones fmu :), (congrArg Fmu.switches fmu :),
      (congrArg Fmu.reachTable fmu :), fun d => ?_, fun d out => unwanted d fun ⟨ban, zones⟩ => out.elim (· ban) zones,
      fun live room => ?_, (congrArg Fsu.groups fsu :), thresholds, fun k h => ?_, fun k h => ?_, fun k => ?_, routine, head⟩
    · rw [level d]
      exact ⟨rfl, rfl, rfl⟩
    · obtain ⟨stand, settled⟩ := fires live room
      refine ⟨stand, fun d => ?_⟩
      obtain ⟨kept, placed, retired⟩ := settled d
      refine ⟨fun h r wanted fire hold mine => kept h r wanted fire hold mine, fun wanted other => ?_, fun out => ?_⟩
      · obtain ⟨held, gone⟩ := placed wanted other
        exact ⟨held, fun h fire => State.liveHold_counted (s := s) live fire (gone h fire)⟩
      · obtain ⟨none_, gone⟩ := retired out
        exact ⟨none_, fun h fire => ⟨State.liveHold_counted (s := s) live fire (gone h fire).1, (gone h fire).2⟩⟩
    · rw [configured] at h
      have here := (seq k).trans (if_pos h)
      rw [here]
      exact ⟨polled k h, rfl, rfl, rfl, rfl, rfl, fun code req => compared k code h req⟩
    · rw [configured] at h
      exact (seq k).trans (if_neg (by rw [register, h]; nofun))
    · rw [runtime k]
      exact ⟨rfl, rfl, rfl⟩

end Sys2Proof.Machine
end

section
/-! The warm start (R155, R166, R167): what the record of a case keeps of it. -/

namespace Sys2Proof.Machine

/-- The RESET line released. -/
def State.released (s : State) : State := { s with lines.reset := false }

theorem exec_resetRelease {s : State} (h : s.lines.reset = true) :
    exec .resetRelease s = .next s.released.startIfReleased.arbitrate :=
  congrArg Host.Outcome.next (if_pos h)

/-- A hold of origin HUNT, live in slot 0. -/
def straySlot : Slot :=
  { hold := some { kind := .noReclose, strength := .plain, origin := .hunt, scope := wholeFeeder, tag := none, expiry := none
                   reason := 0, cause := none, placed := 0, version := 0 }
    useCount := 0 }

/-- A part after reset, held in reset again, in which the handle of district 0's FIRE hold and the handle of the idle case name the one
hold of origin HUNT. -/
def strayHandle : State :=
  { State.reset with
    lines := { Lines.quiet with reset := true }
    htu := { slots := (Vector.replicate 64 Slot.cold).set 0 straySlot, counts := .zero }
    fsu := { Fsu.cold with districts := Fsu.cold.districts.set 0 { District.cold with fire := some ⟨0, 0⟩ } }
    ehu := { Ehu.cold with huntCase := { HuntCase.cold with holdHandle := some ⟨0, 0⟩ } } }

theorem strayHandle_idle : strayHandle.ehu.huntCase.state = .idle := by
  unfold strayHandle
  rfl

theorem strayHandle_holdHandle : strayHandle.ehu.huntCase.holdHandle = some ⟨0, 0⟩ := by
  unfold strayHandle
  rfl

theorem strayHandle_held : strayHandle.lines.reset = true := by
  unfold strayHandle
  rfl

/-- The start retires the FIRE hold of district 0, which is below BAN, and the departure drops the handle of the case. -/
theorem strayHandle_dropped :
    strayHandle.released.startIfReleased.arbitrate.ehu.huntCase.holdHandle = none := by
  decide +kernel

/-- Refutes O59: the start keeps no handle of the case whose hold it retires as a FIRE hold. -/
theorem not_warmStartCompletes : ¬ Obligations.WarmStartCompletes := by
  unfold Obligations.WarmStartCompletes
  intro h
  obtain ⟨released, -⟩ := h strayHandle rfl rfl rfl
  obtain ⟨t, taken, started⟩ := released rfl rfl
  have same := Host.Outcome.next.inj ((exec_resetRelease strayHandle_held).symm.trans taken)
  obtain ⟨-, -, -, -, -, -, -, -, fmu, -, -, -, -, -, -, -, -, -, -, -, -, runtime, -, -, -, closed, -⟩ := started
  have mode : t.fmu.mode = .commissioning := congrArg Fmu.mode fmu
  have unclaimed : t.claims = [] := by
    refine List.flatMap_eq_nil_iff.mpr fun k _ => ?_
    obtain ⟨-, -, slot, -, -, polled⟩ := runtime k
    have out : t.inService k = false := by simp [State.inService, mode]
    have none_ : (t.runtime k).pollWanted = none := Option.not_isSome_iff_eq_none.mp fun some_ => by
      have serving := (polled.mp some_).2
      cases serving
    simp [State.claimsOf, slot, out, none_]
  have whole := closed (.inl strayHandle_idle)
  have kept : t.ehu.huntCase.holdHandle = some ⟨0, 0⟩ := (congrArg HuntCase.holdHandle whole :).trans strayHandle_holdHandle
  have dropped : t.arbitrate.ehu.huntCase.holdHandle = none :=
    (congrArg (fun u : State => u.ehu.huntCase.holdHandle) same).symm.trans strayHandle_dropped
  rw [State.arbitrate_nothing unclaimed, kept] at dropped
  cases dropped

end Sys2Proof.Machine
end

section
/-! The first fault of a record: its restore, the INTEGRITY hold and the abandonment (R158 to R161). -/

namespace Sys2Proof.Machine

/-! ### Steps 2 to 4 of a first fault (R158) -/

/-- The INTEGRITY hold. -/
def State.integrityHold (s : State) : Hold := s.deviceHold .noClose .pinned .system wholeFeeder .integrity

/-- What the steps after a first fault's restore change. -/
structure State.FaultTaken (m t : State) (i : SlotNo) : Prop where
  empty : m.holdAt i = none
  slot : t.slot i = { m.slot i with hold := some m.integrityHold }
  slots : ∀ j, j ≠ i → t.slot j = m.slot j
  lines : t.lines = m.lines
  fmu : t.fmu = m.fmu
  fsu : t.fsu = m.fsu
  sou : t.sou = m.sou
  rcs : t.rcs = m.rcs
  svu : t.svu = m.svu
  ehu : t.ehu = { m.ehu with
    huntCase := t.ehu.huntCase, settleTimer := t.ehu.settleTimer, observeTimer := t.ehu.observeTimer
    pendingAbandon := t.ehu.pendingAbandon }
  closed : m.ehu.huntCase.state = .idle ∨ m.ehu.huntCase.state = .concluded → t.ehu = m.ehu
  waiting : m.ehu.huntCase.state = .locating ∨ m.ehu.huntCase.state = .suspended →
    t.ehu.huntCase = { m.ehu.huntCase.conclude .abandoned with abandon := some .integrity } ∧ t.noticed .hunt
  stepping : m.ehu.huntCase.state = .stepping →
    t.ehu.huntCase = m.ehu.huntCase ∧ t.ehu.pendingAbandon = some (m.ehu.reasonOr .integrity)
  unpended : m.ehu.huntCase.state ≠ .stepping → t.ehu.pendingAbandon = m.ehu.pendingAbandon
  integrity : t.noticed .integrity
  hold : t.noticed .hold
  notices : ∀ n, m.noticed n → t.noticed n
  registers : ∀ p, (t.port p).reservation = (m.port p).reservation

theorem State.abandonCase_closed {s : State} (h : s.ehu.huntCase.state = .idle ∨ s.ehu.huntCase.state = .concluded) (r : AbandonReason) :
    s.abandonCase r = s := by
  rcases h with h | h <;> rw [State.abandonCase, h]

theorem State.abandonCase_register (s : State) (r : AbandonReason) (p : Port) :
    ((s.abandonCase r).port p).reservation = (s.port p).reservation := by
  unfold State.abandonCase
  split
  case h_3 =>
    unfold State.pendAbandon
    split <;> rfl
  case h_4 => rfl
  case h_5 => rfl
  all_goals cases p <;> rfl

theorem State.firstFault_taken {m : State} (room : m.emptySlots 1) : ∃ i, m.FaultTaken m.firstFault i := by
  obtain ⟨i, empty, low⟩ := State.lowestEmpty_of_room room
  obtain ⟨-, -, lines, fmu, fsu, sou, rcs, ehu, svu⟩ := m.placeHold_frame m.integrityHold
  have slots := State.placeHold_slot empty low m.integrityHold
  have placed := State.placeHold_of empty low m.integrityHold
  have told : m.placeIntegrity.noticed .hold := by
    rw [State.placeIntegrity, ← State.integrityHold, placed]
    exact State.noticed_notify _ _
  have kept : ∀ n, m.noticed n → m.placeIntegrity.noticed n := fun n h => by
    rw [State.placeIntegrity, ← State.integrityHold, placed]
    exact State.noticed_kept _ _ _ h
  have register : ∀ p, (m.placeIntegrity.port p).reservation = (m.port p).reservation := fun p => by
    rw [State.placeIntegrity, ← State.integrityHold, placed]
    cases p <;> rfl
  have done_ := State.abandonCase_spec (m.placeIntegrity.notify .integrity) .integrity
  have still := fun h => State.abandonCase_closed (s := m.placeIntegrity.notify .integrity) h .integrity
  have register' := (m.placeIntegrity.notify .integrity).abandonCase_register .integrity
  have same : (m.placeIntegrity.notify .integrity).ehu = m.ehu := ehu
  refine ⟨i, ?_⟩
  rw [State.firstFault]
  generalize State.abandonCase _ .integrity = t at *
  have whole : t.ehu = { (m.placeIntegrity.notify .integrity).ehu with
    huntCase := t.ehu.huntCase, settleTimer := t.ehu.settleTimer, observeTimer := t.ehu.observeTimer
    pendingAbandon := t.ehu.pendingAbandon } := done_.ehu
  have frame : t.htu = m.placeIntegrity.htu := (congrArg State.htu done_.frame :)
  have slots' : ∀ j, t.slot j = if i = j then { m.slot i with hold := some m.integrityHold } else m.slot j := fun j =>
    (State.slot_congr frame j).trans (slots j)
  rw [same] at whole
  have closed := done_.closed
  have waiting := done_.waiting
  have stepping := done_.stepping
  have unpended := done_.unpended
  rw [same] at closed waiting stepping unpended
  refine ⟨empty, (slots' i).trans (if_pos rfl), fun j other => (slots' j).trans (if_neg (Ne.symm other)),
    (congrArg State.lines done_.frame :).trans lines, (congrArg State.fmu done_.frame :).trans fmu,
    (congrArg State.fsu done_.frame :).trans fsu, (congrArg State.sou done_.frame :).trans sou,
    (congrArg State.rcs done_.frame :).trans rcs, (congrArg State.svu done_.frame :).trans svu, whole,
    fun h => ?_, waiting, stepping, unpended, done_.notices _ (State.noticed_notify _ _),
    done_.notices _ (State.noticed_kept _ _ _ told), fun n h => done_.notices n (State.noticed_kept _ _ _ (kept n h)), fun p => ?_⟩
  · rw [still (by rw [same]; exact h), same]
  · rw [register', ← register]
    cases p <;> rfl

/-! ### What a restore leaves for the steps that follow (R159, R160) -/

/-- The state with every check code matching. -/
def State.recoded (s : State) : State := { s with svu := { s.svu with badCodes := [] } }

theorem foldl_recode (rs : List RecordId) (u : State) : rs.foldl State.recode u
    = { u with svu := { u.svu with badCodes := rs.foldl (fun b r => b.filter (· != r)) u.svu.badCodes } } := by
  induction rs generalizing u with
  | nil => rfl
  | cons r rs ih => rw [List.foldl_cons, ih]; rfl

theorem restored_clears (r : RecordId) : (restored r).foldl (fun b r => b.filter (· != r)) [r] = [] := by
  cases r with
  | group l => cases l <;> rfl
  | _ => simp [restored]

theorem State.mended_eq {s : State} {r : RecordId} (kept : (s.restore r).svu.badCodes = [r]) : s.mended r = (s.restore r).recoded := by
  rw [State.mended, foldl_recode, kept, restored_clears]
  rfl

/-- The restore of a zone or a switch entry takes the part out of service (R160). -/
def State.leavesFor (s : State) (r : RecordId) : Prop := s.fmu.mode = .service ∧ ((∃ z, r = .zone z) ∨ ∃ k, r = .switch k)

/-- What every restore leaves for the steps that follow. -/
structure State.Restored (s m : State) (r : RecordId) : Prop where
  sound : m.svu.badCodes = []
  running : m.svu.halted = false
  timer : m.svu.scanTimer = .running 600 600
  lines : m.lines = s.lines
  room : m.emptySlots 1
  stand : ∀ i, r ≠ .slot i → (s.holdAt i).isSome = true → m.slot i = s.slot i
  waiting : r ≠ .huntCase → s.ehu.huntCase.state = .locating ∨ s.ehu.huntCase.state = .suspended →
    (¬ s.leavesFor r ∧ (m.ehu.huntCase.state = .locating ∨ m.ehu.huntCase.state = .suspended))
      ∨ (s.leavesFor r ∧ m.noticed .hunt ∧ m.ehu.huntCase.state = .concluded ∧ m.ehu.huntCase.result = some .abandoned
        ∧ m.ehu.huntCase.abandon = some .mode)
  stepping : r ≠ .huntCase → s.ehu.huntCase.state = .stepping →
    (¬ s.leavesFor r ∧ m.ehu.huntCase.state = .stepping ∧ m.ehu.pendingAbandon = s.ehu.pendingAbandon)
      ∨ (s.leavesFor r ∧ m.ehu.pendingAbandon = some (s.ehu.reasonOr .mode))
  left : s.leavesFor r → m.ehu.watch = Watch.start ∧ m.sou.routineTimer = .stopped ∧ m.sou.headTimer = .stopped
    ∧ ∀ k, (m.runtime k).slot = none ∧ (m.runtime k).pollWanted = none ∧ (m.seq k).state = .outOfService ∧ (m.seq k).marker = none

/-- What a first fault leaves, whatever the record. -/
structure State.FaultMet (s t : State) (r : RecordId) (reason : AbandonReason) : Prop where
  exists_ : t.integrityExists = true
  integrity : t.noticed .integrity
  hold : t.noticed .hold
  running : t.svu.halted = false
  sound : t.svu.badCodes = []
  timer : t.svu.scanTimer = .running 600 600
  lines : t.lines = s.lines
  stand : ∀ i, r ≠ .slot i → (s.holdAt i).isSome = true → t.slot i = s.slot i
  course : r ≠ .huntCase →
    (s.ehu.huntCase.state = .locating ∨ s.ehu.huntCase.state = .suspended → t.noticed .hunt ∧ t.ehu.huntCase.state = .concluded
      ∧ t.ehu.huntCase.result = some .abandoned ∧ t.ehu.huntCase.abandon = some reason) ∧
    (s.ehu.huntCase.state = .stepping →
      t.ehu.pendingAbandon = some (s.ehu.reasonOr reason) ∧ (¬ s.leavesFor r → t.ehu.huntCase.state = .stepping))
  left : s.leavesFor r → t.ehu.watch = Watch.start ∧ t.sou.routineTimer = .stopped ∧ t.sou.headTimer = .stopped
    ∧ ∀ k, (t.runtime k).slot = none ∧ (t.runtime k).pollWanted = none ∧ (t.seq k).state = .outOfService ∧ (t.seq k).marker = none

theorem isFeeder_iff (r : RecordId) : isFeeder r = true ↔ (∃ z, r = .zone z) ∨ ∃ k, r = .switch k := by
  cases r <;> simp [isFeeder, isZone, isSwitch]

theorem State.Restored.met {s m t : State} {r : RecordId} (h : s.Restored m r) {i : SlotNo} (taken : m.FaultTaken t i) :
    s.FaultMet t r (if isFeeder r = true ∧ s.fmu.mode = .service then .mode else .integrity) := by
  have leaves : (isFeeder r = true ∧ s.fmu.mode = .service) ↔ s.leavesFor r := by rw [isFeeder_iff, State.leavesFor, and_comm]
  have mode : s.leavesFor r → (if isFeeder r = true ∧ s.fmu.mode = .service then AbandonReason.mode else .integrity) = .mode :=
    fun leave => if_pos (leaves.mpr leave)
  have integrity : ¬ s.leavesFor r → (if isFeeder r = true ∧ s.fmu.mode = .service then AbandonReason.mode else .integrity) = .integrity :=
    fun stays => if_neg (mt leaves.mp stays)
  refine ⟨?_, taken.integrity, taken.hold, ?_, ?_, ?_, taken.lines.trans h.lines, fun j other some_ => ?_, fun other => ⟨fun wait => ?_,
    fun step => ?_⟩, fun leave => ?_⟩
  · have mem : i ∈ t.slotsWhere fun h => h.origin == .system && h.cause == some .integrity :=
      List.mem_filter.mpr ⟨mem_allSlots i, by rw [State.holdAt, taken.slot]; rfl⟩
    rw [State.integrityExists, Bool.not_eq_true', ← Bool.not_eq_true, List.isEmpty_iff]
    exact List.ne_nil_of_mem mem
  · rw [taken.svu]
    exact h.running
  · rw [taken.svu]
    exact h.sound
  · rw [taken.svu]
    exact h.timer
  · have same := h.stand j other some_
    refine (taken.slots j fun here => ?_).trans same
    have empty := taken.empty
    rw [← here, State.holdAt, same] at empty
    rw [State.holdAt, empty] at some_
    cases some_
  · rcases h.waiting other wait with ⟨stays, waits⟩ | ⟨leave, notice, state, result, abandon⟩
    · obtain ⟨same, notice⟩ := taken.waiting waits
      rw [same, integrity stays]
      exact ⟨notice, rfl, rfl, rfl⟩
    · rw [taken.closed (.inr state), mode leave]
      exact ⟨taken.notices _ notice, state, result, abandon⟩
  · rcases h.stepping other step with ⟨stays, state, pending⟩ | ⟨leave, pending⟩
    · obtain ⟨same, pends⟩ := taken.stepping state
      rw [integrity stays, pends, same, Ehu.reasonOr, pending]
      exact ⟨rfl, fun _ => state⟩
    · rw [mode leave]
      refine ⟨?_, fun stays => absurd leave stays⟩
      by_cases state : m.ehu.huntCase.state = .stepping
      · rw [(taken.stepping state).2, Ehu.reasonOr, pending]
      · rw [taken.unpended state, pending]
  · obtain ⟨watch, routine, head, records⟩ := h.left leave
    rw [taken.ehu, taken.sou]
    refine ⟨watch, routine, head, fun k => ?_⟩
    rw [State.runtime_congr taken.sou, State.seq_of_rcs taken.rcs]
    exact records k

theorem exec_firstFault {s m : State} {r : RecordId} (working : s.working) (none_ : s.integrityExists = false)
    (mended : (s.scanned r).mended r = m) (restored : s.Restored m r) :
    exec (.scanPass [r]) s = .next m.firstFault.arbitrate ∧ ∃ i, m.FaultTaken m.firstFault i := by
  obtain ⟨i, taken⟩ := State.firstFault_taken restored.room
  have fault : (s.scanned r).takeFault r = m.firstFault := by
    rw [State.takeFault_eq, show (s.scanned r).integrityExists = false from none_, mended]
    rfl
  refine ⟨congrArg Host.Outcome.next ?_, i, taken⟩
  rw [State.scan_fault working (by rw [fault, taken.svu]; exact restored.sound), fault]

end Sys2Proof.Machine
end

section
/-! The restores that write one record of their owner (R159): the hunt parameters, the link settings, the case, the minute count and
the start cause. -/

namespace Sys2Proof.Machine

/-- The case goes on, or waits for its abandonment. -/
structure State.CaseGoesOn (s m : State) : Prop where
  waiting : s.ehu.huntCase.state = .locating ∨ s.ehu.huntCase.state = .suspended →
    m.ehu.huntCase.state = .locating ∨ m.ehu.huntCase.state = .suspended
  stepping : s.ehu.huntCase.state = .stepping → m.ehu.huntCase.state = .stepping
  pending : m.ehu.pendingAbandon = s.ehu.pendingAbandon

theorem State.CaseGoesOn.of_same {s m : State} (state : m.ehu.huntCase.state = s.ehu.huntCase.state)
    (pending : m.ehu.pendingAbandon = s.ehu.pendingAbandon) : s.CaseGoesOn m := by
  refine ⟨fun h => ?_, fun h => ?_, pending⟩
  · rw [state]
    exact h
  · rw [state]
    exact h

/-- The SVU's records with the scan's period begun and no fault left. -/
structure Svu.Steady (v : Svu) : Prop where
  sound : v.badCodes = []
  running : v.halted = false
  timer : v.scanTimer = .running 600 600

/-- A restore that leaves no service. -/
theorem State.Restored.of_course {s m : State} {r : RecordId} (plain : isFeeder r = false) (svu : m.svu.Steady)
    (lines : m.lines = s.lines) (room : m.emptySlots 1)
    (stand : ∀ i, r ≠ .slot i → (s.holdAt i).isSome = true → m.slot i = s.slot i) (course : r ≠ .huntCase → s.CaseGoesOn m) :
    s.Restored m r := by
  have stays : ¬ s.leavesFor r := fun leave => by
    rw [(isFeeder_iff r).mpr leave.2] at plain
    cases plain
  exact ⟨svu.sound, svu.running, svu.timer, lines, room, stand, fun other wait => .inl ⟨stays, (course other).waiting wait⟩,
    fun other step => .inl ⟨stays, (course other).stepping step, (course other).pending⟩, fun leave => absurd leave stays⟩

/-- A restore that leaves the hold table and the case. -/
theorem State.Restored.of_table {s m : State} {r : RecordId} (plain : isFeeder r = false) (svu : m.svu.Steady)
    (lines : m.lines = s.lines) (htu : m.htu = s.htu) (room : s.emptySlots 9) (course : r ≠ .huntCase → s.CaseGoesOn m) :
    s.Restored m r := by
  refine .of_course plain svu lines ?_ (fun i _ _ => State.slot_congr htu i) course
  rw [State.emptySlots] at room ⊢
  simp only [State.holdAt_congr htu]
  omega

theorem State.scanned_steady {s : State} (working : s.working) (r : RecordId) : (s.scanned r).recoded.svu.Steady :=
  ⟨rfl, working.2.1, rfl⟩

/-- A first fault of a record, by what its restore leaves. -/
theorem firstFault_of {s m : State} {r : RecordId} (working : s.working) (none_ : s.integrityExists = false)
    (kept : ((s.scanned r).restore r).svu.badCodes = [r]) (same : ((s.scanned r).restore r).recoded = m) (restored : s.Restored m r) :
    ∃ t, exec (.scanPass [r]) s = .next t.arbitrate
      ∧ s.FaultMet t r (if isFeeder r = true ∧ s.fmu.mode = .service then .mode else .integrity) ∧ ∃ i, m.FaultTaken t i := by
  obtain ⟨taken, i, fault⟩ := exec_firstFault working none_ ((State.mended_eq kept).trans same) restored
  exact ⟨_, taken, restored.met fault, i, fault⟩

section
variable {s : State} (working : s.working) (none_ : s.integrityExists = false) (room : s.emptySlots 9)
include working none_ room

theorem firstFault_huntParameters : ∃ t, exec (.scanPass [.huntParameters]) s = .next t.arbitrate
    ∧ s.FaultMet t .huntParameters .integrity
    ∧ t.ehu.params = HuntParams.default ∧ t.fmu = s.fmu ∧ t.fsu = s.fsu ∧ t.sou = s.sou ∧ t.rcs = s.rcs := by
  obtain ⟨t, taken, met, i, fault⟩ := firstFault_of (r := .huntParameters) working none_ rfl rfl
    (.of_table rfl (s.scanned_steady working _) rfl rfl room fun _ => .of_same rfl rfl)
  exact ⟨t, taken, met, (congrArg Ehu.params fault.ehu :), fault.fmu, fault.fsu, fault.sou, fault.rcs⟩

theorem firstFault_startCause : ∃ t, exec (.scanPass [.startCause]) s = .next t.arbitrate
    ∧ s.FaultMet t .startCause .integrity
    ∧ t.fmu = s.fmu ∧ t.fsu = s.fsu ∧ t.sou = s.sou ∧ t.rcs = s.rcs ∧ t.svu.startCause = ⟨none, none, false⟩ := by
  obtain ⟨t, taken, met, i, fault⟩ := firstFault_of (r := .startCause) working none_ rfl rfl
    (.of_table rfl ⟨rfl, working.2.1, rfl⟩ rfl rfl room fun _ => .of_same rfl rfl)
  exact ⟨t, taken, met, fault.fmu, fault.fsu, fault.sou, fault.rcs, (congrArg Svu.startCause fault.svu :)⟩

theorem firstFault_linkSettings : ∃ t, exec (.scanPass [.linkSettings]) s = .next t.arbitrate
    ∧ s.FaultMet t .linkSettings .integrity
    ∧ t.fmu = s.fmu ∧ t.fsu = s.fsu ∧ t.rcs = s.rcs ∧ t.sou = { s.sou with
        link := LinkSettings.default
        routineTimer := if s.sou.routineTimer ≠ .stopped ∧ s.sou.link.pollInterval ≠ 300 then .running 3000 3000
          else s.sou.routineTimer
        headTimer := if s.sou.headTimer ≠ .stopped ∧ s.sou.link.headInterval ≠ 5 then .running 50 50 else s.sou.headTimer } := by
  obtain ⟨t, taken, met, i, fault⟩ := firstFault_of (r := .linkSettings) working none_ rfl rfl
    (.of_table rfl (s.scanned_steady working _) rfl rfl room fun _ => .of_same rfl rfl)
  refine ⟨t, taken, met, fault.fmu, fault.fsu, fault.rcs, fault.sou.trans ?_⟩
  have routine := restart_eq s.sou.routineTimer s.sou.link.pollInterval 300
  have head := restart_eq s.sou.headTimer s.sou.link.headInterval 5
  simp only [ne_comm (a := 300), ne_comm (a := 5)] at routine head
  rw [← routine, ← head]
  rfl

theorem firstFault_huntCase : ∃ t, exec (.scanPass [.huntCase]) s = .next t.arbitrate
    ∧ s.FaultMet t .huntCase .integrity
    ∧ t.fmu = s.fmu ∧ t.fsu = s.fsu ∧ t.sou = s.sou ∧ t.rcs = s.rcs ∧ t.noticed .hunt
    ∧ t.ehu = { s.ehu with
        huntCase := HuntCase.cold, settleTimer := .stopped, observeTimer := .stopped
        watch := if s.ehu.watch.state = .hunting then
            if s.ehu.watch.episode = true then
              { s.ehu.watch with
                state := .watching, confirmed := false
                confirmTimer := .running (10 * s.ehu.params.confirm) (10 * s.ehu.params.confirm) }
            else { s.ehu.watch with state := .idle }
          else s.ehu.watch } := by
  have rearmed : ((s.scanned .huntCase).restore .huntCase) = { s.scanned .huntCase with
      ehu := ((s.scanned .huntCase).restore .huntCase).ehu, rqi := ((s.scanned .huntCase).notify .hunt).rqi } := by
    simp only [State.restore, State.restoreCase, State.rearmWatch]
    split
    · split <;> rfl
    · rfl
  have ehu : ((s.scanned .huntCase).restore .huntCase).ehu = { s.ehu with
      huntCase := HuntCase.cold, settleTimer := .stopped, observeTimer := .stopped
      watch := if s.ehu.watch.state = .hunting then
          if s.ehu.watch.episode = true then
            { s.ehu.watch with
              state := .watching, confirmed := false
              confirmTimer := .running (10 * s.ehu.params.confirm) (10 * s.ehu.params.confirm) }
          else { s.ehu.watch with state := .idle }
        else s.ehu.watch } := by
    simp only [State.restore, State.restoreCase, State.rearmWatch, beq_iff_eq]
    change (State.notify (if s.ehu.watch.state = .hunting then _ else _) .hunt).ehu = _
    by_cases hunting : s.ehu.watch.state = .hunting
    · rw [if_pos hunting, if_pos hunting]
      by_cases episode : s.ehu.watch.episode = true
      · rw [if_pos episode]
        exact (congrArg (fun t : State => (t.notify .hunt).ehu) (if_pos episode) :)
      · rw [if_neg episode]
        exact (congrArg (fun t : State => (t.notify .hunt).ehu) (if_neg episode) :)
    · rw [if_neg hunting, if_neg hunting]
      rfl
  have told : ((s.scanned .huntCase).restore .huntCase).recoded.noticed .hunt := by
    refine State.noticed_of_rqi (s := (s.scanned .huntCase).notify .hunt) ?_ (State.noticed_notify _ _)
    exact (congrArg State.rqi rearmed :)
  generalize same : ((s.scanned .huntCase).restore .huntCase).recoded = m at *
  have svu : m.svu.Steady := by
    rw [← same, rearmed]
    exact ⟨rfl, working.2.1, rfl⟩
  have whole : m.ehu = _ := (congrArg State.ehu same).symm.trans ehu
  obtain ⟨t, taken, met, i, fault⟩ := firstFault_of (r := .huntCase) working none_ (by rw [rearmed]; rfl) same
    (.of_table rfl svu (by rw [← same, rearmed]; rfl) (by rw [← same, rearmed]; rfl) room fun other => absurd rfl other)
  refine ⟨t, taken, met, ?_, ?_, ?_, ?_, fault.notices _ told, (fault.closed (.inl (by rw [whole]; rfl))).trans whole⟩
  · rw [fault.fmu, ← same, rearmed]
    rfl
  · rw [fault.fsu, ← same, rearmed]
    rfl
  · rw [fault.sou, ← same, rearmed]
    rfl
  · rw [fault.rcs, ← same, rearmed]
    rfl

theorem firstFault_minuteCount : ∃ t, exec (.scanPass [.minuteCount]) s = .next t.arbitrate
    ∧ s.FaultMet t .minuteCount .integrity
    ∧ t.fmu = s.fmu ∧ t.fsu = s.fsu ∧ t.sou = s.sou ∧ t.rcs = s.rcs ∧ t.svu.minute = 0 ∧ t.svu.timeState = .unset
    ∧ t.svu.timeSet = (s.svu.timeSet && s.svu.timeState == .unset) ∧ (s.svu.timeState ≠ .unset → t.noticed .time) := by
  let a : State := { s.scanned .minuteCount with
    svu := { (s.scanned .minuteCount).svu with
      minute := 0, timeSet := s.svu.timeSet && s.svu.timeState == TimeState.unset } }
  have working' : a.svu.halted = false := working.2.1
  have restored : (s.scanned .minuteCount).restore .minuteCount = a.setTimeState .unset := rfl
  by_cases unset : s.svu.timeState = .unset
  · have same : a.setTimeState .unset = a := State.setTimeState_same (.inr unset)
    obtain ⟨t, taken, met, i, fault⟩ := firstFault_of (r := .minuteCount) (m := a.recoded) working none_
      (congrArg (fun u : State => u.svu.badCodes) (restored.trans same) :) (by rw [restored, same])
      (.of_table rfl ⟨rfl, working.2.1, rfl⟩ rfl rfl room fun _ => .of_same rfl rfl)
    exact ⟨t, taken, met, fault.fmu, fault.fsu, fault.sou, fault.rcs, (congrArg Svu.minute fault.svu :),
      (congrArg Svu.timeState fault.svu :).trans unset, (congrArg Svu.timeSet fault.svu :), fun other => absurd unset other⟩
  · have moved : a.setTimeState .unset = State.notify { a with svu.timeState := .unset } .time :=
      (State.setTimeState_moves working' unset).trans (if_neg nofun)
    obtain ⟨t, taken, met, i, fault⟩ := firstFault_of (r := .minuteCount)
      (m := (State.notify { a with svu.timeState := .unset } .time).recoded) working none_
      (by rw [restored, moved]; rfl) (by rw [restored, moved])
      (.of_table rfl ⟨rfl, working.2.1, rfl⟩ rfl rfl room fun _ => .of_same rfl rfl)
    exact ⟨t, taken, met, fault.fmu, fault.fsu, fault.sou, fault.rcs, (congrArg Svu.minute fault.svu :),
      (congrArg Svu.timeState fault.svu :), (congrArg Svu.timeSet fault.svu :),
      fun _ => fault.notices _ (State.noticed_notify { a with svu.timeState := .unset } .time)⟩

end

end Sys2Proof.Machine
end

section
/-! The restores of zone and switch entries, which take the part out of service (R160), and of the setting groups (R79). -/

namespace Sys2Proof.Machine

/-! ### Zone and switch entries (R160) -/

/-- Out of service where the part is in service. -/
def State.outOfService (s : State) : State := if s.fmu.mode = .service then s.leaveService else s

theorem State.settled_congr {s u : State} (ehu : u.ehu = s.ehu) (fsu : u.fsu = s.fsu) (h : s.settled) : u.settled := by
  obtain ⟨step, listen, fires⟩ := h
  refine ⟨?_, ?_, fun d => ?_⟩
  · rw [ehu]
    exact step
  · rw [ehu]
    exact listen
  · rw [State.district_congr fsu d]
    exact fires d

theorem State.outOfService_serving {s : State} (serving : s.fmu.mode = .service) (settled : s.settled) : s.ServiceLeft s.outOfService := by
  rw [State.outOfService, if_pos serving]
  exact State.leaveService_left settled

theorem State.outOfService_idle {s : State} (idle : s.fmu.mode ≠ .service) : s.outOfService = s := if_neg idle

/-- What a feeder record restored leaves, `u` being the state with the record written. -/
structure State.FeederRestored (s u m : State) : Prop where
  htu : m.htu = u.outOfService.htu
  ehu : m.ehu = u.outOfService.ehu
  lines : m.lines = s.lines
  notices : ∀ n, u.outOfService.noticed n → m.noticed n
  steady : m.svu.Steady
  written : u.htu = s.htu ∧ u.ehu = s.ehu ∧ u.fsu = s.fsu ∧ u.fmu.mode = s.fmu.mode
  left : s.fmu.mode = .service → m.sou.routineTimer = .stopped ∧ m.sou.headTimer = .stopped
    ∧ ∀ k, (m.runtime k).slot = none ∧ (m.runtime k).pollWanted = none ∧ (m.seq k).state = .outOfService ∧ (m.seq k).marker = none

theorem State.FeederRestored.restored {s u m : State} {r : RecordId} (h : s.FeederRestored u m)
    (feeder : (∃ z, r = .zone z) ∨ ∃ k, r = .switch k) (settled : s.settled) (room : s.emptySlots 9) : s.Restored m r := by
  obtain ⟨htu, ehu, lines, notices, steady, ⟨table, hunt, levels, mode⟩, left⟩ := h
  have stepOf : s.ehu.huntCase.state = .stepping → ∃ st, s.ehu.huntCase.step = some st := fun state =>
    Option.isSome_iff_exists.mp (settled.1.mpr state)
  have settled' := State.settled_congr hunt levels settled
  by_cases serving : s.fmu.mode = .service
  · have leave := State.outOfService_serving (mode.trans serving) settled'
    have same : m.htu = s.htu := (htu.trans leave.htu).trans table
    have leaves : s.leavesFor r := ⟨serving, feeder⟩
    refine ⟨steady.sound, steady.running, steady.timer, lines, ?_, fun i _ _ => State.slot_congr same i, fun _ wait => .inr ⟨leaves, ?_⟩,
      fun _ step => .inr ⟨leaves, ?_⟩, fun _ => ⟨?_, left serving⟩⟩
    · rw [State.emptySlots] at room ⊢
      simp only [State.holdAt_congr same]
      omega
    · obtain ⟨concluded, notice⟩ := leave.waiting (by rw [hunt]; exact wait)
      rw [ehu, concluded]
      exact ⟨notices _ notice, rfl, rfl, rfl⟩
    · obtain ⟨st, under⟩ := stepOf step
      rw [ehu, (leave.stepping st (by rw [hunt]; exact under)).1, hunt]
    · rw [ehu]
      exact leave.watch
  · have idle := State.outOfService_idle (s := u) fun h => serving (mode.symm.trans h)
    rw [idle] at htu ehu
    have stays : ¬ s.leavesFor r := fun leave => serving leave.1
    have same : m.htu = s.htu := htu.trans table
    have case : m.ehu = s.ehu := ehu.trans hunt
    have goes : s.CaseGoesOn m := .of_same (by rw [case]) (by rw [case])
    refine ⟨steady.sound, steady.running, steady.timer, lines, ?_, fun i _ _ => State.slot_congr same i,
      fun _ wait => .inl ⟨stays, goes.waiting wait⟩, fun _ step => .inl ⟨stays, goes.stepping step, goes.pending⟩,
      fun leave => absurd leave stays⟩
    rw [State.emptySlots] at room ⊢
    simp only [State.holdAt_congr same]
    omega

/-- The feeder model with a zone entry at its cold value. -/
def State.withoutZone (s : State) (z : ZoneNo) : State := { s with fmu.zones := s.fmu.zones.set z .cold, fmu.reachTable := none }

theorem State.restore_zone (s : State) (z : ZoneNo) : s.restore (.zone z) = (s.withoutZone z).outOfService := rfl

/-- The feeder model with a switch entry at its cold value, its sequence's marker cleared. -/
def State.withoutSwitch (s : State) (k : SwitchNo) : State :=
  State.putSeq { s with fmu.switches := s.fmu.switches.set k none, fmu.reachTable := none } k { s.seq k with marker := none }

theorem State.restore_switch (s : State) (k : SwitchNo) :
    s.restore (.switch k) = ((s.withoutSwitch k).outOfService).withdrawRuntime k := rfl

theorem State.withdrawRuntime_same (s : State) (k : SwitchNo) : (s.withdrawRuntime k).runtime k = .start :=
  s.runtime_setRuntime_same k .start

theorem State.withdrawRuntime_other (s : State) {k j : SwitchNo} (other : j ≠ k) : (s.withdrawRuntime k).runtime j = s.runtime j :=
  s.runtime_setRuntime_other .start other

/-- The frame of the course out of service. -/
theorem State.outOfService_frame {s : State} (settled : s.settled) : s.outOfService.svu = s.svu ∧ s.outOfService.lines = s.lines
    ∧ s.outOfService.fsu = s.fsu ∧ s.outOfService.fmu = { s.fmu with mode := .commissioning }
    ∧ s.outOfService.sou.awaited = s.sou.awaited := by
  by_cases serving : s.fmu.mode = .service
  · have leave := State.outOfService_serving serving settled
    exact ⟨leave.svu, leave.lines, leave.fsu, leave.fmu, (congrArg Sou.awaited leave.sou :)⟩
  · have idle := State.outOfService_idle serving
    have mode : s.fmu.mode = .commissioning := by
      cases h : s.fmu.mode with
      | service => exact absurd h serving
      | commissioning => rfl
    rw [idle, ← mode]
    exact ⟨rfl, rfl, rfl, rfl, rfl⟩

section
variable {s : State} (working : s.working) (none_ : s.integrityExists = false) (settled : s.settled) (room : s.emptySlots 9)
include working none_ settled room

theorem firstFault_zone (z : ZoneNo) : ∃ t, exec (.scanPass [.zone z]) s = .next t.arbitrate
    ∧ s.FaultMet t (.zone z) (if isFeeder (.zone z) = true ∧ s.fmu.mode = .service then .mode else .integrity)
    ∧ t.fsu = s.fsu ∧ t.fmu = { s.fmu with mode := .commissioning, zones := s.fmu.zones.set z ⟨none, 0⟩, reachTable := none } := by
  have settled' : ((s.scanned (.zone z)).withoutZone z).settled := settled
  obtain ⟨svu, lines, fsu, fmu, -⟩ := State.outOfService_frame settled'
  have left := fun serving => State.outOfService_serving (s := (s.scanned (.zone z)).withoutZone z) serving settled'
  have restored : s.FeederRestored ((s.scanned (.zone z)).withoutZone z) ((s.scanned (.zone z)).withoutZone z).outOfService.recoded := by
    refine ⟨rfl, rfl, lines, fun _ h => h, ⟨rfl, ?_, ?_⟩, ⟨rfl, rfl, rfl, rfl⟩, fun serving => ?_⟩
    · exact (congrArg Svu.halted svu :).trans working.2.1
    · exact (congrArg Svu.scanTimer svu :)
    · have leave := left serving
      refine ⟨(congrArg Sou.routineTimer leave.sou :), (congrArg Sou.headTimer leave.sou :), fun k => ?_⟩
      obtain ⟨state, -, -, -, -, marker⟩ := leave.out k
      exact ⟨(congrArg Runtime.slot (leave.runtime k) :), (congrArg Runtime.pollWanted (leave.runtime k) :), state, marker⟩
  obtain ⟨t, taken, met, i, fault⟩ := firstFault_of (r := .zone z) working none_ ((congrArg Svu.badCodes svu :)) rfl
    (restored.restored (.inl ⟨z, rfl⟩) settled room)
  exact ⟨t, taken, met, fault.fsu.trans fsu, fault.fmu.trans fmu⟩

theorem firstFault_switch (k : SwitchNo) : ∃ t, exec (.scanPass [.switch k]) s = .next t.arbitrate
    ∧ s.FaultMet t (.switch k) (if isFeeder (.switch k) = true ∧ s.fmu.mode = .service then .mode else .integrity)
    ∧ t.fsu = s.fsu ∧ t.runtime k = Runtime.start ∧ (t.seq k).marker = none
    ∧ t.sou.awaited = s.sou.awaited.map (fun a => if a.switch = k then { a with withdrawn := true } else a)
    ∧ t.fmu = { s.fmu with mode := .commissioning, switches := s.fmu.switches.set k none, reachTable := none } := by
  let u := (s.scanned (.switch k)).withoutSwitch k
  have settled' : u.settled := settled
  have frame := State.outOfService_frame settled'
  have left := fun serving => State.outOfService_serving (s := u) serving settled'
  have unmarked : (u.outOfService.seq k).marker = none := by
    by_cases serving : u.fmu.mode = .service
    · exact ((left serving).out k).2.2.2.2.2
    · rw [State.outOfService_idle serving]
      exact (congrArg Sequence.marker (State.seq_putSeq_same _ k _) :)
  generalize body : u.outOfService = o at frame left unmarked
  obtain ⟨svu, lines, fsu, fmu, awaited⟩ := frame
  have restored : s.FeederRestored u (o.withdrawRuntime k).recoded := by
    refine ⟨(congrArg State.htu body).symm, (congrArg State.ehu body).symm, lines, ?_, ⟨rfl, ?_, ?_⟩, ⟨rfl, rfl, rfl, rfl⟩, fun serving => ?_⟩
    · rw [body]
      exact fun _ h => h
    · exact (congrArg Svu.halted svu :).trans working.2.1
    · exact (congrArg Svu.scanTimer svu :)
    · have leave := left serving
      refine ⟨(congrArg Sou.routineTimer leave.sou :), (congrArg Sou.headTimer leave.sou :), fun j => ?_⟩
      obtain ⟨state, -, -, -, -, marker⟩ := leave.out j
      have record : ((o.withdrawRuntime k).runtime j).slot = none ∧ ((o.withdrawRuntime k).runtime j).pollWanted = none := by
        by_cases here : j = k
        · rw [here, State.withdrawRuntime_same]
          exact ⟨rfl, rfl⟩
        · rw [State.withdrawRuntime_other _ here, leave.runtime j]
          exact ⟨rfl, rfl⟩
      exact ⟨record.1, record.2, state, marker⟩
  have whole : (s.scanned (.switch k)).restore (.switch k) = o.withdrawRuntime k :=
    (State.restore_switch _ k).trans (congrArg (State.withdrawRuntime · k) body)
  obtain ⟨t, taken, met, i, fault⟩ := firstFault_of (r := .switch k) working none_
    (by rw [whole]; exact (congrArg Svu.badCodes svu :)) (congrArg State.recoded whole)
    (restored.restored (.inr ⟨k, rfl⟩) settled room)
  refine ⟨t, taken, met, fault.fsu.trans fsu, ?_, ?_, ?_, fault.fmu.trans fmu⟩
  · rw [State.runtime_congr fault.sou]
    exact State.withdrawRuntime_same o k
  · rw [State.seq_of_rcs fault.rcs]
    exact unmarked
  · rw [fault.sou]
    exact (congrArg (Option.map fun a : Awaited => if a.switch = k then { a with withdrawn := true } else a) awaited :)

end

end Sys2Proof.Machine
end

section
/-! The restore of the setting groups (R79, R160), and what the consequences of a restore leave of the case. -/

namespace Sys2Proof.Machine

/-! ### The case goes on -/

theorem State.CaseGoesOn.refl (s : State) : s.CaseGoesOn s := .of_same rfl rfl

theorem State.CaseGoesOn.trans {s t u : State} (a : s.CaseGoesOn t) (b : t.CaseGoesOn u) : s.CaseGoesOn u :=
  ⟨fun h => b.waiting (a.waiting h), fun h => b.stepping (a.stepping h), b.pending.trans a.pending⟩

theorem State.CaseGoesOn.of_ehu {s t : State} (h : t.ehu = s.ehu) : s.CaseGoesOn t := .of_same (by rw [h]) (by rw [h])

theorem State.Attended.course {s t : State} (h : s.Attended t) : s.CaseGoesOn t := by
  obtain ⟨-, ehu, case_, -⟩ := h
  have pending : t.ehu.pendingAbandon = s.ehu.pendingAbandon := by rw [ehu]
  rcases case_ with stood | ⟨suspended, -, resumed⟩
  · exact .of_same (congrArg HuntCase.state stood) pending
  · refine ⟨fun _ => .inl (congrArg HuntCase.state resumed), fun stepping => ?_, pending⟩
    rw [suspended] at stepping
    cases stepping

theorem State.attemptStart_course (s : State) : s.CaseGoesOn s.attemptStart := by
  have failed : ∀ r, s.CaseGoesOn (s.attemptFailed r) := fun r => by
    unfold State.attemptFailed
    split
    · exact .of_same rfl rfl
    · exact .of_same rfl rfl
  unfold State.attemptStart
  split
  next passed =>
    have idle : s.ehu.huntCase.state = .idle := by_contra fun busy => by
      obtain ⟨c, fails, -⟩ := State.startChecks_undue (s := s) fun due => busy due.2.1
      rw [fails] at passed
      cases passed
    have ehu := s.startCase_ehu .auto s.ehu.params.essential
    refine ⟨fun waiting => ?_, fun stepping => ?_, (congrArg Ehu.pendingAbandon ehu :)⟩
    · rw [idle] at waiting
      rcases waiting with waiting | waiting <;> cases waiting
    · rw [idle] at stepping
      cases stepping
  · exact failed _
  · exact failed _

theorem State.departHold_course (s : State) (i : SlotNo) : s.CaseGoesOn (s.departHold i) := by
  have drop : ∀ (u : State) (o : Origin) (h : Handle), u.CaseGoesOn (u.dropHandle o h) := by
    intro u o h
    unfold State.dropHandle
    split
    · exact .of_same rfl rfl
    · split
      · exact .of_same rfl rfl
      · exact .refl u
    · exact .refl u
  have told : ∀ (u : State) (o : Origin), u.CaseGoesOn (u.reportDeparture o) := by
    intro u o
    unfold State.reportDeparture State.retryStart
    dsimp only
    split
    · split
      · exact u.attemptStart_course
      · exact .refl u
    · exact .refl u
  unfold State.departHold
  cases live : s.holdAt i with
  | none => exact .refl s
  | some r =>
    refine State.CaseGoesOn.trans ?_ (told _ _)
    rw [State.vacate_live live]
    have emptied : s.CaseGoesOn { s.emptied i with htu.counts := (s.emptied i).htu.counts.modify (· - 1) r.origin } := .of_same rfl rfl
    exact emptied.trans (drop _ _ _)

theorem State.adjustFire_course (s : State) (d : DistrictNo) : s.CaseGoesOn (s.adjustFire d) := by
  have placed : s.CaseGoesOn (s.placeFire d) := by
    obtain ⟨-, -, -, -, -, -, -, ehu, -⟩ := s.placeHold_frame (s.deviceHold .noReclose .plain .fire (s.districtZones d) (.district d))
    exact .of_ehu ehu
  have retired : s.CaseGoesOn (s.retireFire d) := by
    rw [State.retireFire_eq]
    split
    · exact .refl s
    · split
      · exact State.CaseGoesOn.trans (s.departHold_course _) (.of_same rfl rfl)
      · exact .of_same rfl rfl
  unfold State.adjustFire
  dsimp only
  split
  · split
    · exact placed
    · exact .refl s
  · exact retired

theorem foldl_adjustFire_course (ds : List DistrictNo) (s : State) : s.CaseGoesOn (ds.foldl State.adjustFire s) := by
  induction ds generalizing s with
  | nil => exact .refl s
  | cons d ds ih => exact (s.adjustFire_course d).trans (ih _)

theorem State.dangerTaken_course {profiles sequences : List SwitchNo} (hp : profiles.Nodup) (hs : sequences.Nodup) (s : State) :
    s.CaseGoesOn (s.dangerTaken profiles sequences) := by
  have reviewed := (State.reviewProfiles_spec hp s).1.ehu
  have evaluated := (State.reevaluateAll_spec hs (s.reviewProfiles profiles)).attended.course
  exact (State.CaseGoesOn.of_ehu reviewed).trans (evaluated.trans (.of_same rfl rfl))

/-! ### The setting groups (R79) -/

/-- The setting groups at their cold values. -/
def State.ungrouped (s : State) : State := { s with fsu.groups := .cold, fsu.staging := none }

theorem State.ungrouped_moved {s : State} (same : s.ungrouped.changedGroups s.fsu.groups = []) (d : DistrictNo) :
    Groups.cold.get (s.district d).effective = s.fsu.groups.get (s.district d).effective :=
  by_contra fun moved => by
    have mem : (s.district d).effective ∈ s.ungrouped.changedGroups s.fsu.groups :=
      State.mem_changedGroups.mpr ⟨Ne.symm moved, d, rfl⟩
    rw [same] at mem
    cases mem

/-- What the restore of the groups leaves. -/
structure State.Regrouped (s t : State) : Prop where
  fmu : t.fmu = s.fmu
  htu : t.htu = s.htu
  svu : t.svu = s.svu
  lines : t.lines = s.lines
  fsu : t.fsu = { s.fsu with groups := Groups.cold, staging := none }
  thresholds : t.ehu.thresholds = t.feederThresholds
  course : s.CaseGoesOn t
  told : (∃ d, Groups.cold.get (s.district d).effective ≠ s.fsu.groups.get (s.district d).effective) → t.noticed .level
  compared : s.profilesCompared t fun k => ∃ d, s.districtOf k = some d
    ∧ (Groups.cold.get (s.district d).effective).profile ≠ (s.fsu.groups.get (s.district d).effective).profile
  evaluated : s.sequencesReevaluated t fun k => ∃ d, s.districtOf k = some d
    ∧ Groups.cold.get (s.district d).effective ≠ s.fsu.groups.get (s.district d).effective

theorem State.restoreGroups_regrouped (s : State) : s.Regrouped s.restoreGroups := by
  have taken : s.restoreGroups = (s.ungrouped.groupConsequences s.fsu.groups).handThresholds := rfl
  rw [State.groupConsequences_eq] at taken
  by_cases quiet : s.ungrouped.changedGroups s.fsu.groups = []
  · rw [if_pos quiet] at taken
    have same := State.ungrouped_moved quiet
    rw [taken]
    refine ⟨rfl, rfl, rfl, rfl, rfl, rfl, .of_same rfl rfl, fun ⟨d, moved⟩ => absurd (same d) moved, fun k => ⟨rfl, ?_, fun _ => ⟨rfl, rfl⟩⟩,
      fun k => ⟨?_, fun _ => rfl⟩⟩
    · rintro code ⟨d, -, moved⟩
      exact absurd (congrArg Group.profile (same d)) moved
    · rintro n g ⟨⟨d, -, moved⟩, -⟩
      exact absurd (same d) moved
  · rw [if_neg quiet] at taken
    have hp : (s.ungrouped.profilesMoved s.fsu.groups).Nodup := State.switchesOf_nodup _ _
    have hs : (s.ungrouped.groupsMoved s.fsu.groups).Nodup := State.switchesOf_nodup _ _
    have profiles : ∀ k, k ∈ s.ungrouped.profilesMoved s.fsu.groups ↔ _ := fun k => State.mem_profilesMoved
    have groups : ∀ k, k ∈ s.ungrouped.groupsMoved s.fsu.groups ↔ _ := fun k => State.mem_groupsMoved
    have follows := State.dangerTaken_follows hp hs (s.ungrouped.notify .level)
    have course := State.dangerTaken_course hp hs (s.ungrouped.notify .level)
    generalize (s.ungrouped.notify .level).dangerTaken _ _ = u at *
    have fields := follows.others
    simp only [State.others, Prod.mk.injEq] at fields
    obtain ⟨-, -, lines, fmu, htu, fsu, svu⟩ := fields
    have start : s.CaseGoesOn (s.ungrouped.notify .level) := .of_same rfl rfl
    have finish : u.CaseGoesOn u.handThresholds := .of_same rfl rfl
    rw [taken]
    refine ⟨fmu, htu, svu, lines, fsu, rfl, start.trans (course.trans finish), fun _ => follows.notices _ (State.noticed_notify _ _),
      fun k => ⟨follows.runtime k, fun code picked required => ?_, fun still => ?_⟩, fun k => ⟨fun n g owed => ?_, fun none_ => ?_⟩⟩
    · obtain ⟨d, district, moved⟩ := picked
      exact follows.compared k code ((profiles k).mpr ⟨d, district, Ne.symm moved⟩) (State.configured_of_district district)
        ((State.requiredProfile_congr fmu fsu k).symm.trans required)
    · refine follows.unpicked k fun mem => still ?_
      obtain ⟨d, district, moved⟩ := (profiles k).mp mem
      exact ⟨d, district, Ne.symm moved⟩
    · obtain ⟨⟨d, district, moved⟩, state, group, fewer⟩ := owed
      exact follows.late k ((groups k).mpr ⟨d, district, Ne.symm moved⟩)
        ⟨n, g, state, (State.effectiveGroup_congr fmu fsu k).symm.trans group, fewer⟩
    · refine follows.stand k fun ⟨mem, n, g, state, group, fewer⟩ => ?_
      obtain ⟨d, district, moved⟩ := (groups k).mp mem
      exact none_ n g ⟨⟨d, district, Ne.symm moved⟩, state, (State.effectiveGroup_congr fmu fsu k).trans group, fewer⟩

end Sys2Proof.Machine
end

section
/-! A first fault of a setting group's record (R79, R160). -/

namespace Sys2Proof.Machine

theorem State.profilesCompared.carried {s m t : State} {picked : SwitchNo → Prop} (h : s.profilesCompared m picked) (sou : t.sou = m.sou)
    (fmu : t.fmu = m.fmu) (fsu : t.fsu = m.fsu) : s.profilesCompared t picked := by
  have runtime : ∀ k, t.runtime k = m.runtime k := State.runtime_congr sou
  intro k
  rw [runtime, State.requiredProfile_congr fmu fsu]
  exact h k

theorem State.sequencesReevaluated.carried {s m t : State} {picked : SwitchNo → Prop} (h : s.sequencesReevaluated m picked)
    (rcs : t.rcs = m.rcs) (fmu : t.fmu = m.fmu) (fsu : t.fsu = m.fsu) (notices : ∀ n, m.noticed n → t.noticed n) :
    s.sequencesReevaluated t picked := by
  intro k
  obtain ⟨late, stand⟩ := h k
  rw [State.seq_of_rcs rcs, State.effectiveGroup_congr fmu fsu]
  refine ⟨fun n g owed => ?_, stand⟩
  obtain ⟨locked, notice⟩ := late n g owed
  exact ⟨locked, notices _ notice⟩

section
variable {s : State} (working : s.working) (none_ : s.integrityExists = false) (room : s.emptySlots 9)
include working none_ room

theorem firstFault_group (l : Level) : ∃ t, exec (.scanPass [.group l]) s = .next t.arbitrate
    ∧ s.FaultMet t (.group l) .integrity
    ∧ t.fmu = s.fmu ∧ t.fsu = { s.fsu with groups := Groups.cold, staging := none } ∧ t.ehu.thresholds = t.feederThresholds
    ∧ ((∃ d, Groups.cold.get (s.district d).effective ≠ s.fsu.groups.get (s.district d).effective) → t.noticed .level)
    ∧ s.profilesCompared t (fun k => ∃ d, s.districtOf k = some d
      ∧ (Groups.cold.get (s.district d).effective).profile ≠ (s.fsu.groups.get (s.district d).effective).profile)
    ∧ s.sequencesReevaluated t fun k => ∃ d, s.districtOf k = some d
      ∧ Groups.cold.get (s.district d).effective ≠ s.fsu.groups.get (s.district d).effective := by
  obtain ⟨fmu, htu, svu, lines, fsu, thresholds, course, told, compared, evaluated⟩ := (s.scanned (.group l)).restoreGroups_regrouped
  have restores : (s.scanned (.group l)).restore (.group l) = (s.scanned (.group l)).restoreGroups := rfl
  generalize (s.scanned (.group l)).restoreGroups = m at *
  obtain ⟨waiting, stepping, pending⟩ := course
  obtain ⟨t, taken, met, i, fault⟩ := firstFault_of (r := .group l) (m := m.recoded) working none_
    (by rw [restores]; exact (congrArg Svu.badCodes svu :)) (congrArg State.recoded restores)
    (.of_table rfl ⟨rfl, (congrArg Svu.halted svu :).trans working.2.1, (congrArg Svu.scanTimer svu :)⟩ lines htu room
      fun _ => ⟨waiting, stepping, pending⟩)
  have thresholds' : t.ehu.thresholds = m.ehu.thresholds := (congrArg Ehu.thresholds fault.ehu :)
  refine ⟨t, taken, met, fault.fmu.trans fmu, fault.fsu.trans fsu, ?_, fun moved => fault.notices _ (told moved),
    compared.carried fault.sou fault.fmu fault.fsu, evaluated.carried fault.rcs fault.fmu fault.fsu fault.notices⟩
  rw [thresholds', thresholds]
  exact (State.feederThresholds_congr fault.fmu fault.fsu).symm

end

end Sys2Proof.Machine
end

section
/-! A first fault of a hold slot: the slot cleared and a FIRE hold so lost replaced (R36, R80, R160). -/

namespace Sys2Proof.Machine

/-! ### Room in the hold table -/

/-- A table in which every empty slot stays empty has the room it had. -/
theorem State.emptySlots_grows {s t : State} {n : Nat} (room : s.emptySlots n) (stay : ∀ i, s.holdAt i = none → t.holdAt i = none) :
    t.emptySlots n := by
  refine room.trans (List.Sublist.length_le (List.monotone_filter_right _ fun i empty => ?_))
  rw [Option.isNone_iff_eq_none] at empty ⊢
  exact stay i empty

theorem State.departHold_room {s : State} {n : Nat} (room : s.emptySlots n) (i : SlotNo) : (s.departHold i).emptySlots n :=
  State.emptySlots_grows room fun j empty => by
    rw [State.holdAt, State.departHold_slot]
    split
    · rfl
    · exact empty

/-! ### A slot cleared (R36) -/

/-- The departure of a FIRE hold has its district drop the handle (R35). -/
theorem State.departHold_drops {s : State} {i : SlotNo} {r : Hold} (live : s.holdAt i = some r) (origin : r.origin = .fire)
    {d : DistrictNo} (fire : (s.district d).fire = some (s.handleAt i)) : ((s.departHold i).district d).fire = none := by
  have told : s.departHold i = s.vacate i := by
    rw [State.departHold, live]
    simp only [State.reportDeparture, origin]
    rfl
  rw [told, State.vacate_live live, origin]
  simp only [State.dropHandle, State.district, Vector.getElem_ofFn, Fin.getElem_fin, District.dropHandle]
  exact (congrArg District.fire (if_pos fire) :)

/-- The district whose handle names a slot's hold, of those that do the first. -/
def State.fireOwner (s : State) (i : SlotNo) : Option DistrictNo :=
  allDistricts.find? fun d => (s.district d).fire == some (s.handleAt i)

theorem State.fireOwner_some {s : State} {i : SlotNo} {d : DistrictNo} (h : s.fireOwner i = some d) :
    (s.district d).fire = some (s.handleAt i) := by simpa using List.find?_some h

theorem State.fireOwner_only {s : State} {i : SlotNo} {d : DistrictNo} (fire : (s.district d).fire = some (s.handleAt i))
    (only : ∀ e, e ≠ d → (s.district e).fire ≠ some (s.handleAt i)) : s.fireOwner i = some d := by
  cases h : s.fireOwner i with
  | none => exact absurd (beq_iff_eq.mpr fire) (List.find?_eq_none.mp h d (mem_allDistricts d))
  | some e => exact congrArg some (by_contra fun other => only e other (State.fireOwner_some h))

theorem State.clearSlot_empty {s : State} {i : SlotNo} (empty : s.holdAt i = none) : s.clearSlot i = s.vacate i := by
  rw [State.clearSlot, empty]

theorem State.clearSlot_owned {s : State} {i : SlotNo} {r : Hold} {d : DistrictNo} (live : s.holdAt i = some r) (origin : r.origin = .fire)
    (owner : s.fireOwner i = some d) : s.clearSlot i = (s.departHold i).adjustFire d := by
  rw [State.fireOwner] at owner
  simp only [State.clearSlot, live, origin, owner]

theorem State.clearSlot_other {s : State} {i : SlotNo} {r : Hold} (live : s.holdAt i = some r)
    (other : r.origin ≠ .fire ∨ s.fireOwner i = none) : s.clearSlot i = s.departHold i := by
  simp only [State.clearSlot, live]
  split
  next origin owner =>
    rcases other with other | unowned
    · exact absurd origin other
    · exact absurd (unowned.symm.trans owner) nofun
  next => rfl

/-- What the clearing of a slot leaves. -/
structure State.SlotCleared (s t : State) (i : SlotNo) : Prop where
  fmu : t.fmu = s.fmu
  svu : t.svu = s.svu
  lines : t.lines = s.lines
  fsu : t.fsu = { s.fsu with districts := t.fsu.districts }
  useCount : (t.slot i).useCount = (s.slot i).useCount + 1
  stand : ∀ j, j ≠ i → (s.holdAt j).isSome = true → t.slot j = s.slot j
  room : t.emptySlots 1
  course : s.CaseGoesOn t
  replaced : ∀ r d, s.holdAt i = some r → r.origin = .fire → s.fireOwner i = some d → (s.district d).effective = .ban →
    s.districtZones d ≠ 0 → ∃ x, (t.district d).fire = some x ∧ t.liveHold x = some (s.fireHoldFor d)

theorem State.FireAdjusted.lines {s t : State} (h : s.FireAdjusted t) : t.lines = s.lines := State.view_lines h.departed.2.2.1

/-- The slot left empty is refilled at most by the FIRE hold of a district that has none. -/
theorem State.adjustFire_fills {s : State} {d : DistrictNo} (none_ : (s.district d).fire = none) {n : Nat} (room : s.emptySlots (n + 1)) :
    (∀ j, ((s.adjustFire d).slot j).useCount = (s.slot j).useCount)
      ∧ (∀ j, (s.holdAt j).isSome = true → (s.adjustFire d).slot j = s.slot j) ∧ (s.adjustFire d).emptySlots n
      ∧ ((s.district d).effective = .ban → s.districtZones d ≠ 0 → s.fireHoldPlaced (s.adjustFire d) d) := by
  by_cases due : (s.district d).effective = .ban ∧ s.districtZones d ≠ 0
  · obtain ⟨ban, zones⟩ := due
    obtain ⟨i, placed, room'⟩ := State.placeFire_room room d
    rw [State.adjustFire_places ban zones none_]
    refine ⟨fun j => ?_, fun j some_ => placed.slots j ?_, room', fun _ _ => placed.placed⟩
    · by_cases here : j = i
      · rw [here, placed.slot]
      · rw [placed.slots j here]
    · rintro rfl
      rw [placed.empty] at some_
      cases some_
  · rw [State.adjustFire_empty none_ due]
    exact ⟨fun _ => rfl, fun _ _ => rfl, State.emptySlots_mono (Nat.le_succ n) room, fun ban zones => absurd ⟨ban, zones⟩ due⟩

theorem State.clearSlot_cleared {s : State} (room : s.emptySlots 2) (i : SlotNo) : s.SlotCleared (s.clearSlot i) i := by
  cases live : s.holdAt i with
  | none =>
    have slots : ∀ j, (s.emptied i).slot j = if i = j then ⟨none, (s.slot i).useCount + 1⟩ else s.slot j := fun j => by
      rw [← State.vacate_empty live, State.vacate_slot]
    rw [State.clearSlot_empty live, State.vacate_empty live]
    refine ⟨rfl, rfl, rfl, rfl, by rw [slots, if_pos rfl], fun j other _ => by rw [slots, if_neg (Ne.symm other)], ?_, .of_same rfl rfl,
      fun r _ some_ => ?_⟩
    · refine State.emptySlots_grows (State.emptySlots_mono (Nat.le_succ 1) room) fun j empty => ?_
      rw [State.holdAt, slots]
      split
      · rfl
      · exact empty
    · rw [live] at some_
      cases some_
  | some r =>
    have slots := s.departHold_slot i
    have adjusted := s.departHold_adjusted i
    have course := s.departHold_course i
    have room' := s.departHold_room room i
    have here : ((s.departHold i).slot i).useCount = (s.slot i).useCount + 1 := by rw [slots, if_pos ⟨rfl, by rw [live]; rfl⟩]
    have stand : ∀ j, j ≠ i → (s.departHold i).slot j = s.slot j := fun j other => (slots j).trans (if_neg fun h => other h.1)
    by_cases owned : r.origin = .fire ∧ ∃ d, s.fireOwner i = some d
    · obtain ⟨origin, d, owner⟩ := owned
      have none_ := State.departHold_drops live origin (State.fireOwner_some owner)
      obtain ⟨counts, kept, left, placed⟩ := State.adjustFire_fills none_ room'
      have after := adjusted.trans ((s.departHold i).adjustFire_adjusted d)
      rw [State.clearSlot_owned live origin owner]
      refine ⟨after.fmu, after.svu, after.lines, after.fsu, (counts i).trans here, fun j other some_ => ?_, left,
        course.trans ((s.departHold i).adjustFire_course d), fun r' e some_ origin' owner' ban zones => ?_⟩
      · refine (kept j ?_).trans (stand j other)
        rw [State.holdAt, stand j other]
        exact some_
      · rw [owner] at owner'
        cases owner'
        obtain ⟨x, fire, hold, -⟩ := placed ((adjusted.effective d).trans ban)
          (by rw [show (s.departHold i).districtZones d = s.districtZones d from congrArg Hold.scope (adjusted.fireHoldFor d)]; exact zones)
        exact ⟨x, fire, hold.trans (congrArg some (adjusted.fireHoldFor d))⟩
    · have other : r.origin ≠ .fire ∨ s.fireOwner i = none := by
        by_cases origin : r.origin = .fire
        · exact .inr (Option.eq_none_iff_forall_ne_some.mpr fun d owner => owned ⟨origin, d, owner⟩)
        · exact .inl origin
      rw [State.clearSlot_other live other]
      refine ⟨adjusted.fmu, adjusted.svu, adjusted.lines, adjusted.fsu, here, fun j other _ => stand j other,
        State.emptySlots_mono (Nat.le_succ 1) room', course, fun r' d some_ origin' owner => ?_⟩
      rw [live] at some_
      cases some_
      exact absurd ⟨origin', d, owner⟩ owned

section
variable {s : State} (working : s.working) (none_ : s.integrityExists = false) (room : s.emptySlots 9)
include working none_ room

theorem firstFault_slot (i : SlotNo) : ∃ t, exec (.scanPass [.slot i]) s = .next t.arbitrate
    ∧ s.FaultMet t (.slot i) .integrity
    ∧ t.liveHold (s.handleAt i) = none ∧ (t.slot i).useCount = (s.slot i).useCount + 1
    ∧ t.fmu = s.fmu ∧ t.fsu.groups = s.fsu.groups
    ∧ ∀ h d, s.holdAt i = some h → h.origin = .fire → (s.district d).fire = some (s.handleAt i) →
        (∀ e, e ≠ d → (s.district e).fire ≠ some (s.handleAt i)) → (s.district d).effective = .ban → s.districtZones d ≠ 0 →
        ∃ h', (t.district d).fire = some h' ∧ t.liveHold h' = some (s.fireHoldFor d) := by
  have room' : (s.scanned (.slot i)).emptySlots 2 := State.emptySlots_mono (s := s) (by omega) room
  obtain ⟨fmu, svu, lines, fsu, useCount, stand, left, course, replaced⟩ := State.clearSlot_cleared room' i
  have restores : (s.scanned (.slot i)).restore (.slot i) = (s.scanned (.slot i)).clearSlot i := rfl
  generalize (s.scanned (.slot i)).clearSlot i = m at *
  obtain ⟨waiting, stepping, pending⟩ := course
  obtain ⟨t, taken, met, j, fault⟩ := firstFault_of (r := .slot i) (m := m.recoded) working none_
    (by rw [restores]; exact (congrArg Svu.badCodes svu :)) (congrArg State.recoded restores)
    (.of_course rfl ⟨rfl, (congrArg Svu.halted svu :).trans working.2.1, (congrArg Svu.scanTimer svu :)⟩ lines left
      (fun k other some_ => stand k (fun same => other (congrArg RecordId.slot same.symm)) some_) fun _ => ⟨waiting, stepping, pending⟩)
  have counts : ∀ k, (t.slot k).useCount = (m.slot k).useCount := fun k => by
    by_cases here : k = j
    · rw [here, fault.slot]
      rfl
    · rw [fault.slots k here]
      rfl
  have advanced : (t.slot i).useCount = (s.slot i).useCount + 1 := (counts i).trans useCount
  refine ⟨t, taken, met, if_neg fun same => ?_, advanced, fault.fmu.trans fmu, ?_, fun h d live origin fire only ban zones => ?_⟩
  · exact UseCount.succ_ne (s.slot i).useCount (advanced.symm.trans same)
  · rw [fault.fsu]
    exact (congrArg Fsu.groups fsu :)
  · obtain ⟨x, handle, hold⟩ := replaced h d live origin (State.fireOwner_only fire only) ban zones
    refine ⟨x, (congrArg District.fire (State.district_congr fault.fsu d)).trans handle, ?_⟩
    have kept : t.slot x.slot = m.recoded.slot x.slot := fault.slots x.slot fun here => by
      have empty := fault.empty
      rw [← here] at empty
      rw [State.liveHold_of_empty (s := m) empty] at hold
      cases hold
    exact (State.liveHold_of_slot kept).trans hold

end

end Sys2Proof.Machine
end

section
/-! A first fault of the season and district record (R79, R160). -/

namespace Sys2Proof.Machine

/-! ### FIRE holds placed where they are wanting (R74) -/

/-- The number of districts without a FIRE hold. -/
def State.unheld (s : State) : Nat := (allDistricts.filter fun d => (s.district d).fire.isNone).length

theorem State.unheld_le (s : State) : s.unheld ≤ 8 := (List.length_filter_le _ _).trans (List.length_finRange).le

theorem State.unheld_congr {s t : State} (h : ∀ d, (t.district d).fire = (s.district d).fire) : t.unheld = s.unheld := by
  simp only [State.unheld, h]

/-- A district that gains its FIRE hold. -/
theorem State.FirePlaced.unheld {s t : State} {d : DistrictNo} {i : SlotNo} (h : s.FirePlaced t d i) (none_ : (s.district d).fire = none) :
    t.unheld + 1 = s.unheld := by
  have counted := length_filter_update allDistricts d (mem_allDistricts d) (List.nodup_finRange 8) (fun e => (s.district e).fire.isNone)
    (fun e => (t.district e).fire.isNone) fun e other => by simp only [h.districts e other]
  simpa [State.unheld, h.fire, none_] using counted

/-- What filling in the FIRE holds of districts at BAN leaves. -/
structure State.FiresFilled (s t : State) (ds : List DistrictNo) : Prop where
  live : t.fireHandlesLive
  stand : ∀ i, (s.holdAt i).isSome = true → t.slot i = s.slot i
  held : ∀ d ∈ ds, s.districtZones d ≠ 0 → (t.district d).fire.isSome = true
  kept : ∀ d, (s.district d).fire.isSome = true → (t.district d).fire = (s.district d).fire
  room : ∀ n, s.emptySlots (n + s.unheld) → t.emptySlots (n + t.unheld)

theorem foldl_adjustFire_fills (ds : List DistrictNo) {s : State} (live : s.fireHandlesLive)
    (ban : ∀ d ∈ ds, (s.district d).effective = .ban) {n : Nat} (room : s.emptySlots (n + s.unheld)) :
    s.FiresFilled (ds.foldl State.adjustFire s) ds := by
  induction ds generalizing s with
  | nil => exact ⟨live, fun _ _ => rfl, nofun, fun _ _ => rfl, fun _ h => h⟩
  | cons d ds ih =>
    have level := ban d List.mem_cons_self
    have ban' : ∀ e ∈ ds, (s.district e).effective = .ban := fun e mem => ban e (List.mem_cons_of_mem _ mem)
    rw [List.foldl_cons]
    by_cases due : s.districtZones d ≠ 0 ∧ (s.district d).fire = none
    case neg =>
      have idle : s.districtZones d = 0 ∨ (s.district d).fire.isSome = true := by
        rw [not_and_or, not_not, ← ne_eq, Option.ne_none_iff_isSome] at due
        exact due
      rw [State.adjustFire_stands level idle]
      obtain ⟨live', stand, held, kept, left⟩ := ih live ban' room
      refine ⟨live', stand, fun e mem zones => ?_, kept, left⟩
      rcases List.mem_cons.mp mem with rfl | mem
      · have some_ := idle.resolve_left zones
        rw [kept e some_]
        exact some_
      · exact held e mem zones
    case pos =>
      obtain ⟨zones, none_⟩ := due
      have some_ : s.unheld ≠ 0 := by
        refine Nat.ne_of_gt (List.length_pos_of_mem (List.mem_filter.mpr ⟨mem_allDistricts d, ?_⟩))
        rw [none_]
        rfl
      obtain ⟨i, placed, -⟩ := State.placeFire_room (n := 0) (State.emptySlots_mono (by omega) room) d
      have fewer := placed.unheld none_
      have adjusted := s.placeFire_adjusted d
      have room' : ∀ m, s.emptySlots (m + s.unheld) → (s.placeFire d).emptySlots (m + (s.placeFire d).unheld) := fun m h => by
        rw [← fewer] at h
        exact State.emptySlots_filled h placed.slots
      rw [State.adjustFire_places level zones none_]
      obtain ⟨live', stand, held, kept, left⟩ := ih (s := s.placeFire d) (fireHandlesLive_base.placeFire live level)
        (fun e mem => (adjusted.effective e).trans (ban' e mem)) (room' n room)
      refine ⟨live', fun j some_ => ?_, fun e mem zones' => ?_, fun e some_ => ?_, fun m h => left m (room' m h)⟩
      · have elsewhere : j ≠ i := fun same => by
          rw [same, placed.empty] at some_
          cases some_
        have same := placed.slots j elsewhere
        exact (stand j (by rw [State.holdAt, same]; exact some_)).trans same
      · rcases List.mem_cons.mp mem with rfl | mem
        · have here : ((s.placeFire e).district e).fire.isSome = true := by
            rw [placed.fire]
            rfl
          rw [kept e here]
          exact here
        · refine held e mem ?_
          rw [show (s.placeFire d).districtZones e = s.districtZones e from congrArg Hold.scope (adjusted.fireHoldFor e)]
          exact zones'
      · have other : e ≠ d := fun same => by
          rw [same, none_] at some_
          cases some_
        have same := placed.districts e other
        rw [kept e (by rw [same]; exact some_), same]

/-! ### What the adjustment of the FIRE holds leaves of a level change (R73) -/

theorem State.FireAdjusted.group {s t : State} (h : s.FireAdjusted t) (k : SwitchNo) :
    t.effectiveGroup k = s.effectiveGroup k ∧ t.requiredProfile k = s.requiredProfile k := by
  have groups : t.fsu.groups = s.fsu.groups := by rw [h.fsu]
  have own : t.groupOfDistrict = s.groupOfDistrict := funext fun d => by
    simp only [State.groupOfDistrict, State.group, groups, h.effective]
  have group : t.effectiveGroup k = s.effectiveGroup k := by
    simp only [State.effectiveGroup, State.districtOf_congr h.fmu, own]
  exact ⟨group, congrArg (Option.map Group.profile) group⟩

theorem State.levelChangeFollows.adjusted {s t u : State} (follows : s.levelChangeFollows t) (h : t.FireAdjusted u) :
    s.levelChangeFollows u := by
  have runtime : ∀ k, u.runtime k = { t.runtime k with pollWanted := (u.runtime k).pollWanted } := h.polls
  have seq : ∀ k, u.seq k = t.seq k := State.seq_of_rcs h.departed.2.1
  obtain ⟨profiles, sequences⟩ := follows
  refine ⟨fun k => ?_, fun k => ?_⟩
  · obtain ⟨frame, compared, still⟩ := profiles k
    have same : (u.runtime k).profileState = (t.runtime k).profileState ∧ (u.runtime k).pushWanted = (t.runtime k).pushWanted := by
      rw [runtime k]
      exact ⟨rfl, rfl⟩
    simp only [h.effective, (h.group k).2, same.1, same.2]
    refine ⟨?_, compared, still⟩
    rw [runtime k, frame]
  · obtain ⟨late, stand⟩ := sequences k
    simp only [h.effective, (h.group k).1, seq k]
    refine ⟨fun n g owed => ?_, stand⟩
    obtain ⟨locked, notice⟩ := late n g owed
    exact ⟨locked, h.departed.2.2.2 _ notice⟩

end Sys2Proof.Machine
end

section
/-! A first fault of the season and district record: its restore, with the level change and the FIRE holds it asks for (R79, R160). -/

namespace Sys2Proof.Machine

/-! ### The level change of the restore -/

/-- Filling in the FIRE holds looks at the hold table and the districts' records alone. -/
theorem State.FiresFilled.congr {s s' t t' : State} {ds : List DistrictNo} (h : s.FiresFilled t ds) (htu : s'.htu = s.htu)
    (fire : ∀ d, (s'.district d).fire = (s.district d).fire) (zones : ∀ d, s'.districtZones d = s.districtZones d)
    (htu' : t'.htu = t.htu) (district : ∀ d, t'.district d = t.district d) : s'.FiresFilled t' ds := by
  obtain ⟨live, stand, held, kept, room⟩ := h
  have unheld := State.unheld_congr fire
  have unheld' : t'.unheld = t.unheld := State.unheld_congr fun d => congrArg District.fire (district d)
  refine ⟨State.fireHandlesLive_congr district htu' live, fun i some_ => ?_, fun d mem present => ?_, fun d some_ => ?_, fun n left => ?_⟩
  · rw [State.holdAt_congr htu] at some_
    rw [State.slot_congr htu', State.slot_congr htu, stand i some_]
  · rw [zones] at present
    rw [district]
    exact held d mem present
  · rw [fire] at some_ ⊢
    rw [district]
    exact kept d some_
  · rw [unheld, State.emptySlots] at left
    rw [unheld', State.emptySlots]
    simp only [State.holdAt_congr htu] at left
    simp only [State.holdAt_congr htu']
    exact room n left

/-- A level change that puts every district at BAN fills in the FIRE holds of those it changes. -/
theorem State.applyLevels_fills {s : State} (live : s.fireHandlesLive) (ban : ∀ d, s.levelOfDistrict d = .ban) {n : Nat}
    (room : s.emptySlots (n + s.unheld)) : s.FiresFilled s.applyLevels s.changedDistricts := by
  by_cases quiet : ∀ d, s.levelOfDistrict d = (s.district d).effective
  · rw [State.applyLevels_quiet quiet, State.changedDistricts_eq_nil.mpr quiet]
    exact ⟨live, fun _ _ => rfl, nofun, fun _ _ => rfl, fun _ h => h⟩
  · obtain ⟨htu, districts, -⟩ := s.applyLevels_table (not_forall.mp quiet)
    have table := s.setLevels_htu
    have district : ∀ d, (s.setLevels.notify .level).district d = { s.district d with effective := s.levelOfDistrict d } :=
      fun d => s.setLevels_district d
    have fire : ∀ d, ((s.setLevels.notify .level).district d).fire = (s.district d).fire := fun d => by rw [district]
    have live' : (s.setLevels.notify .level).fireHandlesLive := fun d x named => by
      rw [fire] at named
      rw [State.liveHold_of_slot (State.slot_congr table x.slot)]
      exact live d x named
    have room' : (s.setLevels.notify .level).emptySlots (n + (s.setLevels.notify .level).unheld) := by
      rw [State.unheld_congr fire, State.emptySlots]
      simp only [State.holdAt_congr table]
      exact room
    have filled := foldl_adjustFire_fills s.changedDistricts live' (fun d _ => by rw [district]; exact ban d) room'
    exact filled.congr table.symm (fun d => (fire d).symm) (fun d => ((s.setLevels_fireHoldFor d).2).symm) htu districts

theorem State.applyLevels_course (s : State) : s.CaseGoesOn s.applyLevels := by
  have set : s.CaseGoesOn s.setLevels := .of_ehu (by rw [s.setLevels_spec]; rfl)
  rw [State.applyLevels_eq]
  split
  · exact set
  · have told : s.setLevels.CaseGoesOn (s.setLevels.notify .level) := .of_same rfl rfl
    exact (set.trans told).trans ((foldl_adjustFire_course _ _).trans
      (State.dangerTaken_course (s.switchesOf_nodup _) (s.switchesOf_nodup _) _))

/-! ### The season and the districts (R79) -/

/-- The season and every district at their cold values, the FIRE handles as the table has them. -/
def State.redistricted (s : State) : State :=
  let t := (s.loseReservations fun r => match r with | .district _ _ => true | .hold _ _ => false).notify .level
  { t with
    fsu.season := .inSeason
    fsu.districts := Vector.ofFn fun d => ⟨.ban, (t.district d).effective, 0, t.fireHoldOf d⟩ }

theorem State.restoreDistricts_eq (s : State) : s.restoreDistricts = allDistricts.foldl State.adjustFire s.redistricted.applyLevels := rfl

theorem State.redistricted_district (s : State) (d : DistrictNo) :
    s.redistricted.district d = ⟨.ban, (s.district d).effective, 0, s.fireHoldOf d⟩ := by
  simp only [State.redistricted, State.district, Vector.getElem_ofFn, Fin.getElem_fin]
  rfl

theorem State.redistricted_live (s : State) : s.redistricted.fireHandlesLive := by
  intro d x named
  rw [State.redistricted_district] at named
  exact State.fireHoldOf_live named

theorem State.redistricted_ban (s : State) (d : DistrictNo) : s.redistricted.levelOfDistrict d = .ban := by
  rw [State.levelOfDistrict_eq, State.redistricted_district, show s.redistricted.fsu.season = .inSeason from rfl]
  cases s.redistricted.fsu.tfb <;> rfl

theorem State.redistricted_unreserved (s : State) (p : Port) (d : DistrictNo) (v : Version) :
    (s.redistricted.port p).reservation ≠ some (.district d v) := by
  have same : (s.redistricted.port p).reservation
      = ((s.loseReservations fun r => match r with | .district _ _ => true | .hold _ _ => false).port p).reservation := by
    cases p <;> rfl
  rw [same, State.loseReservations_port]
  split
  · nofun
  next kept =>
    intro held
    rw [held] at kept
    exact kept rfl

/-- What the restore of the season and the districts leaves. -/
structure State.DistrictsRestored (s t : State) : Prop where
  fmu : t.fmu = s.fmu
  svu : t.svu = s.svu
  lines : t.lines = s.lines
  fsu : t.fsu = { s.fsu with season := .inSeason, districts := t.fsu.districts }
  district : ∀ d, (t.district d).declared = .ban ∧ (t.district d).effective = .ban ∧ (t.district d).version = 0
  held : ∀ d, s.districtZones d ≠ 0 → ∃ x r, (t.district d).fire = some x ∧ t.liveHold x = some r ∧ r.origin = .fire
    ∧ r.cause = some (.district d)
  unreserved : ∀ p d v, (t.port p).reservation ≠ some (.district d v)
  told : t.noticed .level
  stand : ∀ i, (s.holdAt i).isSome = true → t.slot i = s.slot i
  room : t.emptySlots 1
  course : s.CaseGoesOn t
  follows : s.levelChangeFollows t

theorem State.restoreDistricts_restored {s : State} (room : s.emptySlots 9) : s.DistrictsRestored s.restoreDistricts := by
  rw [State.restoreDistricts_eq]
  have district := s.redistricted_district
  have ban := s.redistricted_ban
  have unreserved := s.redistricted_unreserved
  have table : s.redistricted.htu = s.htu := rfl
  have room' : s.redistricted.emptySlots (1 + s.redistricted.unheld) := by
    have few := s.redistricted.unheld_le
    rw [State.emptySlots] at room ⊢
    simp only [State.holdAt_congr table]
    omega
  have told : s.redistricted.noticed .level :=
    State.noticed_notify (s.loseReservations fun r => match r with | .district _ _ => true | .hold _ _ => false) .level
  have frame : s.redistricted.fmu = s.fmu ∧ s.redistricted.svu = s.svu ∧ s.redistricted.lines = s.lines ∧ s.redistricted.sou = s.sou
      ∧ s.redistricted.rcs = s.rcs ∧ s.redistricted.ehu = s.ehu
      ∧ s.redistricted.fsu = { s.fsu with season := .inSeason, districts := s.redistricted.fsu.districts } :=
    ⟨rfl, rfl, rfl, rfl, rfl, rfl, rfl⟩
  have filled := State.applyLevels_fills s.redistricted_live ban room'
  have course := s.redistricted.applyLevels_course
  have zones : ∀ d, s.redistricted.districtZones d = s.districtZones d := fun _ => rfl
  generalize s.redistricted = u at *
  obtain ⟨fmu, svu, lines, sou, rcs, ehu, fsu⟩ := frame
  have levels := u.applyLevels_relevelled
  have zones' : ∀ d, u.applyLevels.districtZones d = s.districtZones d := fun d => by
    rw [← zones]
    simp only [State.districtZones, State.zoneInfo, State.zone, levels.fmu]
  generalize u.applyLevels = v at *
  have atBan : ∀ d, (v.district d).effective = .ban := fun d => by
    rw [levels.district]
    exact ban d
  have rest := foldl_adjustFire_fills allDistricts filled.live (fun d _ => atBan d) (filled.room 1 room')
  have adjusted := foldl_adjustFire_adjusted allDistricts v
  have course' := foldl_adjustFire_course allDistricts v
  generalize allDistricts.foldl State.adjustFire v = t at *
  refine ⟨adjusted.fmu.trans (levels.fmu.trans fmu), adjusted.svu.trans (levels.svu.trans svu),
    adjusted.lines.trans (levels.lines.trans lines), by rw [adjusted.fsu, levels.fsu, fsu], fun d => ?_, fun d present => ?_,
    fun p d v' held => unreserved p d v' ((levels.registers p d v').mp ((adjusted.reservations p d v').mp held)).1,
    adjusted.departed.2.2.2 _ (levels.notices _ told), fun i some_ => ?_, State.emptySlots_mono (by omega) (rest.room 1 (filled.room 1 room')),
    (State.CaseGoesOn.of_ehu ehu).trans (course.trans course'), ?_⟩
  · rw [adjusted.level d, levels.district d, district d]
    exact ⟨rfl, ban d, rfl⟩
  · rw [← zones'] at present
    obtain ⟨x, fire⟩ := Option.isSome_iff_exists.mp (rest.held d (mem_allDistricts d) present)
    obtain ⟨r, hold, origin, cause⟩ := rest.live d x fire
    exact ⟨x, r, fire, hold, origin, cause⟩
  · have first := (filled.stand i (by rw [State.holdAt_congr table]; exact some_)).trans (State.slot_congr table i)
    exact (rest.stand i (by rw [State.holdAt, first]; exact some_)).trans first
  · exact (levels.follows.before fmu sou rcs svu fun d => by rw [district d]).adjusted adjusted

section
variable {s : State} (working : s.working) (none_ : s.integrityExists = false) (room : s.emptySlots 9)
include working none_ room

theorem firstFault_seasonDistrict : ∃ t, exec (.scanPass [.seasonDistrict]) s = .next t.arbitrate
    ∧ s.FaultMet t .seasonDistrict .integrity
    ∧ t.fmu = s.fmu ∧ t.noticed .level ∧ t.fsu.groups = s.fsu.groups ∧ t.fsu.tfb = s.fsu.tfb
    ∧ t.fsu.staging = s.fsu.staging ∧ t.fsu.season = .inSeason
    ∧ (∀ p d v, (t.port p).reservation ≠ some (.district d v))
    ∧ ∀ d, (t.district d).declared = .ban ∧ (t.district d).effective = .ban ∧ (t.district d).version = 0
        ∧ (s.districtZones d ≠ 0 → ∃ h hold, (t.district d).fire = some h ∧ t.liveHold h = some hold
            ∧ hold.origin = .fire ∧ hold.cause = some (.district d))
        ∧ s.levelChangeFollows t := by
  have room' : (s.scanned .seasonDistrict).emptySlots 9 := room
  obtain ⟨fmu, svu, lines, fsu, district, held, unreserved, told, stand, left, course, follows⟩ := State.restoreDistricts_restored room'
  have restores : (s.scanned .seasonDistrict).restore .seasonDistrict = (s.scanned .seasonDistrict).restoreDistricts := rfl
  generalize (s.scanned .seasonDistrict).restoreDistricts = m at *
  obtain ⟨waiting, stepping, pending⟩ := course
  obtain ⟨t, taken, met, i, fault⟩ := firstFault_of (r := .seasonDistrict) (m := m.recoded) working none_
    (by rw [restores]; exact (congrArg Svu.badCodes svu :)) (congrArg State.recoded restores)
    (.of_course rfl ⟨rfl, (congrArg Svu.halted svu :).trans working.2.1, (congrArg Svu.scanTimer svu :)⟩ lines left
      (fun k _ some_ => stand k some_) fun _ => ⟨waiting, stepping, pending⟩)
  have fsu' : t.fsu = m.fsu := fault.fsu
  have same : ∀ d, t.district d = m.district d := State.district_congr fsu'
  obtain ⟨profiles, sequences⟩ := follows
  have compared := State.profilesCompared.carried (m := m) (t := t) profiles fault.sou fault.fmu fault.fsu
  have evaluated := State.sequencesReevaluated.carried (m := m) (t := t) sequences fault.rcs fault.fmu fault.fsu fault.notices
  simp only [← same] at compared evaluated
  refine ⟨t, taken, met, fault.fmu.trans fmu, fault.notices _ told, ?_, ?_, ?_, ?_, fun p d v reserved => ?_, fun d => ?_⟩
  · rw [fsu', fsu]
    rfl
  · rw [fsu', fsu]
    rfl
  · rw [fsu', fsu]
    rfl
  · rw [fsu', fsu]
  · rw [fault.registers] at reserved
    exact unreserved p d v reserved
  · obtain ⟨declared, effective, version⟩ := district d
    rw [same]
    refine ⟨declared, effective, version, fun present => ?_, compared, evaluated⟩
    obtain ⟨x, r, fire, hold, origin, cause⟩ := held d present
    refine ⟨x, r, fire, ?_, origin, cause⟩
    have kept : t.slot x.slot = m.recoded.slot x.slot := fault.slots x.slot fun here => by
      have empty := fault.empty
      rw [← here] at empty
      rw [State.liveHold_of_empty (s := m) empty] at hold
      cases hold
    exact (State.liveHold_of_slot kept).trans hold

end

end Sys2Proof.Machine
end

section
/-! What follows the end of an operation: the RCS's and the EHU's own operations, and the requests they ask for (R89, R145). -/

namespace Sys2Proof.Machine

/-! ### What the sequences and the case leave alone -/

/-- The sequences and the case leave the settings, the clock and the lines alone, of the feeder model all but the suspicion counts, and
of the records of the switches all but the slot, the last result and the polls wanted. -/
structure State.Followed (s t : State) : Prop where
  fsu : t.fsu = s.fsu
  svu : t.svu = s.svu
  lines : t.lines = s.lines
  fmu : t.fmu = { s.fmu with zones := t.fmu.zones }
  zoneInfo : ∀ z, t.zoneInfo z = s.zoneInfo z
  sou : t.sou = { s.sou with runtime := t.sou.runtime }
  runtime : ∀ j, t.runtime j = { s.runtime j with
    slot := (t.runtime j).slot, lastResult := (t.runtime j).lastResult, pollWanted := (t.runtime j).pollWanted }
  notices : ∀ n, s.noticed n → t.noticed n

theorem State.Followed.refl (s : State) : s.Followed s := ⟨rfl, rfl, rfl, rfl, fun _ => rfl, rfl, fun _ => rfl, fun _ h => h⟩

theorem State.Followed.trans {s t u : State} (a : s.Followed t) (b : t.Followed u) : s.Followed u :=
  ⟨b.fsu.trans a.fsu, b.svu.trans a.svu, b.lines.trans a.lines, by rw [b.fmu, a.fmu], fun z => (b.zoneInfo z).trans (a.zoneInfo z),
    by rw [b.sou, a.sou], fun j => by rw [b.runtime j, a.runtime j], fun n h => b.notices n (a.notices n h)⟩

theorem State.zoneInfo_congr {s t : State} (fmu : t.fmu = s.fmu) (z : ZoneNo) : t.zoneInfo z = s.zoneInfo z := by
  simp only [State.zoneInfo, State.zone, fmu]

/-- The hold table, the sequences and the EHU's records alone. -/
theorem State.Followed.of_link {s t : State} (lines : t.lines = s.lines) (fmu : t.fmu = s.fmu) (fsu : t.fsu = s.fsu)
    (sou : t.sou = s.sou) (svu : t.svu = s.svu) (notices : ∀ n, s.noticed n → t.noticed n) : s.Followed t :=
  ⟨fsu, svu, lines, by rw [fmu], State.zoneInfo_congr fmu, by rw [sou], fun j => by rw [State.runtime_congr sou], notices⟩

theorem State.notify_followed (s : State) (n : Notice) : s.Followed (s.notify n) :=
  .of_link rfl rfl rfl rfl rfl fun _ h => State.noticed_kept _ _ _ h

/-- The records that no RCS and no EHU writes, with the polls wanted. -/
theorem State.Followed.of_others {s t : State} (others : t.others = s.others) (sou : t.sou = { s.sou with runtime := t.sou.runtime })
    (polls : ∀ j, t.runtime j = { s.runtime j with pollWanted := (t.runtime j).pollWanted })
    (notices : ∀ n, s.noticed n → t.noticed n) : s.Followed t := by
  simp only [State.others, Prod.mk.injEq] at others
  obtain ⟨-, -, lines, fmu, -, fsu, svu⟩ := others
  exact ⟨fsu, svu, lines, by rw [fmu], State.zoneInfo_congr fmu, sou, fun j => by rw [polls j], notices⟩

theorem State.Polled.followed {s t : State} (h : s.Polled t) : s.Followed t := by
  obtain ⟨others, -, rqi, sou, polls⟩ := h
  exact .of_others others sou polls fun _ h => State.noticed_of_rqi rqi h

theorem State.Told.followed {k : SwitchNo} {s t : State} (h : s.Told k t) : s.Followed t :=
  .of_others h.others h.sou h.runtime fun _ => h.noticed

theorem State.Followed.config {s t : State} (h : s.Followed t) (k : SwitchNo) : t.config k = s.config k := by
  have switches : t.fmu.switches = s.fmu.switches := by rw [h.fmu]
  simp only [State.config, switches]

theorem State.Followed.group {s t : State} (h : s.Followed t) (k : SwitchNo) :
    t.effectiveGroup k = s.effectiveGroup k ∧ t.requiredProfile k = s.requiredProfile k := by
  have inForce : t.groupOfDistrict = s.groupOfDistrict := by
    funext d
    simp only [State.groupOfDistrict, State.group, State.district, h.fsu]
  have group : t.effectiveGroup k = s.effectiveGroup k := by
    simp only [State.effectiveGroup, State.districtOf, h.config, inForce, h.zoneInfo]
  exact ⟨group, congrArg (Option.map Group.profile) group⟩

/-- The slot and the last result of a switch written. -/
theorem State.setRuntime_followed {s : State} {k : SwitchNo} {r : Runtime}
    (h : r = { s.runtime k with slot := r.slot, lastResult := r.lastResult, pollWanted := r.pollWanted }) : s.Followed (s.setRuntime k r) := by
  refine ⟨rfl, rfl, rfl, rfl, fun _ => rfl, rfl, fun j => ?_, fun _ h => h⟩
  by_cases here : j = k
  · rw [here, State.runtime_setRuntime_same]
    exact h
  · rw [State.runtime_setRuntime_other _ _ here]

/-! ### A request of a slot (R89, R90) -/

theorem State.endInSlot_followed (s : State) (k : SwitchNo) (q : OpRequest) (res : OpResult) : s.Followed (s.endInSlot k q res) := by
  have recorded : s.Followed (s.recordResult k q res) := (State.setRuntime_followed rfl).trans (State.notify_followed _ _)
  exact recorded.trans (State.rcsResult_told _ k _ _ _).followed

theorem State.enterSlot_followed (s : State) (k : SwitchNo) (q : OpRequest) : s.Followed (s.enterSlot k q).1 := by
  unfold State.enterSlot
  split
  · exact s.endInSlot_followed k q _
  · exact State.setRuntime_followed rfl

theorem State.requestByBlock_followed (s : State) (k : SwitchNo) (q : OpRequest) : s.Followed (s.requestByBlock k q).1 := by
  unfold State.requestByBlock
  split
  · exact .refl s
  · split
    · exact .refl s
    · unfold State.requestSlot
      split
      · exact State.setRuntime_followed rfl
      · have emptied : s.Followed (s.setRuntime k { s.runtime k with slot := none }) := State.setRuntime_followed rfl
        exact (emptied.trans (State.endInSlot_followed _ _ _ _)).trans (State.enterSlot_followed _ _ _)
      · exact .refl s
      · exact s.enterSlot_followed k q

/-! ### The conclusions (R152, R153) -/

theorem State.concludeAbandoned_followed (s : State) (r : AbandonReason) : s.Followed (s.concludeAbandoned r) :=
  .of_link rfl rfl rfl rfl rfl fun _ h => State.noticed_kept _ _ _ h

theorem State.placeHold_notices (s : State) (r : Hold) (n : Notice) (h : s.noticed n) : (s.placeHold r).1.noticed n := by
  unfold State.placeHold
  split
  · exact h
  · exact State.noticed_kept _ _ _ h

theorem State.concludeWithHold_followed (s : State) (r : ResultKind) (kind : HoldKind) (z : ZoneSet) :
    s.Followed (s.concludeWithHold r kind z) := by
  obtain ⟨fmu, fsu, sou, -, svu⟩ := s.concludeWithHold_frame r kind z
  obtain ⟨-, -, lines, -⟩ := (s.concludeCase r).placeHold_frame
    ((s.concludeCase r).deviceHold kind .plain .hunt z (.huntCase (s.concludeCase r).ehu.huntCase.number))
  refine .of_link lines fmu fsu sou svu fun n h => ?_
  exact State.noticed_kept _ _ _ (State.placeHold_notices (s.concludeCase r) _ n h)

theorem State.nameLeftOpen_followed (s : State) (k : SwitchNo) (r : LeftOpenReason) : s.Followed (s.nameLeftOpen k r) :=
  .of_link rfl rfl rfl rfl rfl fun _ h => h

theorem State.isolateFound_followed (s : State) (k : SwitchNo) : s.Followed (s.isolateFound k) := by
  have asked := s.requestByBlock_followed k (.hunt .toOpen)
  unfold State.isolateFound
  split
  · generalize s.requestByBlock k (.hunt .toOpen) = x at asked
    obtain ⟨t, answer⟩ := x
    cases answer
    case taken => exact asked.trans (t.nameLeftOpen_followed k .foundIsolate)
    all_goals exact asked
  · exact .refl s

theorem State.raiseSuspicion_followed (s : State) (z : ZoneSet) : s.Followed (s.raiseSuspicion z) := by
  obtain ⟨fsu, svu, lines, sou, rqi, fmu⟩ : (s.raiseSuspicion z).fsu = s.fsu ∧ (s.raiseSuspicion z).svu = s.svu
      ∧ (s.raiseSuspicion z).lines = s.lines ∧ (s.raiseSuspicion z).sou = s.sou ∧ (s.raiseSuspicion z).rqi = s.rqi
      ∧ (s.raiseSuspicion z).fmu = { s.fmu with zones := (s.raiseSuspicion z).fmu.zones } := by
    unfold State.raiseSuspicion
    exact ⟨rfl, rfl, rfl, rfl, rfl, rfl⟩
  exact ⟨fsu, svu, lines, fmu, s.raiseSuspicion_zoneInfo z, by rw [sou], fun j => by rw [State.runtime_congr sou],
    fun _ h => State.noticed_of_rqi rqi h⟩

theorem State.foundHeld_followed (s : State) (k : SwitchNo) : s.Followed (s.foundHeld k) := by
  have named : ∀ t : State, t.Followed { t with ehu.huntCase.found := some k } := fun _ => .of_link rfl rfl rfl rfl rfl fun _ h => h
  have concluded := s.concludeWithHold_followed .found .noClose (s.segment k)
  rw [State.foundHeld]
  generalize s.concludeWithHold .found .noClose (s.segment k) = t at *
  exact (concluded.trans (named t)).trans (State.raiseSuspicion_followed _ _)

theorem State.concludeFound_followed (s : State) (k : SwitchNo) : s.Followed (s.concludeFound k) :=
  (s.foundHeld_followed k).trans (State.isolateFound_followed _ _)

theorem State.concludeByCandidates_followed (s : State) : s.Followed s.concludeByCandidates := by
  unfold State.concludeByCandidates
  split
  · exact s.concludeFound_followed _
  · exact s.concludeWithHold_followed _ _ _

/-! ### The steps (R138 to R147) -/

theorem State.suspendCase_followed (s : State) (p : Suspension) : s.Followed (s.suspendCase p) := by
  have suspended : s.Followed (State.notify
      { s with ehu.huntCase.state := .suspended, ehu.huntCase.listen := .stopped, ehu.huntCase.suspension := some p } .hunt) :=
    .of_link rfl rfl rfl rfl rfl fun _ h => State.noticed_kept _ _ _ h
  exact suspended.trans (State.checkResume_polled _).followed

theorem State.beginStep_followed (s : State) (k : SwitchNo) : s.Followed (s.beginStep k) := by
  have begun : s.Followed { s with
      ehu.huntCase.state := .stepping, ehu.huntCase.step := some ⟨k, .opening, none⟩, ehu.disturbed := false, ehu.deciding := none
      ehu.pendingCause := none, ehu.pendingAbandon := none } := .of_link rfl rfl rfl rfl rfl fun _ h => h
  exact begun.trans (State.requestByBlock_followed _ _ _)

theorem State.choose_followed (s : State) : s.Followed s.choose := by
  unfold State.choose
  split
  · exact s.concludeFound_followed _
  · split
    · exact s.concludeWithHold_followed _ _ _
    · split
      · exact s.concludeWithHold_followed _ _ _
      · exact s.beginStep_followed _

theorem State.afterStep_followed (s : State) (k : SwitchNo) (o : StepOutcome) (own : OwnCourse) : s.Followed (s.afterStep k o own) := by
  unfold State.afterStep
  split
  · exact s.concludeAbandoned_followed _
  · exact s.concludeByCandidates_followed
  · exact s.concludeWithHold_followed _ _ _
  · split
    · exact s.suspendCase_followed _
    · split
      · exact s.suspendCase_followed _
      · exact s.choose_followed

theorem State.endStep_followed (s : State) (k : SwitchNo) (o : StepOutcome) (own : OwnCourse) : s.Followed (s.endStep k o own) := by
  have closed : s.Followed { s with
      ehu.huntCase := s.ehu.huntCase.closeStep k o, ehu.settleTimer := .stopped, ehu.observeTimer := .stopped } :=
    .of_link rfl rfl rfl rfl rfl fun _ h => h
  exact closed.trans (State.afterStep_followed _ _ _ _)

theorem State.closeBackHeld_followed (s : State) (k : SwitchNo) (o : StepOutcome) (failed : Bool) :
    s.Followed (s.closeBackHeld k o failed) := (s.nameLeftOpen_followed k .held).trans (State.endStep_followed _ _ _ _)

theorem State.openEnded_followed (s : State) (k : SwitchNo) (res : OpResult) : s.Followed (s.openEnded k res) := by
  have named := s.nameLeftOpen_followed k .noCloseBack
  cases res with
  | done => exact .of_link rfl rfl rfl rfl rfl fun _ h => h
  | already | cancelled | refusedByUnit => exact s.endStep_followed _ _ _
  | noAnswer => exact named.trans (State.endStep_followed _ _ _ _)
  | noMove =>
    unfold State.openEnded
    dsimp only
    split
    · exact named.trans (State.endStep_followed _ _ _ _)
    · exact s.endStep_followed _ _ _
  | heldAtDispatch | preEmpted => exact .refl s

theorem State.closeBackEnded_followed (s : State) (k : SwitchNo) (o : StepOutcome) (res : OpResult) :
    s.Followed (s.closeBackEnded k o res) := by
  cases res with
  | done | already => exact s.endStep_followed _ _ _
  | heldAtDispatch | cancelled | refusedByUnit | noAnswer | noMove => exact s.closeBackHeld_followed _ _ _
  | preEmpted => exact .refl s

theorem State.disturb_followed (s : State) : s.Followed s.disturb := by
  unfold State.disturb
  split
  · exact .of_link rfl rfl rfl rfl rfl fun _ h => h
  · exact .refl s

theorem State.huntResult_followed (s : State) (k : SwitchNo) (q : OpRequest) (res : OpResult) (changed : Bool) :
    s.Followed (s.huntResult k q res changed) := by
  unfold State.huntResult
  split
  · exact .refl s
  · split
    · split
      · exact s.disturb_followed
      · exact .refl s
    · split
      · exact .refl s
      · split
        · exact s.openEnded_followed _ _
        · exact s.closeBackEnded_followed _ _ _
        · exact .refl s

/-! ### The end of a request, and of an operation (R85, R86, R89) -/

theorem State.endRequest_followed (s : State) (k : SwitchNo) (q : OpRequest) (res : OpResult) : s.Followed (s.endRequest k q res) :=
  (s.endInSlot_followed k q res).trans (State.huntResult_followed _ _ _ _ _)

theorem State.cancelClose_followed (s : State) (k : SwitchNo) : s.Followed (s.cancelClose k) := by
  have emptied : s.Followed (s.setRuntime k { s.runtime k with slot := none }) := State.setRuntime_followed rfl
  unfold State.cancelClose
  split
  · exact emptied.trans (State.endRequest_followed _ _ _ _)
  · exact .refl s

theorem State.cancelSlot_followed (s : State) (k : SwitchNo) : s.Followed (s.cancelSlot k) := by
  have emptied : s.Followed (s.setRuntime k { s.runtime k with slot := none }) := State.setRuntime_followed rfl
  unfold State.cancelSlot
  split
  · exact emptied.trans (State.endRequest_followed _ _ _ _)
  · exact .refl s

theorem State.causeArises_followed (s : State) (p : Suspension) : s.Followed (s.causeArises p) := by
  have pended : ∀ u : State, u.Followed (u.pendCause p) := fun u => by
    unfold State.pendCause
    split
    · exact .refl u
    · exact .of_link rfl rfl rfl rfl rfl fun _ h => h
  unfold State.causeArises
  split
  · exact s.suspendCase_followed p
  · exact s.disturb_followed.trans (pended _)
  · exact .refl s

theorem State.conditionReport_followed (s : State) (k : SwitchNo) : s.Followed (s.conditionReport k) := by
  unfold State.conditionReport
  split
  · exact s.checkResume_polled.followed
  · split
    · exact s.causeArises_followed _
    · exact .refl s

end Sys2Proof.Machine
end

section
/-! A check failure found by the scan, first and second (R158 to R161). -/

namespace Sys2Proof.Machine

/-! ### The restores leave the check codes alone -/

theorem foldl_rcsLeave_svu (ks : List SwitchNo) (s : State) : (ks.foldl State.rcsLeave s).svu = s.svu := by
  induction ks generalizing s with
  | nil => rfl
  | cons k ks ih => exact (ih _).trans (s.rcsLeave_told k).svu

theorem foldl_cancelSlot_svu (ks : List SwitchNo) (s : State) : (ks.foldl State.cancelSlot s).svu = s.svu := by
  induction ks generalizing s with
  | nil => rfl
  | cons k ks ih => exact (ih _).trans (s.cancelSlot_followed k).svu

theorem State.leaveService_svu (s : State) : s.leaveService.svu = s.svu := by
  have first : s.modeLeft.svu = s.svu := (congrArg State.svu (State.abandonCase_spec { s with fmu.mode := .commissioning } .mode).frame :)
  have left : s.linkLeft.svu = s.modeLeft.svu := by
    rw [State.linkLeft, State.stopPolls_svu]
    exact foldl_cancelSlot_svu allSwitches s.modeLeft
  have sequences : s.linkLeft.rcsLeaveService.svu = s.linkLeft.svu := foldl_rcsLeave_svu allSwitches s.linkLeft
  rw [State.leaveService_eq]
  generalize s.linkLeft.rcsLeaveService = u at *
  exact sequences.trans (left.trans first)

theorem State.outOfService_svu (s : State) : s.outOfService.svu = s.svu := by
  unfold State.outOfService
  split
  · exact s.leaveService_svu
  · rfl

theorem State.clearSlot_svu (s : State) (i : SlotNo) : (s.clearSlot i).svu = s.svu := by
  cases live : s.holdAt i with
  | none =>
    rw [State.clearSlot_empty live, State.vacate_empty live]
    rfl
  | some r =>
    have departed := (s.departHold_adjusted i).svu
    by_cases owned : r.origin = .fire ∧ ∃ d, s.fireOwner i = some d
    · obtain ⟨origin, d, owner⟩ := owned
      rw [State.clearSlot_owned live origin owner]
      exact ((s.departHold i).adjustFire_adjusted d).svu.trans departed
    · have other : r.origin ≠ .fire ∨ s.fireOwner i = none := by
        by_cases origin : r.origin = .fire
        · exact .inr (Option.eq_none_iff_forall_ne_some.mpr fun d owner => owned ⟨origin, d, owner⟩)
        · exact .inl origin
      rw [State.clearSlot_other live other]
      exact departed

theorem State.restoreMinute_badCodes (s : State) : s.restoreMinute.svu.badCodes = s.svu.badCodes := by
  unfold State.restoreMinute State.setTimeState
  dsimp only
  split
  · rfl
  · rw [if_neg nofun]
    rfl

theorem State.restoreCase_svu (s : State) : s.restoreCase.svu = s.svu := by
  unfold State.restoreCase State.rearmWatch
  dsimp only
  split
  · split <;> rfl
  · rfl

theorem State.withdrawRuntime_svu (s : State) (k : SwitchNo) : (s.withdrawRuntime k).svu = s.svu := rfl

theorem State.restore_badCodes (s : State) (r : RecordId) : (s.restore r).svu.badCodes = s.svu.badCodes := by
  cases r with
  | slot i => exact (congrArg Svu.badCodes (s.clearSlot_svu i) :)
  | group l => exact (congrArg Svu.badCodes s.restoreGroups_regrouped.svu :)
  | seasonDistrict =>
    have levels := s.redistricted.applyLevels_relevelled.svu
    have fires := (foldl_adjustFire_adjusted allDistricts s.redistricted.applyLevels).svu
    rw [show s.restore .seasonDistrict = s.restoreDistricts from rfl, State.restoreDistricts_eq, fires, levels]
    rfl
  | zone z => rw [State.restore_zone, State.outOfService_svu, State.withoutZone]
  | switch k => rw [State.restore_switch, State.withdrawRuntime_svu, State.outOfService_svu, State.withoutSwitch, State.putSeq_svu]
  | huntCase => exact (congrArg Svu.badCodes s.restoreCase_svu :)
  | minuteCount => exact s.restoreMinute_badCodes
  | huntParameters | linkSettings | startCause => rfl

/-! ### The second fault (R161) -/

theorem secondFault_halts {s : State} (working : s.working) (exists_ : s.integrityExists = true) (r : RecordId) :
    ∃ t : State, exec (.scanPass [r]) s = .next t ∧ t.svu.halted = true ∧ t.svu.startCause.haltMark = true ∧ t.noticed .integrity
      ∧ t.svu.badCodes = [] ∧ t.svu.haltStatus.isSome = true := by
  have mended : (s.scanned r).mended r = ((s.scanned r).restore r).recoded := State.mended_eq ((s.scanned r).restore_badCodes r)
  obtain ⟨t, fault, still, svu, -, notice, -⟩ := State.secondFault_halts (s := ((s.scanned r).restore r).recoded) rfl
  have taken : (s.scanned r).takeFault r = t := by
    rw [State.takeFault_eq, show (s.scanned r).integrityExists = true from exists_, if_pos rfl, mended]
    exact fault
  have sound : t.svu.badCodes = [] := by
    rw [svu]
    rfl
  have passed := State.scan_fault working (by rw [taken]; exact sound)
  rw [taken, State.arbitrate_idle still] at passed
  refine ⟨t, congrArg Host.Outcome.next passed, by rw [svu], by rw [svu], notice, sound, ?_⟩
  rw [svu]
  rfl

/-! ### The first fault (R158, R160) -/

/-- What a first fault leaves, in the words of the statement. -/
theorem State.FaultMet.told {s : State} {r : RecordId} {reason : AbandonReason} {own : State → Prop}
    (h : ∃ t, exec (.scanPass [r]) s = .next t.arbitrate ∧ s.FaultMet t r reason ∧ own t) :
    ∃ t : State, exec (.scanPass [r]) s = .next t.arbitrate
      ∧ t.integrityExists = true ∧ t.noticed .integrity ∧ t.noticed .hold
      ∧ t.svu.halted = false ∧ t.svu.badCodes = [] ∧ t.svu.scanTimer = .running 600 600 ∧ t.lines = s.lines
      ∧ (∀ i, r ≠ .slot i → (s.holdAt i).isSome = true → t.slot i = s.slot i)
      ∧ (r ≠ .huntCase →
          (s.ehu.huntCase.state = .locating ∨ s.ehu.huntCase.state = .suspended → t.noticed .hunt
            ∧ t.ehu.huntCase.state = .concluded ∧ t.ehu.huntCase.result = some .abandoned ∧ t.ehu.huntCase.abandon = some reason) ∧
          (s.ehu.huntCase.state = .stepping → t.ehu.pendingAbandon = some (s.ehu.reasonOr reason)
            ∧ (¬ s.leavesFor r → t.ehu.huntCase.state = .stepping)))
      ∧ (s.leavesFor r → t.ehu.watch = Watch.start ∧ t.sou.routineTimer = .stopped ∧ t.sou.headTimer = .stopped
          ∧ ∀ k, (t.runtime k).slot = none ∧ (t.runtime k).pollWanted = none ∧ (t.seq k).state = .outOfService
              ∧ (t.seq k).marker = none)
      ∧ own t := by
  obtain ⟨t, taken, ⟨exists_, integrity, hold, running, sound, timer, lines, stand, course, left⟩, own⟩ := h
  exact ⟨t, taken, exists_, integrity, hold, running, sound, timer, lines, stand, course, left, own⟩

/-- Settles O55. -/
theorem firstFaultRestoresTheRecord : Obligations.FirstFaultRestoresTheRecord := by
  unfold Obligations.FirstFaultRestoresTheRecord
  intro s r working
  refine ⟨fun none_ settled room => ?_, fun exists_ => secondFault_halts working exists_ r⟩
  cases r with
  | slot i => exact State.FaultMet.told (firstFault_slot working none_ room i)
  | zone z => exact State.FaultMet.told (firstFault_zone working none_ settled room z)
  | switch k => exact State.FaultMet.told (firstFault_switch working none_ settled room k)
  | group l => exact State.FaultMet.told (firstFault_group working none_ room l)
  | seasonDistrict => exact State.FaultMet.told (firstFault_seasonDistrict working none_ room)
  | huntParameters => exact State.FaultMet.told (firstFault_huntParameters working none_ room)
  | huntCase => exact State.FaultMet.told (firstFault_huntCase working none_ room)
  | linkSettings => exact State.FaultMet.told (firstFault_linkSettings working none_ room)
  | minuteCount => exact State.FaultMet.told (firstFault_minuteCount working none_ room)
  | startCause => exact State.FaultMet.told (firstFault_startCause working none_ room)

end Sys2Proof.Machine
end

section
/-! The end of a step of the hunt, and what becomes of the case afterwards (R145 to R149). -/

namespace Sys2Proof.Machine

/-! ### A suspension, left at once for a trip with no sequence running (R147) -/

/-- The case suspended for a cause, or in LOCATING where the cause is a trip whose stopping condition is over. -/
def State.suspendedCase (s : State) (p : Suspension) : HuntCase :=
  if p.kind = .trip ∧ s.ehu.runningCount = 0 then
    { s.ehu.huntCase with
      state := .locating, suspension := none, clearedInWindow := false, listen := .start (10 * s.ehu.params.listen) }
  else { s.ehu.huntCase with state := .suspended, listen := .stopped, suspension := some p }

theorem State.suspendCase_spec (s : State) (p : Suspension) :
    (s.suspendCase p).ehu = { s.ehu with huntCase := s.suspendedCase p } ∧ (s.suspendCase p).noticed .hunt := by
  have told : (s.suspendCase p).noticed .hunt :=
    State.noticed_of_rqi (State.checkResume_polled _).2.2.1 (State.noticed_notify _ _)
  refine ⟨?_, told⟩
  unfold State.suspendCase State.suspendedCase
  obtain ⟨kind, k⟩ := p
  generalize suspended : State.notify
    { s with ehu.huntCase.state := .suspended, ehu.huntCase.listen := .stopped, ehu.huntCase.suspension := some ⟨kind, k⟩ } .hunt = w
  have ehu : w.ehu = { s.ehu with
      huntCase := { s.ehu.huntCase with state := .suspended, listen := .stopped, suspension := some ⟨kind, k⟩ } } := by
    rw [← suspended]
    rfl
  have state : w.ehu.huntCase.state = .suspended := by rw [ehu]
  have cause : w.ehu.huntCase.suspension = some ⟨kind, k⟩ := by rw [ehu]
  unfold State.checkResume
  rw [state, cause]
  cases kind with
  | trip =>
    dsimp only
    have stops : w.stillStopped ⟨.trip, k⟩ = true ↔ s.ehu.runningCount ≠ 0 := by
      rw [State.stillStopped, ehu]
      simp
    by_cases quiet : s.ehu.runningCount = 0
    · rw [if_neg (by rw [stops]; exact not_not.mpr quiet), if_pos ⟨rfl, quiet⟩]
      unfold State.resumeCase
      rw [State.enterLocating_ehu]
      dsimp only
      rw [ehu]
    · rw [if_pos (stops.mpr quiet), if_neg fun h => quiet h.2]
      exact ehu
  | switchFailed =>
    rw [if_neg (by rintro ⟨⟨⟩, -⟩)]
    exact ehu
  | headSilent =>
    rw [if_neg (by rintro ⟨⟨⟩, -⟩)]
    exact ehu

/-! ### A conclusion, whatever it concludes (R152) -/

/-- What a conclusion makes of the case. -/
structure State.CaseConcluded (s t : State) (r : ResultKind) : Prop where
  case_ : t.ehu.huntCase = { s.ehu.huntCase with
    state := .concluded, listen := .stopped, result := some r, holdHandle := t.ehu.huntCase.holdHandle
    found := t.ehu.huntCase.found, leftOpen := t.ehu.huntCase.leftOpen, abandon := t.ehu.huntCase.abandon }
  settle : t.ehu.settleTimer = .stopped
  observe : t.ehu.observeTimer = .stopped
  told : t.noticed .hunt
  leftOpen : ∀ e ∈ s.ehu.huntCase.leftOpen, e ∈ t.ehu.huntCase.leftOpen

theorem State.concludeAbandoned_concluded (s : State) (r : AbandonReason) : s.CaseConcluded (s.concludeAbandoned r) .abandoned :=
  ⟨rfl, rfl, rfl, State.noticed_notify _ _, fun _ h => h⟩

theorem State.concludeWithHold_concluded (s : State) (r : ResultKind) (kind : HoldKind) (z : ZoneSet) :
    s.CaseConcluded (s.concludeWithHold r kind z) r := by
  have ehu := s.concludeWithHold_ehu r kind z
  have told : (s.concludeWithHold r kind z).noticed .hunt := by
    rw [State.concludeWithHold_eq]
    exact State.noticed_notify _ _
  generalize s.concludeWithHold r kind z = t at *
  refine ⟨?_, (congrArg Ehu.settleTimer ehu :), (congrArg Ehu.observeTimer ehu :), told, fun e mem => ?_⟩
  · rw [ehu]
    rfl
  · rw [ehu]
    exact mem

theorem State.concludeFound_concluded (s : State) (k : SwitchNo) : s.CaseConcluded (s.concludeFound k) .found := by
  have held := s.foundHeld_ehu k
  obtain ⟨-, -, -, -, -, rqi⟩ := s.foundHeld_frame k
  have quiet : (s.foundHeld k).ehu.huntCase.state ≠ .suspended := by
    rw [held]
    nofun
  obtain ⟨-, ehu, notices⟩ := State.isolateFound_frame quiet k
  have leftOpen := State.isolateFound_leftOpen quiet k
  have told : (s.foundHeld k).noticed .hunt := State.noticed_of_rqi rqi (s.concludeWithHold_concluded .found .noClose (s.segment k)).told
  rw [State.concludeFound_eq]
  generalize s.foundHeld k = u at *
  generalize u.isolateFound k = t at *
  refine ⟨?_, ?_, ?_, notices _ told, fun e mem => leftOpen e ?_⟩
  · rw [ehu, held]
    rfl
  · rw [ehu, held]
  · rw [ehu, held]
  · rw [held]
    exact mem

theorem State.concludeByCandidates_concluded (s : State) :
    s.CaseConcluded s.concludeByCandidates (if s.ehu.huntCase.candidates.length = 1 then .found else .narrowed) := by
  unfold State.concludeByCandidates
  split
  next k one =>
    rw [one]
    exact s.concludeFound_concluded k
  next more =>
    rw [if_neg fun one => ?_]
    · exact s.concludeWithHold_concluded _ _ _
    · obtain ⟨k, single⟩ := List.length_eq_one_iff.mp one
      exact more k single

/-! ### A choosing (R138) -/

/-- The EHU's records with a step begun. -/
def Ehu.begun (e : Ehu) (j : SwitchNo) : Ehu :=
  { e with
    huntCase := { e.huntCase with state := .stepping, step := some ⟨j, .opening, none⟩ }
    disturbed := false, deciding := none, pendingCause := none, pendingAbandon := none }

theorem State.testable_of_pick {s : State} {k : SwitchNo} (picked : s.pickTest = some k) : s.testable k = true := by
  have some_ : ∃ j, s.testable j = true := by
    by_contra none_
    rw [State.pickTest_none fun j => by simpa using fun testable => none_ ⟨j, testable⟩] at picked
    cases picked
  obtain ⟨j, best, testable, -⟩ := State.pickTest_spec some_
  rw [picked] at best
  cases best
  exact testable

theorem State.choose_spec (s : State) : (∃ r, (r = .found ∨ r = .narrowed ∨ r = .limit) ∧ s.CaseConcluded s.choose r)
    ∨ ∃ j, s.choose.ehu = s.ehu.begun j := by
  unfold State.choose
  split
  · exact .inl ⟨_, .inl rfl, s.concludeFound_concluded _⟩
  · split
    · exact .inl ⟨_, .inr (.inr rfl), s.concludeWithHold_concluded _ _ _⟩
    · split
      · exact .inl ⟨_, .inr (.inl rfl), s.concludeWithHold_concluded _ _ _⟩
      next k picked =>
        rw [State.beginStep_eq (State.testable_of_pick picked)]
        exact .inr ⟨k, rfl⟩

/-! ### The end of a step (R145) -/

theorem HuntCase.closeStep_spec (c : HuntCase) (k : SwitchNo) (o : StepOutcome) : c.closeStep k o = { c with
    step := none, stepsTaken := c.stepsTaken + 1
    inconclusive := if o = .inconclusive then c.inconclusive.set k (c.inconclusive[k] + 1) else c.inconclusive
    noRetest := if o = .failed ∨ (o = .inconclusive ∧ 2 ≤ c.inconclusive[k] + 1) then c.noRetest ||| (1#16 <<< k.val)
      else c.noRetest } := by
  cases o <;> simp [HuntCase.closeStep]

/-- The state in which the end of a step decides what becomes of the case. -/
def State.stepClosed (s : State) (k : SwitchNo) (o : StepOutcome) : State :=
  { s with ehu.huntCase := s.ehu.huntCase.closeStep k o, ehu.settleTimer := .stopped, ehu.observeTimer := .stopped }

theorem State.endStep_eq (s : State) (k : SwitchNo) (o : StepOutcome) (own : OwnCourse) :
    s.endStep k o own = (s.stepClosed k o).afterStep k o own := rfl

theorem State.afterStep_abandons {s : State} {r : AbandonReason} (pending : s.ehu.pendingAbandon = some r) (k : SwitchNo)
    (o : StepOutcome) (own : OwnCourse) : s.afterStep k o own = s.concludeAbandoned r := by
  unfold State.afterStep
  rw [pending]

/-- What the end of a step makes of the case, by the course it takes. -/
theorem State.afterStep_course {s : State} (none_ : s.ehu.pendingAbandon = none) (k : SwitchNo) (o : StepOutcome) (own : OwnCourse) :
    match own with
    | .byCandidates => s.CaseConcluded (s.afterStep k o own) (if s.ehu.huntCase.candidates.length = 1 then .found else .narrowed)
    | .narrowed => s.CaseConcluded (s.afterStep k o own) .narrowed
    | .continues =>
      if o = .failed then s.afterStep k o own = s.suspendCase ⟨.switchFailed, k⟩
      else match s.ehu.pendingCause with
        | some p => s.afterStep k o own = s.suspendCase p
        | none => s.afterStep k o own = s.choose := by
  unfold State.afterStep
  rw [none_]
  cases own with
  | byCandidates => exact s.concludeByCandidates_concluded
  | narrowed => exact s.concludeWithHold_concluded _ _ _
  | continues =>
    by_cases failed : o = .failed
    · simp only [failed, beq_self_eq_true, if_true]
    · have other : ¬ (o == .failed) = true := by simpa using failed
      simp only [if_neg failed, if_neg other]
      cases s.ehu.pendingCause with
      | none => rfl
      | some p => rfl

/-- The counts of the case after a step (R145). -/
structure State.StepCounted (s t : State) (k : SwitchNo) (o : StepOutcome) : Prop where
  steps : t.ehu.huntCase.stepsTaken = s.ehu.huntCase.stepsTaken + 1
  inconclusive : t.ehu.huntCase.inconclusive = if o = .inconclusive then
    s.ehu.huntCase.inconclusive.set k (s.ehu.huntCase.inconclusive[k] + 1) else s.ehu.huntCase.inconclusive
  noRetest : t.ehu.huntCase.noRetest = if o = .failed ∨ (o = .inconclusive ∧ 2 ≤ s.ehu.huntCase.inconclusive[k] + 1) then
    s.ehu.huntCase.noRetest ||| (1#16 <<< k.val) else s.ehu.huntCase.noRetest
  settle : t.ehu.settleTimer = .stopped
  observe : t.ehu.observeTimer = .stopped

theorem State.stepClosed_counted (s : State) (k : SwitchNo) (o : StepOutcome) :
    s.StepCounted (s.stepClosed k o) k o ∧ (s.stepClosed k o).ehu.huntCase.step = none := by
  rw [State.stepClosed, HuntCase.closeStep_spec]
  exact ⟨⟨rfl, rfl, rfl, rfl, rfl⟩, rfl⟩

/-- The counts stand where the fields that hold them do. -/
theorem State.StepCounted.kept {s w t : State} {k : SwitchNo} {o : StepOutcome} (h : s.StepCounted w k o)
    (steps : t.ehu.huntCase.stepsTaken = w.ehu.huntCase.stepsTaken)
    (inconclusive : t.ehu.huntCase.inconclusive = w.ehu.huntCase.inconclusive)
    (noRetest : t.ehu.huntCase.noRetest = w.ehu.huntCase.noRetest) (settle : t.ehu.settleTimer = .stopped)
    (observe : t.ehu.observeTimer = .stopped) : s.StepCounted t k o :=
  ⟨steps.trans h.steps, inconclusive.trans h.inconclusive, noRetest.trans h.noRetest, settle, observe⟩

/-- A conclusion keeps the counts, and no step is under way after it. -/
theorem State.StepCounted.concluded {s w t : State} {k : SwitchNo} {o : StepOutcome} {r : ResultKind} (h : s.StepCounted w k o)
    (none_ : w.ehu.huntCase.step = none) (ends : w.CaseConcluded t r) : s.StepCounted t k o
      ∧ (t.ehu.huntCase.state = .concluded ∧ t.ehu.huntCase.step = none ∧ t.ehu.huntCase.result = some r ∧ t.noticed .hunt)
      ∧ t.ehu.huntCase.candidates = w.ehu.huntCase.candidates := by
  have case_ := ends.case_
  refine ⟨h.kept ?_ ?_ ?_ ends.settle ends.observe, ⟨?_, ?_, ?_, ends.told⟩, ?_⟩
  all_goals rw [case_]
  exact none_

theorem State.StepCounted.suspended {s w : State} {k : SwitchNo} {o : StepOutcome} (h : s.StepCounted w k o) (p : Suspension) :
    s.StepCounted (w.suspendCase p) k o := by
  have ehu := (w.suspendCase_spec p).1
  generalize w.suspendCase p = t at *
  have case_ : t.ehu.huntCase = w.suspendedCase p := (congrArg Ehu.huntCase ehu :)
  refine h.kept ?_ ?_ ?_ ((congrArg Ehu.settleTimer ehu :).trans h.settle) ((congrArg Ehu.observeTimer ehu :).trans h.observe)
  all_goals
    rw [case_, State.suspendedCase]
    split <;> rfl

/-- The end of a step, in the words of R145. -/
theorem State.endStep_ends (s : State) (k : SwitchNo) (o : StepOutcome) (own : OwnCourse) : s.stepEnds (s.endStep k o own) k o own := by
  obtain ⟨counted, step⟩ := s.stepClosed_counted k o
  have pending : (s.stepClosed k o).ehu.pendingAbandon = s.ehu.pendingAbandon := rfl
  have cause : (s.stepClosed k o).ehu.pendingCause = s.ehu.pendingCause := rfl
  have count : (s.stepClosed k o).ehu.runningCount = s.ehu.runningCount := rfl
  rw [State.endStep_eq]
  generalize s.stepClosed k o = w at *
  have suspended : ∀ p, ¬ (p.kind = .trip ∧ w.ehu.runningCount = 0) → (w.suspendCase p).ehu.huntCase.state = .suspended
      ∧ (w.suspendCase p).ehu.huntCase.step = none ∧ (w.suspendCase p).ehu.huntCase.suspension = some p
      ∧ (w.suspendCase p).noticed .hunt := fun p stays => by
    obtain ⟨ehu, told⟩ := w.suspendCase_spec p
    rw [ehu, State.suspendedCase, if_neg stays]
    exact ⟨rfl, step, rfl, told⟩
  unfold State.stepEnds
  cases abandon : s.ehu.pendingAbandon with
  | some r =>
    rw [State.afterStep_abandons (pending.trans abandon)]
    obtain ⟨⟨steps, inconclusive, noRetest, settle, observe⟩, ends, -⟩ := counted.concluded step (w.concludeAbandoned_concluded r)
    exact ⟨steps, inconclusive, noRetest, settle, observe, ends, rfl⟩
  | none =>
    have course := State.afterStep_course (pending.trans abandon) k o own
    cases own with
    | byCandidates =>
      obtain ⟨⟨steps, inconclusive, noRetest, settle, observe⟩, ends, candidates⟩ := counted.concluded step course
      refine ⟨steps, inconclusive, noRetest, settle, observe, ?_⟩
      dsimp only
      rw [candidates]
      by_cases one : w.ehu.huntCase.candidates.length = 1
      · rw [if_pos one] at ends ⊢
        exact ends
      · rw [if_neg one] at ends ⊢
        exact ends
    | narrowed =>
      obtain ⟨⟨steps, inconclusive, noRetest, settle, observe⟩, ends, -⟩ := counted.concluded step course
      exact ⟨steps, inconclusive, noRetest, settle, observe, ends⟩
    | continues =>
      dsimp only at course
      by_cases failed : o = .failed
      · rw [if_pos failed] at course
        rw [course]
        obtain ⟨steps, inconclusive, noRetest, settle, observe⟩ := counted.suspended ⟨.switchFailed, k⟩
        refine ⟨steps, inconclusive, noRetest, settle, observe, ?_⟩
        exact (if_pos failed).mpr (suspended _ (by rintro ⟨⟨⟩, -⟩))
      · rw [if_neg failed] at course
        rw [cause] at course
        cases pended : s.ehu.pendingCause with
        | some p =>
          simp only [pended] at course
          rw [course]
          obtain ⟨steps, inconclusive, noRetest, settle, observe⟩ := counted.suspended p
          obtain ⟨ehu, told⟩ := w.suspendCase_spec p
          refine ⟨steps, inconclusive, noRetest, settle, observe, ?_⟩
          refine (if_neg failed).mpr ⟨fun other => suspended p fun trip => other trip.1, fun trip _ => ?_⟩
          have count' : (w.suspendCase p).ehu.runningCount = w.ehu.runningCount := (congrArg Ehu.runningCount ehu :)
          by_cases none_ : w.ehu.runningCount = 0
          · refine (if_pos (count'.trans none_)).mpr ?_
            rw [ehu, State.suspendedCase, if_pos ⟨trip, none_⟩]
            exact ⟨rfl, step, rfl, told⟩
          · exact (if_neg fun none' => none_ (count'.symm.trans none')).mpr (suspended p fun trip => none_ trip.2)
        | none =>
          simp only [pended] at course
          rw [course]
          rcases w.choose_spec with ⟨r, which, ends⟩ | ⟨j, begun⟩
          · obtain ⟨⟨steps, inconclusive, noRetest, settle, observe⟩, ends, -⟩ := counted.concluded step ends
            refine ⟨steps, inconclusive, noRetest, settle, observe, ?_⟩
            refine (if_neg failed).mpr (.inr ?_)
            rcases which with rfl | rfl | rfl
            · exact .inl ends
            · exact .inr (.inl ends)
            · exact .inr (.inr ends)
          · have counted' : s.StepCounted w.choose k o := by
              refine counted.kept ?_ ?_ ?_ ?_ ?_
              all_goals rw [begun]
              · rfl
              · rfl
              · rfl
              · exact counted.settle
              · exact counted.observe
            obtain ⟨steps, inconclusive, noRetest, settle, observe⟩ := counted'
            refine ⟨steps, inconclusive, noRetest, settle, observe, ?_⟩
            refine (if_neg failed).mpr (.inl ?_)
            rw [begun]
            exact ⟨rfl, j, rfl⟩

end Sys2Proof.Machine
end

section
/-! What the reports and the requests that follow the end of a step leave of the case (R88, R89, R133, R149). -/

namespace Sys2Proof.Machine

/-! ### A case that the steps behind it leave (R149) -/

/-- A case suspended for a trip waits for sequences that run. -/
def State.tripWaits (s : State) : Prop :=
  s.ehu.huntCase.state = .suspended → (∃ j, s.ehu.huntCase.suspension = some ⟨.trip, j⟩) → s.ehu.runningCount ≠ 0

/-- What becomes of a case while no step of it ends: it stands, or is resumed from its suspension for a trip once no sequence runs; in
LOCATING its candidates may go. No sequence starts to run. -/
structure State.CaseTrails (s t : State) : Prop where
  stepsTaken : t.ehu.huntCase.stepsTaken = s.ehu.huntCase.stepsTaken
  inconclusive : t.ehu.huntCase.inconclusive = s.ehu.huntCase.inconclusive
  noRetest : t.ehu.huntCase.noRetest = s.ehu.huntCase.noRetest
  step : t.ehu.huntCase.step = s.ehu.huntCase.step
  result : t.ehu.huntCase.result = s.ehu.huntCase.result
  abandon : t.ehu.huntCase.abandon = s.ehu.huntCase.abandon
  leftOpen : t.ehu.huntCase.leftOpen = s.ehu.huntCase.leftOpen
  settle : t.ehu.settleTimer = s.ehu.settleTimer
  observe : t.ehu.observeTimer = s.ehu.observeTimer
  notices : ∀ n, s.noticed n → t.noticed n
  counted : s.runningCounted → t.runningCounted
  quiet : s.runningCounted → s.ehu.runningCount = 0 → t.ehu.runningCount = 0
  waits : s.tripWaits → t.tripWaits
  course : (t.ehu.huntCase.state = s.ehu.huntCase.state ∧ t.ehu.huntCase.suspension = s.ehu.huntCase.suspension)
    ∨ (s.ehu.huntCase.state = .suspended ∧ (∃ j, s.ehu.huntCase.suspension = some ⟨.trip, j⟩) ∧ t.ehu.huntCase.state = .locating
      ∧ t.ehu.huntCase.suspension = none ∧ (s.runningCounted → t.ehu.runningCount = 0))
  concluded : s.ehu.huntCase.state = .concluded → t.ehu.huntCase.candidates = s.ehu.huntCase.candidates
  stepping : s.ehu.huntCase.state = .stepping → t.ehu.huntCase = s.ehu.huntCase

theorem State.CaseTrails.trans {s t u : State} (a : s.CaseTrails t) (b : t.CaseTrails u) : s.CaseTrails u := by
  refine ⟨b.stepsTaken.trans a.stepsTaken, b.inconclusive.trans a.inconclusive, b.noRetest.trans a.noRetest, b.step.trans a.step,
    b.result.trans a.result, b.abandon.trans a.abandon, b.leftOpen.trans a.leftOpen, b.settle.trans a.settle, b.observe.trans a.observe,
    fun n h => b.notices n (a.notices n h), fun h => b.counted (a.counted h), fun h none_ => b.quiet (a.counted h) (a.quiet h none_),
    fun h => b.waits (a.waits h), ?_, fun h => ?_, fun h => ?_⟩
  · rcases a.course with ⟨state, suspension⟩ | ⟨suspended, trip, state, suspension, none_⟩
    · rcases b.course with ⟨state', suspension'⟩ | ⟨suspended', trip', rest, none', still⟩
      · exact .inl ⟨state'.trans state, suspension'.trans suspension⟩
      · rw [state] at suspended'
        rw [suspension] at trip'
        exact .inr ⟨suspended', trip', rest, none', fun h => still (a.counted h)⟩
    · rcases b.course with ⟨state', suspension'⟩ | ⟨suspended', -⟩
      · exact .inr ⟨suspended, trip, state'.trans state, suspension'.trans suspension, fun h => b.quiet (a.counted h) (none_ h)⟩
      · rw [state] at suspended'
        cases suspended'
  · have state : t.ehu.huntCase.state = .concluded := by
      rcases a.course with ⟨state, -⟩ | ⟨suspended, -⟩
      · exact state.trans h
      · rw [h] at suspended
        cases suspended
    exact (b.concluded state).trans (a.concluded h)
  · have same := a.stepping h
    exact (b.stepping (by rw [same]; exact h)).trans same

/-- The case, the timers of its step and the sequences stand. -/
theorem State.CaseTrails.of_same {s t : State} (case_ : t.ehu.huntCase = s.ehu.huntCase) (settle : t.ehu.settleTimer = s.ehu.settleTimer)
    (observe : t.ehu.observeTimer = s.ehu.observeTimer) (count : t.ehu.runningCount = s.ehu.runningCount)
    (running : ∀ k, (t.seq k).state.running = (s.seq k).state.running) (notices : ∀ n, s.noticed n → t.noticed n) : s.CaseTrails t := by
  refine ⟨by rw [case_], by rw [case_], by rw [case_], by rw [case_], by rw [case_], by rw [case_], by rw [case_], settle, observe, notices,
    State.runningCounted_congr running count, fun _ none_ => count.trans none_, fun h => ?_, .inl ⟨by rw [case_], by rw [case_]⟩,
    fun _ => by rw [case_], fun _ => case_⟩
  rw [State.tripWaits, case_, count]
  exact h

theorem State.CaseTrails.of_ehu {s t : State} (ehu : t.ehu = s.ehu) (rcs : t.rcs = s.rcs) (notices : ∀ n, s.noticed n → t.noticed n) :
    s.CaseTrails t :=
  .of_same (by rw [ehu]) (by rw [ehu]) (by rw [ehu]) (by rw [ehu]) (fun k => by rw [State.seq_of_rcs rcs]) notices

theorem State.CaseTrails.refl (s : State) : s.CaseTrails s := .of_ehu rfl rfl fun _ h => h

theorem State.notify_trails (s : State) (n : Notice) : s.CaseTrails (s.notify n) := .of_ehu rfl rfl fun _ h => State.noticed_kept _ _ _ h

theorem State.checkResume_trails (s : State) : s.CaseTrails s.checkResume := by
  unfold State.checkResume
  split
  next j state suspension =>
    split
    next => exact .refl s
    next ended =>
      have none_ : s.ehu.runningCount = 0 := by simpa [State.stillStopped] using ended
      have polled : State.Polled { s with ehu.huntCase.suspension := none } s.resumeCase := State.enterLocating_polled _
      have ehu := State.enterLocating_ehu { s with ehu.huntCase.suspension := none }
      change s.resumeCase.ehu = _ at ehu
      obtain ⟨-, rcs, rqi, -⟩ := polled
      generalize s.resumeCase = t at *
      have running : ∀ k, (t.seq k).state.running = (s.seq k).state.running := fun k => by rw [State.seq_of_rcs rcs k]; rfl
      have count : t.ehu.runningCount = s.ehu.runningCount := by rw [ehu]
      have case_ := congrArg Ehu.huntCase ehu
      dsimp only at case_
      refine ⟨by rw [case_], by rw [case_], by rw [case_], by rw [case_], by rw [case_], by rw [case_], by rw [case_], by rw [ehu],
        by rw [ehu], fun n h => State.noticed_of_rqi rqi h, State.runningCounted_congr running count, fun _ h => count.trans h,
        fun _ suspended => ?_, .inr ⟨state, ⟨j, suspension⟩, by rw [case_], by rw [case_], fun _ => count.trans none_⟩,
        fun h => by rw [case_], fun h => ?_⟩
      · rw [case_] at suspended
        cases suspended
      · rw [state] at h
        cases h
  next => exact .refl s

theorem State.checkResume_waits (s : State) : s.checkResume.tripWaits := by
  unfold State.checkResume
  split
  next j state suspension =>
    split
    next stops =>
      intro _ _ none_
      rw [State.stillStopped, none_] at stops
      cases stops
    next =>
      intro suspended
      rw [State.resumeCase, State.enterLocating_ehu] at suspended
      cases suspended
  next other =>
    intro suspended trip
    obtain ⟨j, trip⟩ := trip
    exact absurd trip (other j suspended)

/-! ### Sequences that stop to run (R106) -/

theorem State.runningSequences_le {s t : State} (h : ∀ k, (t.seq k).state.running = true → (s.seq k).state.running = true) :
    t.runningSequences ≤ s.runningSequences := List.Sublist.length_le (List.monotone_filter_right _ fun k => h k)

/-- A sequence written that does not start to run. -/
theorem State.setSeq_trails {s : State} {k : SwitchNo} {q : Sequence} (stops : q.state.running = true → (s.seq k).state.running = true) :
    s.CaseTrails (s.setSeq k q) := by
  have written : ∀ j, (s.putSeq k q).seq j = if j = k then q else s.seq j := fun j => State.putSeq_seq s k j q
  have fewer : ∀ j, ((s.putSeq k q).seq j).state.running = true → (s.seq j).state.running = true := fun j => by
    rw [written]
    split
    next here => rw [here]; exact stops
    next => exact id
  unfold State.setSeq
  dsimp only
  split
  next tells =>
    have told : (s.putSeq k q).countReport (s.putSeq k q).runningSequences
        = State.checkResume { s.putSeq k q with ehu.runningCount := (s.putSeq k q).runningSequences } := rfl
    rw [told]
    generalize counted : ({ s.putSeq k q with ehu.runningCount := (s.putSeq k q).runningSequences } : State) = u
    have trails := u.checkResume_trails
    have waits := u.checkResume_waits
    have ehu : u.ehu = { s.ehu with runningCount := (s.putSeq k q).runningSequences } := by rw [← counted]; rfl
    have counts : u.runningCounted := by rw [← counted]; rfl
    have rqi : u.rqi = s.rqi := by rw [← counted]; rfl
    have case_ : u.ehu.huntCase = s.ehu.huntCase := by rw [ehu]
    obtain ⟨stepsTaken, inconclusive, noRetest, step, result, abandon, leftOpen, settle, observe, notices, counted', quiet, -, course,
      concluded, stepping⟩ := trails
    rw [case_] at stepsTaken inconclusive noRetest step result abandon leftOpen course concluded stepping
    refine ⟨stepsTaken, inconclusive, noRetest, step, result, abandon, leftOpen, settle.trans (by rw [ehu]), observe.trans (by rw [ehu]),
      fun n h => notices n (State.noticed_of_rqi rqi h), fun _ => counted' counts, fun before none_ => quiet counts ?_, fun _ => waits, ?_,
      concluded, stepping⟩
    · have few := State.runningSequences_le fewer
      rw [State.runningCounted] at before
      rw [ehu]
      dsimp only
      omega
    · rcases course with same | ⟨suspended, trip, state, suspension, none_⟩
      · exact .inl same
      · exact .inr ⟨suspended, trip, state, suspension, fun _ => none_ counts⟩
  next still =>
    refine .of_same rfl rfl rfl rfl (fun j => ?_) fun _ h => h
    rw [written]
    split
    next here =>
      rw [here]
      by_cases same : (s.seq k).state = q.state
      · rw [same]
      · have neither : (s.seq k).state.running = false ∧ q.state.running = false := by simpa [same] using still
        rw [neither.1, neither.2]
    next => rfl

theorem State.settleSeq_trails (s : State) (k : SwitchNo) {st : SeqState} (still : st.running = false) : s.CaseTrails (s.settleSeq k st) :=
  State.setSeq_trails fun running => by
    rw [show ({ (s.seq k).moveTo st with shotsUsed := 0 } : Sequence).state = st from rfl, still] at running
    cases running

theorem State.lockOut_trails (s : State) (k : SwitchNo) (r : LockoutReason) : s.CaseTrails (s.lockOut k r) :=
  (State.setSeq_trails (q := { (s.seq k).moveTo .lockout with lastLockout := some ⟨r, s.svu.minute⟩ }) nofun).trans
    (State.notify_trails _ _)

/-- A STATE report lets no sequence start to run (R107). -/
theorem State.rcsPosition_trails (s : State) (k : SwitchNo) (p : Pole) : s.CaseTrails (s.rcsPosition k p) := by
  unfold State.rcsPosition
  split
  case h_7 state => exact State.setSeq_trails fun _ => by rw [state]; rfl
  case h_8 => exact .refl s
  all_goals exact s.settleSeq_trails k rfl

/-! ### The reports behind the end of an operation -/

theorem State.disturb_trails (s : State) : s.CaseTrails s.disturb := by
  unfold State.disturb
  split
  · exact .of_same rfl rfl rfl rfl (fun _ => rfl) fun _ h => h
  · exact .refl s

theorem State.reportPosition_trails (s : State) (k : SwitchNo) (p : Pole) (changed : Bool) :
    s.CaseTrails (s.reportPosition k p changed) := by
  refine (s.rcsPosition_trails k p).trans ?_
  unfold State.reportPosition State.huntPosition
  split
  · split
    · exact State.disturb_trails _
    · exact .refl _
  · exact State.checkResume_trails _

theorem State.retryPush_trails (s : State) (k : SwitchNo) : s.CaseTrails (s.retryPush k) := by
  unfold State.retryPush
  dsimp only
  split
  · exact .of_ehu rfl rfl fun _ h => h
  · exact .refl s

/-- A report of another switch than the head takes candidates out of a case in LOCATING (R133). -/
theorem State.locateReport_trails (s : State) (k : SwitchNo) (v : Nat) (p : Pole) : s.CaseTrails (s.locateReport k v p) := by
  have judged : ∀ out : SwitchNo → Bool, s.ehu.huntCase.state = .locating →
      s.CaseTrails { s with ehu.huntCase := s.ehu.huntCase.eliminate out } := fun out locating => by
    have kept : s.ehu.huntCase.eliminate out = { s.ehu.huntCase with
        inconsistent := (s.ehu.huntCase.eliminate out).inconsistent, candidates := (s.ehu.huntCase.eliminate out).candidates
        cleared := (s.ehu.huntCase.eliminate out).cleared } := by
      rw [HuntCase.eliminate_eq]
      split <;> rfl
    rw [kept]
    refine ⟨rfl, rfl, rfl, rfl, rfl, rfl, rfl, rfl, rfl, fun _ h => h, fun h => h, fun _ h => h, fun h => h, .inl ⟨rfl, rfl⟩, fun no => ?_,
      fun no => ?_⟩
    · rw [locating] at no
      cases no
    · rw [locating] at no
      cases no
  unfold State.locateReport
  split
  next applies =>
    have locating : s.ehu.huntCase.state = .locating := by
      simp only [Bool.and_eq_true, beq_iff_eq] at applies
      exact applies.1.1
    split
    · exact judged _ locating
    · exact judged _ locating
    · exact .refl s
  next => exact .refl s

theorem State.takeResidual_trails {s : State} {k : SwitchNo} (other : k ≠ 0) (p : Pole) (raw : Option (BitVec 16)) :
    s.CaseTrails (s.takeResidual k p raw) := by
  unfold State.takeResidual
  split
  · split
    · dsimp only
      have kept : ∀ r, s.CaseTrails (s.setRuntime k r) := fun _ => .of_ehu rfl rfl fun _ h => h
      unfold State.residualReport
      rw [if_neg (by simpa using other)]
      exact (kept _).trans (State.locateReport_trails _ _ _ _)
    · exact .refl s
  · exact .refl s

/-! ### A CLOSE cancelled in the slot behind the end of a step (R89) -/

theorem State.rcsCloseResult_cancelled_trails (s : State) (k : SwitchNo) (cs : Classes) : s.CaseTrails (s.rcsCloseResult k cs .cancelled) := by
  unfold State.rcsCloseResult
  dsimp only
  split
  · split
    · split
      · exact .refl s
      · exact s.lockOut_trails k _
    · exact .refl s
  · split
    case h_4 => exact .refl s
    all_goals contradiction

theorem State.cancelClose_trails {s : State} (none_ : s.ehu.huntCase.step = none) (k : SwitchNo) : s.CaseTrails (s.cancelClose k) := by
  unfold State.cancelClose
  split
  next cs slot =>
    have recorded : s.CaseTrails ((s.setRuntime k { s.runtime k with slot := none }).recordResult k ⟨.toClose, cs⟩ .cancelled) :=
      .of_ehu rfl rfl fun _ h => State.noticed_kept _ _ _ h
    have ended := recorded.trans (State.rcsCloseResult_cancelled_trails _ k cs)
    change s.CaseTrails ((s.setRuntime k { s.runtime k with slot := none }).endInSlot k ⟨.toClose, cs⟩ .cancelled) at ended
    have step := ended.step.trans none_
    rw [State.endRequest]
    generalize (s.setRuntime k { s.runtime k with slot := none }).endInSlot k ⟨.toClose, cs⟩ .cancelled = t at *
    unfold State.huntResult
    rw [step]
    exact ended
  · exact .refl s

end Sys2Proof.Machine
end

section
/-! The result of an operation of the hunt, with the step that waited for it (R140, R144, R145). -/

namespace Sys2Proof.Machine

/-! ### What the steps behind the end of a step leave of its statement (R145) -/

theorem State.stepEnds.carried {s u t : State} {k : SwitchNo} {o : StepOutcome} {own : OwnCourse} (h : s.stepEnds u k o own)
    (trails : u.CaseTrails t) (counted : s.runningCounted → u.runningCounted) : s.stepEnds t k o own := by
  obtain ⟨steps, inconclusive, noRetest, settle, observe, course⟩ := h
  refine ⟨trails.stepsTaken.trans steps, trails.inconclusive.trans inconclusive, trails.noRetest.trans noRetest,
    trails.settle.trans settle, trails.observe.trans observe, ?_⟩
  have stands : u.ehu.huntCase.state ≠ .suspended → t.ehu.huntCase.state = u.ehu.huntCase.state
      ∧ t.ehu.huntCase.suspension = u.ehu.huntCase.suspension := fun other => by
    rcases trails.course with same | ⟨suspended, -⟩
    · exact same
    · exact absurd suspended other
  have concluded : ∀ {r}, u.ehu.huntCase.state = .concluded ∧ u.ehu.huntCase.step = none ∧ u.ehu.huntCase.result = some r ∧ u.noticed .hunt →
      t.ehu.huntCase.state = .concluded ∧ t.ehu.huntCase.step = none ∧ t.ehu.huntCase.result = some r ∧ t.noticed .hunt :=
    fun ⟨state, step, result, told⟩ => ⟨(stands (by rw [state]; nofun)).1.trans state, trails.step.trans step,
      trails.result.trans result, trails.notices _ told⟩
  have suspended : ∀ {p : Suspension}, p.kind ≠ .trip → u.ehu.huntCase.state = .suspended ∧ u.ehu.huntCase.step = none
        ∧ u.ehu.huntCase.suspension = some p ∧ u.noticed .hunt →
      t.ehu.huntCase.state = .suspended ∧ t.ehu.huntCase.step = none ∧ t.ehu.huntCase.suspension = some p ∧ t.noticed .hunt :=
    fun other ⟨state, step, cause, told⟩ => by
      rcases trails.course with ⟨state', cause'⟩ | ⟨-, ⟨j, trip⟩, -⟩
      · exact ⟨state'.trans state, trails.step.trans step, cause'.trans cause, trails.notices _ told⟩
      · rw [cause] at trip
        cases trip
        exact absurd rfl other
  revert course
  cases s.ehu.pendingAbandon with
  | some r => exact fun ⟨ends, why⟩ => ⟨concluded ends, trails.abandon.trans why⟩
  | none =>
    cases own with
    | byCandidates =>
      intro course
      dsimp only at course ⊢
      have state : u.ehu.huntCase.state = .concluded := by
        split at course
        · exact course.1
        · exact course.1
      rw [trails.concluded state]
      by_cases one : u.ehu.huntCase.candidates.length = 1
      · rw [if_pos one] at course ⊢
        exact concluded course
      · rw [if_neg one] at course ⊢
        exact concluded course
    | narrowed => exact concluded
    | continues =>
      intro course
      dsimp only at course ⊢
      by_cases failed : o = .failed
      · rw [if_pos failed] at course ⊢
        exact suspended nofun course
      · rw [if_neg failed] at course ⊢
        cases pending : s.ehu.pendingCause with
        | some p =>
          rw [pending] at course
          obtain ⟨other, trip⟩ := course
          refine ⟨fun kind => suspended kind (other kind), fun kind before => ?_⟩
          have course := trip kind before
          have counted' := counted before
          by_cases none_ : u.ehu.runningCount = 0
          · rw [if_pos none_] at course
            obtain ⟨state, step, cause, told⟩ := course
            obtain ⟨state', cause'⟩ := stands (by rw [state]; nofun)
            rw [if_pos (trails.quiet counted' none_)]
            exact ⟨state'.trans state, trails.step.trans step, cause'.trans cause, trails.notices _ told⟩
          · rw [if_neg none_] at course
            obtain ⟨state, step, cause, told⟩ := course
            rcases trails.course with ⟨state', cause'⟩ | ⟨-, -, state', cause', ended⟩
            · have tripped : ∃ j, t.ehu.huntCase.suspension = some ⟨.trip, j⟩ := by
                obtain ⟨kind', j⟩ := p
                cases kind
                exact ⟨j, cause'.trans cause⟩
              rw [if_neg (trails.waits (fun _ _ => none_) (state'.trans state) tripped)]
              exact ⟨state'.trans state, trails.step.trans step, cause'.trans cause, trails.notices _ told⟩
            · rw [if_pos (ended counted')]
              exact ⟨state', trails.step.trans step, cause', trails.notices _ told⟩
        | none =>
          rw [pending] at course
          rcases course with ⟨state, j, step⟩ | ends | ends | ends
          · exact .inl ⟨(stands (by rw [state]; nofun)).1.trans state, j, trails.step.trans step⟩
          · exact .inr (.inl (concluded ends))
          · exact .inr (.inr (.inl (concluded ends)))
          · exact .inr (.inr (.inr (concluded ends)))

/-- A step that ends FAILED leaves none under way. -/
theorem State.stepEnds.failed_step {s t : State} {k : SwitchNo} {own : OwnCourse} (h : s.stepEnds t k .failed own) :
    t.ehu.huntCase.step = none := by
  obtain ⟨-, -, -, -, -, course⟩ := h
  revert course
  cases s.ehu.pendingAbandon with
  | some r => exact fun ⟨⟨_, step, _⟩, _⟩ => step
  | none =>
    cases own with
    | byCandidates =>
      intro course
      dsimp only at course
      split at course
      · exact course.2.1
      · exact course.2.1
    | narrowed => exact fun ⟨_, step, _⟩ => step
    | continues => exact fun ⟨_, step, _⟩ => step

/-- The end of a step looks at the case's counts, its pending abandonment and cause, and the sequences counted. -/
theorem State.stepEnds.before {s v t : State} {k : SwitchNo} {o : StepOutcome} {own : OwnCourse} (h : v.stepEnds t k o own)
    (steps : v.ehu.huntCase.stepsTaken = s.ehu.huntCase.stepsTaken) (inconclusive : v.ehu.huntCase.inconclusive = s.ehu.huntCase.inconclusive)
    (noRetest : v.ehu.huntCase.noRetest = s.ehu.huntCase.noRetest) (abandon : v.ehu.pendingAbandon = s.ehu.pendingAbandon)
    (cause : v.ehu.pendingCause = s.ehu.pendingCause) (counted : s.runningCounted → v.runningCounted) : s.stepEnds t k o own := by
  unfold State.stepEnds at h ⊢
  dsimp only at h ⊢
  rw [steps, inconclusive, noRetest, abandon, cause] at h
  obtain ⟨steps', inconclusive', noRetest', settle, observe, course⟩ := h
  refine ⟨steps', inconclusive', noRetest', settle, observe, ?_⟩
  revert course
  cases s.ehu.pendingAbandon with
  | some r => exact id
  | none =>
    cases own with
    | byCandidates => exact id
    | narrowed => exact id
    | continues =>
      intro course
      dsimp only at course ⊢
      by_cases failed : o = .failed
      · rw [if_pos failed] at course ⊢
        exact course
      · rw [if_neg failed] at course ⊢
        cases pending : s.ehu.pendingCause with
        | some p =>
          rw [pending] at course
          exact ⟨course.1, fun kind before => course.2 kind (counted before)⟩
        | none =>
          rw [pending] at course
          exact course

/-! ### The switches left open (R140, R144) -/

/-- A step that ends FAILED in its opening names no switch left open. -/
theorem State.endStep_failed_leftOpen (s : State) (k : SwitchNo) :
    (s.endStep k .failed .continues).ehu.huntCase.leftOpen = s.ehu.huntCase.leftOpen := by
  have closed : (s.stepClosed k .failed).ehu.huntCase.leftOpen = s.ehu.huntCase.leftOpen := rfl
  have pending : (s.stepClosed k .failed).ehu.pendingAbandon = s.ehu.pendingAbandon := rfl
  rw [State.endStep_eq]
  generalize s.stepClosed k .failed = w at *
  cases abandon : s.ehu.pendingAbandon with
  | some r =>
    rw [State.afterStep_abandons (pending.trans abandon)]
    exact closed
  | none =>
    have course : w.afterStep k .failed .continues = w.suspendCase ⟨.switchFailed, k⟩ :=
      State.afterStep_course (pending.trans abandon) k .failed .continues
    rw [course, (w.suspendCase_spec _).1, State.suspendedCase]
    split <;> exact closed

/-- A step that ends FAILED keeps every switch named. -/
theorem State.endStep_failed_named (s : State) (k : SwitchNo) (own : OwnCourse) :
    ∀ e ∈ s.ehu.huntCase.leftOpen, e ∈ (s.endStep k .failed own).ehu.huntCase.leftOpen := by
  intro e mem
  cases own with
  | continues =>
    rw [State.endStep_failed_leftOpen]
    exact mem
  | byCandidates =>
    have closed : (s.stepClosed k .failed).ehu.huntCase.leftOpen = s.ehu.huntCase.leftOpen := rfl
    rw [← closed] at mem
    rw [State.endStep_eq]
    generalize s.stepClosed k .failed = w at *
    cases abandon : w.ehu.pendingAbandon with
    | some r =>
      rw [State.afterStep_abandons abandon]
      exact mem
    | none => exact (State.afterStep_course abandon k .failed .byCandidates).leftOpen e mem
  | narrowed =>
    have closed : (s.stepClosed k .failed).ehu.huntCase.leftOpen = s.ehu.huntCase.leftOpen := rfl
    rw [← closed] at mem
    rw [State.endStep_eq]
    generalize s.stepClosed k .failed = w at *
    cases abandon : w.ehu.pendingAbandon with
    | some r =>
      rw [State.afterStep_abandons abandon]
      exact mem
    | none => exact (State.afterStep_course abandon k .failed .narrowed).leftOpen e mem

/-- A switch named that was not listed stands last in the list. -/
theorem State.nameLeftOpen_unlisted {s : State} {k : SwitchNo} (unlisted : ∀ l ∈ s.ehu.huntCase.leftOpen, l.switch ≠ k)
    (r : LeftOpenReason) : (s.nameLeftOpen k r).ehu.huntCase.leftOpen = s.ehu.huntCase.leftOpen ++ [⟨k, r⟩] := by
  rw [State.nameLeftOpen, HuntCase.nameLeftOpen_eq]
  refine if_neg fun listed => ?_
  obtain ⟨l, mem, same⟩ := List.any_eq_true.mp listed
  exact unlisted l mem (beq_iff_eq.mp same)

/-- A step that ends after a switch is named. -/
theorem State.endStep_named_ends (s : State) (k : SwitchNo) (r : LeftOpenReason) (o : StepOutcome) (own : OwnCourse) :
    s.stepEnds ((s.nameLeftOpen k r).endStep k o own) k o own := by
  have named := State.endStep_ends (s.nameLeftOpen k r) k o own
  have case_ : (s.nameLeftOpen k r).ehu.huntCase = { s.ehu.huntCase with leftOpen := (s.nameLeftOpen k r).ehu.huntCase.leftOpen } := by
    rw [State.nameLeftOpen, HuntCase.nameLeftOpen_eq]
  refine named.before ?_ ?_ ?_ rfl rfl fun h => h
  all_goals rw [case_]

/-! ### The results of the step's own operations (R140, R144) -/

theorem OpResult.ofFlight_cases {res : OpResult} (h : res.ofFlight = true) :
    res = .done ∨ (∃ b, res = .refusedByUnit b) ∨ res = .noAnswer ∨ res = .noMove := by
  cases res with
  | done => exact .inl rfl
  | refusedByUnit b => exact .inr (.inl ⟨b, rfl⟩)
  | noAnswer => exact .inr (.inr (.inl rfl))
  | noMove => exact .inr (.inr (.inr rfl))
  | already | heldAtDispatch | cancelled | preEmpted => cases h

/-- The result of the OPEN of a step in OPENING (R140). -/
theorem State.openEnded_follows {s : State} {k : SwitchNo} {res : OpResult} (flight : res.ofFlight = true) :
    if res = .done then (s.openEnded k res).ehu.huntCase = { s.ehu.huntCase with step := some ⟨k, .settling, none⟩ }
      ∧ (s.openEnded k res).ehu.settleTimer = .running (10 * s.ehu.params.settle) (10 * s.ehu.params.settle)
    else s.stepEnds (s.openEnded k res) k .failed .continues ∧
      if (res = .noAnswer ∨ res = .noMove ∧ (s.runtime k).position = .unknown) then
        (∀ l ∈ s.ehu.huntCase.leftOpen, l.switch ≠ k) →
          (s.openEnded k res).ehu.huntCase.leftOpen = s.ehu.huntCase.leftOpen ++ [⟨k, .noCloseBack⟩]
      else (s.openEnded k res).ehu.huntCase.leftOpen = s.ehu.huntCase.leftOpen := by
  have named : ∀ unlisted : (∀ l ∈ s.ehu.huntCase.leftOpen, l.switch ≠ k),
      ((s.nameLeftOpen k .noCloseBack).endStep k .failed .continues).ehu.huntCase.leftOpen
        = s.ehu.huntCase.leftOpen ++ [⟨k, .noCloseBack⟩] := fun unlisted => by
    rw [State.endStep_failed_leftOpen, State.nameLeftOpen_unlisted unlisted]
  rcases OpResult.ofFlight_cases flight with rfl | ⟨b, rfl⟩ | rfl | rfl
  · exact (if_pos rfl).mpr ⟨rfl, rfl⟩
  · exact (if_neg nofun).mpr ⟨s.endStep_ends k .failed .continues, (if_neg (by simp)).mpr (s.endStep_failed_leftOpen k)⟩
  · exact (if_neg nofun).mpr ⟨s.endStep_named_ends k .noCloseBack .failed .continues, (if_pos (by simp)).mpr named⟩
  · by_cases unknown : (s.runtime k).position = .unknown
    · have taken : s.openEnded k .noMove = (s.nameLeftOpen k .noCloseBack).endStep k .failed .continues := by
        simp [State.openEnded, unknown]
      rw [taken]
      exact (if_neg nofun).mpr ⟨s.endStep_named_ends k .noCloseBack .failed .continues, (if_pos (by simp [unknown])).mpr named⟩
    · have taken : s.openEnded k .noMove = s.endStep k .failed .continues := by
        simp [State.openEnded, unknown]
      rw [taken]
      exact (if_neg nofun).mpr ⟨s.endStep_ends k .failed .continues,
        (if_neg (by simp [unknown])).mpr (s.endStep_failed_leftOpen k)⟩

/-- The result of the close-back of a step in CLOSING-BACK (R144). -/
theorem State.closeBackEnded_follows {s : State} {k : SwitchNo} {res : OpResult} (flight : res.ofFlight = true) (o : StepOutcome) :
    if res = .done then s.stepEnds (s.closeBackEnded k o res) k o .continues
    else s.stepEnds (s.closeBackEnded k o res) k .failed (ownCourseHeld o)
      ∧ ((∀ l ∈ s.ehu.huntCase.leftOpen, l.switch ≠ k) → ⟨k, .held⟩ ∈ (s.closeBackEnded k o res).ehu.huntCase.leftOpen) := by
  by_cases done : res = .done
  · rw [if_pos done, done]
    exact s.endStep_ends k o .continues
  · have taken : s.closeBackEnded k o res = (s.nameLeftOpen k .held).endStep k .failed (ownCourseHeld o) := by
      rcases OpResult.ofFlight_cases flight with rfl | ⟨b, rfl⟩ | rfl | rfl
      · exact absurd rfl done
      · rfl
      · rfl
      · rfl
    rw [if_neg done, taken]
    refine ⟨s.endStep_named_ends k .held .failed _, fun unlisted => State.endStep_failed_named _ k _ _ ?_⟩
    rw [State.nameLeftOpen_unlisted unlisted]
    exact List.mem_append_right _ (List.mem_singleton.mpr rfl)

end Sys2Proof.Machine
end

section
/-! The end of an operation in flight (R85, R86, R89): its record, its sequence, and the hunt's step that waited for it. -/

namespace Sys2Proof.Machine

/-! ### The hunt's step (R140, R144) -/

/-- The result handed to the EHU, the case standing as before the operation ended. -/
theorem State.huntResult_follows {s v : State} {k : SwitchNo} {e : OpRequest} {res : OpResult} {now : Position}
    (flight : res.ofFlight = true) (position : (v.runtime k).position = now) (silent : res = .noAnswer → now = .unknown)
    (case_ : v.ehu.huntCase = s.ehu.huntCase) (params : v.ehu.params = s.ehu.params)
    (abandon : v.ehu.pendingAbandon = s.ehu.pendingAbandon) (cause : v.ehu.pendingCause = s.ehu.pendingCause)
    (counted : s.runningCounted → v.runningCounted) (changed : Bool) :
    s.huntFollows (v.huntResult k e res changed) k e res now := by
  have before : ∀ {t o own}, v.stepEnds t k o own → s.stepEnds t k o own := fun h =>
    h.before (by rw [case_]) (by rw [case_]) (by rw [case_]) abandon cause counted
  intro state other hunt
  refine ⟨fun o step action => ?_, fun o step action => ?_⟩
  · have taken : v.huntResult k e res changed = v.openEnded k res := by
      unfold State.huntResult
      rw [show v.ehu.huntCase.step = some ⟨k, .opening, o⟩ from (congrArg HuntCase.step case_).trans step]
      simp [hunt, action]
    have follows := State.openEnded_follows (s := v) (k := k) flight
    rw [taken]
    rw [position, case_, params] at follows
    by_cases done : res = .done
    · rw [if_pos done] at follows ⊢
      exact follows
    · rw [if_neg done] at follows ⊢
      obtain ⟨ends, leftOpen⟩ := follows
      refine ⟨before ends, ?_⟩
      have same : (res = .noAnswer ∨ res = .noMove ∧ now = .unknown) ↔ ((res = .noAnswer ∨ res = .noMove) ∧ now = .unknown) := by
        constructor
        · rintro (quiet | ⟨still, unknown⟩)
          · exact ⟨.inl quiet, silent quiet⟩
          · exact ⟨.inr still, unknown⟩
        · rintro ⟨quiet | still, unknown⟩
          · exact .inl quiet
          · exact .inr ⟨still, unknown⟩
      by_cases lost : res = .noAnswer ∨ res = .noMove ∧ now = .unknown
      · rw [if_pos lost] at leftOpen
        rw [if_pos (same.mp lost)]
        exact leftOpen
      · rw [if_neg lost] at leftOpen
        rw [if_neg (mt same.mpr lost)]
        exact leftOpen
  · have taken : v.huntResult k e res changed = v.closeBackEnded k o res := by
      unfold State.huntResult
      rw [show v.ehu.huntCase.step = some ⟨k, .closingBack, some o⟩ from (congrArg HuntCase.step case_).trans step]
      simp [hunt, action]
    have follows := State.closeBackEnded_follows (s := v) (k := k) flight o
    rw [taken]
    rw [case_] at follows
    by_cases done : res = .done
    · rw [if_pos done] at follows ⊢
      exact before follows
    · rw [if_neg done] at follows ⊢
      exact ⟨before follows.1, follows.2⟩

/-- Steps that leave the case behind them leave what the statement says of it. -/
theorem State.huntFollows.carried {s u t : State} {k : SwitchNo} {e : OpRequest} {res : OpResult} {now : Position}
    (h : s.huntFollows u k e res now) (trails : res = .done ∨ u.ehu.huntCase.step = none → u.CaseTrails t)
    (counted : s.runningCounted → u.runningCounted) : s.huntFollows t k e res now := by
  intro state other hunt
  obtain ⟨opening, closing⟩ := h state other hunt
  refine ⟨fun o step action => ?_, fun o step action => ?_⟩
  · have follows := opening o step action
    by_cases done : res = .done
    · rw [if_pos done] at follows ⊢
      obtain ⟨case_, settle⟩ := follows
      have after := trails (.inl done)
      have stepping : u.ehu.huntCase.state = .stepping := by
        rw [case_]
        exact state
      exact ⟨(after.stepping stepping).trans case_, after.settle.trans settle⟩
    · rw [if_neg done] at follows ⊢
      obtain ⟨ends, leftOpen⟩ := follows
      have after := trails (.inr ends.failed_step)
      rw [after.leftOpen]
      exact ⟨ends.carried after counted, leftOpen⟩
  · have follows := closing o step action
    by_cases done : res = .done
    · rw [if_pos done] at follows ⊢
      exact follows.carried (trails (.inl done)) counted
    · rw [if_neg done] at follows ⊢
      obtain ⟨ends, held⟩ := follows
      have after := trails (.inr ends.failed_step)
      rw [after.leftOpen]
      exact ⟨ends.carried after counted, held⟩

/-! ### The record of an operation that has ended (R82, R85, R86) -/

/-- The condition of the switch whose operation has ended. -/
def Runtime.endedCondition (r : Runtime) (res : OpResult) : Condition := if res.fails then .failed else r.condition

/-- The record of a switch whose operation has ended at a position. -/
def Runtime.landed (r : Runtime) (res : OpResult) (p : Position) : Runtime :=
  { r with inFlight := none, mechanism := .stopped, position := p, condition := r.endedCondition res }

/-- The state with the operation recorded, and its result handed to the RCS. -/
def State.landed (s : State) (k : SwitchNo) (q : OpRequest) (res : OpResult) (p : Position) : State :=
  (s.setRuntime k ((s.runtime k).landed res p)).endInSlot k q res

/-- The change of the condition reported besides. -/
def State.landedReport (s : State) (k : SwitchNo) (q : OpRequest) (res : OpResult) (p : Position) : State :=
  if (s.runtime k).condition = (s.runtime k).endedCondition res then s.landed k q res p
  else (s.landed k q res p).conditionReport k

theorem State.endOperation_eq (s : State) (k : SwitchNo) (q : OpRequest) (res : OpResult) (p : Position) : s.endOperation k q res p =
    if res.fails then ((s.landedReport k q res p).huntResult k q res ((s.runtime k).position != p)).cancelClose k
    else (s.landedReport k q res p).huntResult k q res ((s.runtime k).position != p) := rfl

theorem State.landedReport_followed (s : State) (k : SwitchNo) (q : OpRequest) (res : OpResult) (p : Position) :
    (s.setRuntime k ((s.runtime k).landed res p)).Followed (s.landedReport k q res p) := by
  have ended := (s.setRuntime k ((s.runtime k).landed res p)).endInSlot_followed k q res
  unfold State.landedReport State.landed
  split
  · exact ended
  · exact ended.trans (State.conditionReport_followed _ _)

theorem State.endOperation_followed (s : State) (k : SwitchNo) (q : OpRequest) (res : OpResult) (p : Position) :
    (s.setRuntime k ((s.runtime k).landed res p)).Followed (s.endOperation k q res p) := by
  have handed := (s.landedReport_followed k q res p).trans (State.huntResult_followed _ k q res ((s.runtime k).position != p))
  rw [State.endOperation_eq]
  split
  · exact handed.trans (State.cancelClose_followed _ _)
  · exact handed

/-- What the end of an operation leaves of the link, the settings and the clock, and of the records of the switches. -/
theorem State.endOperation_frame (s : State) (k : SwitchNo) (q : OpRequest) (res : OpResult) (p : Position) :
    ((s.endOperation k q res p).fsu = s.fsu ∧ (s.endOperation k q res p).svu = s.svu ∧ (s.endOperation k q res p).lines = s.lines)
      ∧ (s.endOperation k q res p).sou = { s.sou with runtime := (s.endOperation k q res p).sou.runtime }
      ∧ (∀ j, j ≠ k → (s.endOperation k q res p).runtime j = { s.runtime j with
          slot := ((s.endOperation k q res p).runtime j).slot, lastResult := ((s.endOperation k q res p).runtime j).lastResult
          pollWanted := ((s.endOperation k q res p).runtime j).pollWanted })
      ∧ (s.endOperation k q res p).runtime k = { (s.runtime k).landed res p with
          slot := ((s.endOperation k q res p).runtime k).slot, lastResult := ((s.endOperation k q res p).runtime k).lastResult
          pollWanted := ((s.endOperation k q res p).runtime k).pollWanted }
      ∧ (∀ n, s.noticed n → (s.endOperation k q res p).noticed n)
      ∧ (∀ j, (s.endOperation k q res p).config j = s.config j
          ∧ (s.endOperation k q res p).requiredProfile j = s.requiredProfile j) := by
  obtain ⟨fsu, svu, lines, fmu, info, sou, runtime, notices⟩ := id (s.endOperation_followed k q res p)
  have followed := s.endOperation_followed k q res p
  generalize s.endOperation k q res p = t at *
  refine ⟨⟨fsu, svu, lines⟩, sou, fun j other => ?_, ?_, notices, fun j => ⟨followed.config j, (followed.group j).2⟩⟩
  · have there := runtime j
    rw [State.runtime_setRuntime_other _ _ other] at there
    exact there
  · have here := runtime k
    rw [State.runtime_setRuntime_same] at here
    exact here

theorem State.endOperation_told (s : State) (k : SwitchNo) (q : OpRequest) (res : OpResult) (p : Position) :
    (s.endOperation k q res p).noticed .operation := by
  have ended : (s.landed k q res p).noticed .operation := (State.endInSlot_spec _ k q res).noticed
  have reported : (s.landedReport k q res p).noticed .operation := by
    unfold State.landedReport
    split
    · exact ended
    · exact (State.conditionReport_followed _ _).notices _ ended
  have handed := (State.huntResult_followed (s.landedReport k q res p) k q res ((s.runtime k).position != p)).notices _ reported
  rw [State.endOperation_eq]
  split
  · exact (State.cancelClose_followed _ _).notices _ handed
  · exact handed

end Sys2Proof.Machine
end

section
/-! The sequence behind the end of an operation (R107, R112, R115, R116). -/

namespace Sys2Proof.Machine

/-! ### The result handed to the RCS -/

theorem State.settleByPosition_seq (s : State) (k j : SwitchNo) : (s.settleByPosition k).seq j =
    if j = k then (s.seq k).settled (stateAt (s.runtime k).position) else s.seq j := by
  unfold State.settleByPosition
  cases position : (s.runtime k).position with
  | opened => exact s.settleSeq_seq k j (.inl rfl)
  | closed => exact s.settleSeq_seq k j (.inr (.inl rfl))
  | unknown => exact s.settleSeq_seq k j (.inr (.inr rfl))

section
variable {s : State} {k : SwitchNo} {res : OpResult}

theorem OpResult.met_of_flight (flight : res.ofFlight = true) : (res == .done || res == .already) = decide (res = .done) := by
  rcases OpResult.ofFlight_cases flight with rfl | ⟨b, rfl⟩ | rfl | rfl <;> rfl

/-- An OPEN in flight ends (R115). -/
theorem State.rcsOpenResult_seq (flight : res.ofFlight = true) (cs : Classes) (time : Nat) (judged : LockoutReason) (m : Minute)
    (j : SwitchNo) : (s.rcsOpenResult k res).seq j =
      if j = k then (s.seq k).ended ⟨.toOpen, cs⟩ res (s.runtime k).position time judged m else s.seq j := by
  have same : s.seq j = if j = k then s.seq k else s.seq j := by
    split
    next here => rw [here]
    next => rfl
  have opens : (if (decide (res = .done)) = true then s.settleSeq k .opened else s).seq j
      = if j = k then (if res = .done then (s.seq k).settled .opened else s.seq k) else s.seq j := by
    by_cases done : res = .done
    · rw [if_pos (decide_eq_true done), if_pos done]
      exact s.settleSeq_seq k j (.inl rfl)
    · rw [if_neg (by simpa using done), if_neg done]
      exact same
  unfold State.rcsOpenResult Sequence.ended
  dsimp only
  rw [OpResult.met_of_flight flight]
  cases state : (s.seq k).state with
  | deadTime n => exact s.settleByPosition_seq k j
  | reclosing n =>
    dsimp only
    by_cases cancel : (s.seq k).cancel = true
    · rw [if_pos cancel, if_pos cancel]
      exact s.settleByPosition_seq k j
    · rw [if_neg cancel, if_neg cancel]
      exact same
  | closed | reclaim | uncertain => exact opens
  | opened | lockout | outOfService => exact same

/-- Reclose `n` ends in flight (R112). A noted trip is judged where the switch has opened again. -/
theorem State.recloseEnded_seq {g : Group} (group : s.effectiveGroup k = some g) (flight : res.ofFlight = true) {n : Nat}
    {judged : LockoutReason} (judges : res = .noMove → (s.runtime k).position = .opened → ∀ c, (s.seq k).note = some c →
      s.recloseCheck k n c = some judged) (j : SwitchNo) : (s.recloseEnded k n res).seq j =
      if j = k then
        if res = .done then (s.seq k).reclaiming n g.reclaim
        else if res = .noMove ∧ (s.seq k).note.isSome = true ∧ (s.runtime k).position = .opened then (s.seq k).lockedOut judged s.svu.minute
        else (s.seq k).lockedOut .closeFailed s.svu.minute
      else s.seq j := by
  by_cases done : res = .done
  · subst done
    rw [if_pos (rfl : OpResult.done = .done)]
    exact State.enterReclaim_seq group j n
  rw [if_neg done]
  by_cases still : res = .noMove
  · subst still
    unfold State.recloseEnded
    dsimp only
    split
    next c note position =>
      rw [if_pos (⟨rfl, by rw [note]; rfl, position⟩ : _ ∧ _ ∧ _)]
      unfold State.judgeTrip
      dsimp only
      rw [judges rfl position c note]
      exact (s.notify .trip).lockOut_seq k j judged
    next other =>
      have unjudged : ¬ (OpResult.noMove = .noMove ∧ (s.seq k).note.isSome = true ∧ (s.runtime k).position = .opened) := by
        rintro ⟨-, note, position⟩
        obtain ⟨c, note⟩ := Option.isSome_iff_exists.mp note
        exact other c note position
      rw [if_neg unjudged]
      exact s.lockOut_seq k j .closeFailed
  · have unjudged : ¬ (res = .noMove ∧ (s.seq k).note.isSome = true ∧ (s.runtime k).position = .opened) := fun h => still h.1
    rw [if_neg unjudged]
    rcases OpResult.ofFlight_cases flight with rfl | ⟨b, rfl⟩ | rfl | rfl
    · exact absurd rfl done
    · exact s.lockOut_seq k j .closeFailed
    · exact s.lockOut_seq k j .closeFailed
    · exact absurd rfl still

/-- A CLOSE in flight ends (R112, R116). -/
theorem State.rcsCloseResult_seq {g : Group} (group : s.effectiveGroup k = some g) (flight : res.ofFlight = true) {judged : LockoutReason}
    (judges : res = .noMove → (s.runtime k).position = .opened → ∀ n c, (s.seq k).state = .reclosing n → (s.seq k).note = some c →
      s.recloseCheck k n c = some judged) (cs : Classes) (j : SwitchNo) : (s.rcsCloseResult k cs res).seq j =
      if j = k then (s.seq k).ended ⟨.toClose, cs⟩ res (s.runtime k).position g.reclaim judged s.svu.minute else s.seq j := by
  have same : s.seq j = if j = k then s.seq k else s.seq j := by
    split
    next here => rw [here]
    next => rfl
  unfold State.rcsCloseResult Sequence.ended
  dsimp only
  by_cases own : cs.reclose = true
  · rw [if_pos own]
    cases state : (s.seq k).state with
    | reclosing n =>
      dsimp only
      by_cases cancel : (s.seq k).cancel = true
      · have stays : cs.reclose = false ∨ (s.seq k).cancel = true := .inr cancel
        rw [if_pos cancel, if_pos stays]
        exact same
      · have moves : ¬ (cs.reclose = false ∨ (s.seq k).cancel = true) := by simp [own, cancel]
        rw [if_neg cancel, if_neg moves]
        exact State.recloseEnded_seq group flight (fun still position c note => judges still position n c state note) j
    | opened | lockout | uncertain =>
      have reclose : ¬ (cs.reclose = false ∧ res = .done) := by simp [own]
      dsimp only
      rw [if_neg reclose]
      exact same
    | closed | deadTime | reclaim | outOfService => exact same
  · rw [if_neg own]
    have deliberate : cs.reclose = false := by simpa using own
    cases state : (s.seq k).state with
    | reclosing n =>
      have stays : cs.reclose = false ∨ (s.seq k).cancel = true := .inl deliberate
      dsimp only
      rw [if_pos stays]
      exact same
    | opened | lockout | uncertain =>
      dsimp only
      by_cases done : res = .done
      · subst done
        have closes : cs.reclose = false ∧ OpResult.done = .done := ⟨deliberate, rfl⟩
        rw [if_pos closes]
        exact s.settleSeq_seq k j (.inr (.inl rfl))
      · have stays : ¬ (cs.reclose = false ∧ res = .done) := fun h => done h.2
        rw [if_neg stays]
        split
        · exact absurd rfl done
        · exact absurd rfl done
        · exact absurd rfl done
        · exact same
    | closed | deadTime | reclaim | outOfService => exact same

/-- A sequence that a result takes to LOCKOUT sets the notice (R108). -/
theorem State.rcsResult_lockout (flight : res.ofFlight = true) (a : SwitchAction) (cs : Classes)
    (locked : ((s.rcsResult k a cs res).seq k).state = .lockout) (unlocked : (s.seq k).state ≠ .lockout) :
    (s.rcsResult k a cs res).noticed .lockout := by
  have settles : ∀ {st}, st = .opened ∨ st = .closed ∨ st = .uncertain → ((s.settleSeq k st).seq k).state ≠ .lockout := fun h => by
    rw [s.settleSeq_seq k k h, if_pos rfl]
    rcases h with rfl | rfl | rfl <;> nofun
  have position : ((s.settleByPosition k).seq k).state ≠ .lockout := by
    rw [s.settleByPosition_seq k k, if_pos rfl]
    cases (s.runtime k).position <;> nofun
  have reclaims : ∀ n, ((s.enterReclaim k n).seq k).state ≠ .lockout := fun n => by
    unfold State.enterReclaim
    rw [State.setSeq_seq, if_pos rfl]
    nofun
  have judges : ∀ n c, ((s.judgeTrip k n c).seq k).state = .lockout → (s.judgeTrip k n c).noticed .lockout := fun n c => by
    unfold State.judgeTrip
    dsimp only
    split
    · intro h
      unfold State.enterDeadTime at h
      rw [State.setSeq_seq, if_pos rfl] at h
      cases h
    · exact fun _ => State.lockOut_noticed _ _ _
  revert locked
  cases a with
  | toOpen =>
    unfold State.rcsResult State.rcsOpenResult
    dsimp only
    split
    case h_1 => exact fun h => absurd h position
    case h_2 =>
      split
      · exact fun h => absurd h position
      · exact fun h => absurd h unlocked
    case h_3 | h_4 | h_5 =>
      split
      · exact fun h => absurd h (settles (.inl rfl))
      · exact fun h => absurd h unlocked
    all_goals exact fun h => absurd h unlocked
  | toClose =>
    unfold State.rcsResult State.rcsCloseResult
    dsimp only
    split
    · split
      · split
        · exact fun h => absurd h unlocked
        · rcases OpResult.ofFlight_cases flight with rfl | ⟨b, rfl⟩ | rfl | rfl
          · exact fun h => absurd h (reclaims _)
          · exact fun _ => State.lockOut_noticed _ _ _
          · exact fun _ => State.lockOut_noticed _ _ _
          · unfold State.recloseEnded
            dsimp only
            split
            · exact judges _ _
            · exact fun _ => State.lockOut_noticed _ _ _
      · exact fun h => absurd h unlocked
    · split
      case h_4 => exact fun h => absurd h unlocked
      all_goals exact fun h => absurd h (settles (.inr (.inl rfl)))

/-- The result of an operation in flight moves the sequence of its switch, and no other (R112, R115, R116). -/
theorem State.rcsResult_ended {g : Group} (group : s.effectiveGroup k = some g) (flight : res.ofFlight = true) {judged : LockoutReason}
    (judges : res = .noMove → (s.runtime k).position = .opened → ∀ n c, (s.seq k).state = .reclosing n → (s.seq k).note = some c →
      s.recloseCheck k n c = some judged) (e : OpRequest) (j : SwitchNo) : (s.rcsResult k e.action e.classes res).seq j =
      if j = k then (s.seq k).ended e res (s.runtime k).position g.reclaim judged s.svu.minute else s.seq j := by
  obtain ⟨action, classes⟩ := e
  cases action with
  | toOpen => exact State.rcsOpenResult_seq flight classes g.reclaim judged s.svu.minute j
  | toClose => exact State.rcsCloseResult_seq group flight judges classes j

/-- A sequence out of service stands (R117). -/
theorem State.rcsResult_idle (idle : (s.seq k).state = .outOfService) (a : SwitchAction) (cs : Classes) : s.rcsResult k a cs res = s := by
  cases a with
  | toOpen =>
    unfold State.rcsResult State.rcsOpenResult
    simp only [idle]
  | toClose =>
    unfold State.rcsResult State.rcsCloseResult
    simp only [idle]
    split <;> rfl

end

end Sys2Proof.Machine
end

section
/-! The end of an operation in flight, whole: what it leaves, its sequence and the step that waited for it (R85, R86, R89). -/

namespace Sys2Proof.Machine

/-! ### What an operation that the hunt does not conclude on leaves -/

/-- The settings, the hold table and the sequences stand, and the records of the switches but for the polls wanted. -/
structure State.TablesStand (s t : State) : Prop where
  others : t.others = s.others
  rcs : t.rcs = s.rcs
  polls : s.PollsOnly t

theorem State.TablesStand.refl (s : State) : s.TablesStand s := ⟨rfl, rfl, .refl s⟩

theorem State.TablesStand.trans {s t u : State} (a : s.TablesStand t) (b : t.TablesStand u) : s.TablesStand u :=
  ⟨b.others.trans a.others, b.rcs.trans a.rcs, a.polls.trans b.polls⟩

theorem State.TablesStand.of_link {s t : State} (others : t.others = s.others) (rcs : t.rcs = s.rcs) (sou : t.sou = s.sou) :
    s.TablesStand t := ⟨others, rcs, .of_sou sou⟩

theorem State.Polled.tables {s t : State} (h : s.Polled t) : s.TablesStand t := by
  obtain ⟨others, rcs, -, -, polls⟩ := h
  exact ⟨others, rcs, polls⟩

theorem State.disturb_tables (s : State) : s.TablesStand s.disturb := by
  unfold State.disturb
  split
  · exact .of_link rfl rfl rfl
  · exact .refl s

theorem State.conditionReport_tables (s : State) (k : SwitchNo) : s.TablesStand (s.conditionReport k) := by
  have suspended : ∀ p, s.TablesStand (s.suspendCase p) := fun p => by
    have moved : s.TablesStand (State.notify
        { s with ehu.huntCase.state := .suspended, ehu.huntCase.listen := .stopped, ehu.huntCase.suspension := some p } .hunt) :=
      .of_link rfl rfl rfl
    exact moved.trans (State.checkResume_polled _).tables
  have pended : ∀ (u : State) p, u.TablesStand (u.pendCause p) := fun u p => by
    unfold State.pendCause
    split
    · exact .refl u
    · exact .of_link rfl rfl rfl
  unfold State.conditionReport
  split
  · exact s.checkResume_polled.tables
  · split
    · unfold State.causeArises
      split
      · exact suspended _
      · exact s.disturb_tables.trans (pended _ _)
      · exact .refl s
    · exact .refl s

/-- In STEPPING a change of another switch's condition than the head's is nothing to the case. -/
theorem State.conditionReport_stepping {s : State} (state : s.ehu.huntCase.state = .stepping) {k : SwitchNo} (other : k ≠ 0) :
    s.conditionReport k = s := by
  unfold State.conditionReport
  rw [if_neg (by simp [state]), if_neg (by simp [other])]

/-- The EHU concludes nothing on the result of an operation that is not the hunt's, nor on an OPEN done. -/
theorem State.huntResult_tables (s : State) (k : SwitchNo) {q : OpRequest} {res : OpResult}
    (plain : q.classes.hunt = false ∨ (q.action = .toOpen ∧ res = .done)) (changed : Bool) :
    s.TablesStand (s.huntResult k q res changed) := by
  unfold State.huntResult
  split
  · exact .refl s
  · split
    · split
      · exact s.disturb_tables
      · exact .refl s
    · split
      · exact .refl s
      next hunts =>
        have own : q.classes.hunt = true := by simpa using hunts
        obtain ⟨action, done⟩ := plain.resolve_left (by rw [own]; nofun)
        subst done
        split
        · exact .of_link rfl rfl rfl
        next close _ => rw [action] at close; cases close
        · exact .refl s

/-- A CLOSE neither the RCS's nor the hunt's, cancelled in the slot. -/
theorem State.cancelClose_tables {s : State} {k : SwitchNo}
    (plain : ∀ cs, (s.runtime k).slot = some ⟨.toClose, cs⟩ → cs.reclose = false ∧ cs.hunt = false) :
    (s.cancelClose k).others = s.others ∧ (s.cancelClose k).rcs = s.rcs := by
  unfold State.cancelClose
  split
  next cs slot =>
    obtain ⟨reclose, hunt⟩ := plain cs slot
    have recorded : ((s.setRuntime k { s.runtime k with slot := none }).endInSlot k ⟨.toClose, cs⟩ .cancelled)
        = (s.setRuntime k { s.runtime k with slot := none }).recordResult k ⟨.toClose, cs⟩ .cancelled := by
      unfold State.endInSlot State.rcsResult State.rcsCloseResult
      simp only [reclose, Bool.false_eq_true, if_false]
      split
      case h_4 => rfl
      all_goals contradiction
    have tables := State.huntResult_tables ((s.setRuntime k { s.runtime k with slot := none }).recordResult k ⟨.toClose, cs⟩ .cancelled) k
      (q := ⟨.toClose, cs⟩) (res := .cancelled) (.inl hunt) false
    rw [State.endRequest, recorded]
    exact ⟨tables.others, tables.rcs⟩
  · exact ⟨rfl, rfl⟩

/-- The record of the switch as the operation's end and the report of its condition leave it. -/
theorem State.landedReport_runtime (s : State) (k : SwitchNo) (q : OpRequest) (res : OpResult) (p : Position) :
    (s.landedReport k q res p).runtime k = { (s.runtime k).landed res p with
      lastResult := some ⟨q.action, q.classes, res⟩, pollWanted := ((s.landedReport k q res p).runtime k).pollWanted } := by
  have landed := (State.endInSlot_spec (s.setRuntime k ((s.runtime k).landed res p)) k q res).record
  rw [State.runtime_setRuntime_same] at landed
  unfold State.landedReport
  split
  · exact landed
  · have polls := (State.conditionReport_tables (s.landed k q res p) k).polls k
    rw [polls, show (s.landed k q res p).runtime k = _ from landed]

theorem State.landedReport_tables (s : State) (k : SwitchNo) (q : OpRequest) (res : OpResult) (p : Position) :
    (s.landedReport k q res p).others = s.others ∧ (s.landedReport k q res p).rcs = (s.landed k q res p).rcs := by
  have landed : (s.landed k q res p).others = s.others :=
    (State.endInSlot_spec (s.setRuntime k ((s.runtime k).landed res p)) k q res).others
  unfold State.landedReport
  split
  · exact ⟨landed, rfl⟩
  · have tables := State.conditionReport_tables (s.landed k q res p) k
    exact ⟨tables.others.trans landed, tables.rcs⟩

/-- What the end of an operation leaves where the hunt concludes nothing on it. -/
theorem State.endOperation_tables {s : State} {k : SwitchNo} {q : OpRequest} {res : OpResult}
    (plain : q.classes.hunt = false ∨ (q.action = .toOpen ∧ res = .done))
    (slot : res.fails = true → ∀ cs, (s.runtime k).slot = some ⟨.toClose, cs⟩ → cs.reclose = false ∧ cs.hunt = false) (p : Position) :
    (s.endOperation k q res p).others = s.others ∧ (s.endOperation k q res p).rcs = (s.landed k q res p).rcs := by
  obtain ⟨others, rcs⟩ := s.landedReport_tables k q res p
  have record := s.landedReport_runtime k q res p
  have tables := (s.landedReport k q res p).huntResult_tables k plain ((s.runtime k).position != p)
  rw [State.endOperation_eq]
  split
  next fails =>
    have plainClose : ∀ cs, (((s.landedReport k q res p).huntResult k q res ((s.runtime k).position != p)).runtime k).slot
        = some ⟨.toClose, cs⟩ → cs.reclose = false ∧ cs.hunt = false := fun cs waits => by
      rw [tables.polls k, record] at waits
      exact slot fails cs waits
    obtain ⟨others', rcs'⟩ := State.cancelClose_tables plainClose
    exact ⟨others'.trans (tables.others.trans others), rcs'.trans (tables.rcs.trans rcs)⟩
  · exact ⟨tables.others.trans others, tables.rcs.trans rcs⟩

/-- The last result is the operation's own where the hunt concludes nothing on it and no CLOSE is cancelled behind it. -/
theorem State.endOperation_result {s : State} {k : SwitchNo} {q : OpRequest} {res : OpResult}
    (plain : q.classes.hunt = false ∨ (q.action = .toOpen ∧ res = .done))
    (slot : res.fails = true → (s.runtime k).slot = none) (p : Position) :
    ((s.endOperation k q res p).runtime k).lastResult = some ⟨q.action, q.classes, res⟩ := by
  have record := s.landedReport_runtime k q res p
  have tables := (s.landedReport k q res p).huntResult_tables k plain ((s.runtime k).position != p)
  have here : (((s.landedReport k q res p).huntResult k q res ((s.runtime k).position != p)).runtime k).lastResult
      = some ⟨q.action, q.classes, res⟩ := by rw [tables.polls k, record]
  rw [State.endOperation_eq]
  split
  next fails =>
    have empty : (((s.landedReport k q res p).huntResult k q res ((s.runtime k).position != p)).runtime k).slot = none := by
      rw [tables.polls k, record]
      exact slot fails
    rw [State.cancelClose, empty]
    exact here
  · exact here

/-! ### The sequence (R112, R115, R116) -/

/-- The reach is read from the feeder model, the switches that count as closed and the free-value counter. -/
theorem State.reach_of_closed {s t : State} (draws : t.draws = s.draws) (fmu : t.fmu = s.fmu)
    (closed : ∀ j, (t.runtime j).countsClosed = (s.runtime j).countsClosed) (k : SwitchNo) : t.reach k = s.reach k := by
  simp only [State.reach, State.walkReach, fmu, draws, State.config_congr fmu, closed]

/-- R108's checks look at the switch's condition and profile, the reach, the holds and the settings. -/
theorem State.recloseCheck_congr {s t : State} {k : SwitchNo} (others : t.others = s.others)
    (closed : ∀ j, (t.runtime j).countsClosed = (s.runtime j).countsClosed) (condition : (t.runtime k).condition = (s.runtime k).condition)
    (profile : (t.runtime k).profileState = (s.runtime k).profileState) (confirmed : (t.runtime k).confirmed = (s.runtime k).confirmed)
    (used : Nat) (c : FaultClass) : t.recloseCheck k used c = s.recloseCheck k used c := by
  simp only [State.others, Prod.mk.injEq] at others
  obtain ⟨-, draws, -, fmu, htu, fsu, -⟩ := others
  have permitted : t.closePermitted k .automatic = s.closePermitted k .automatic := by
    simp only [State.closePermitted, State.blockers, State.slotsWhere, State.holdAt_congr htu,
      State.reach_of_closed draws fmu closed]
  have own : t.profileConfirmed k = s.profileConfirmed k := by
    simp only [State.profileConfirmed, profile, confirmed, State.requiredProfile_congr fmu fsu]
  simp only [State.recloseCheck, State.config_congr fmu, State.effectiveGroup_congr fmu fsu, permitted, own, condition]

/-- What the noted trip of a reclose that ends without a move is judged by (R82, R112). -/
def State.openedFailed (s : State) (k : SwitchNo) : State :=
  s.setRuntime k { s.runtime k with position := .opened, inFlight := none, mechanism := .stopped, condition := .failed }

/-- The sequence that an operation in flight leaves, its result handed to the RCS. -/
theorem State.landed_sequence {s : State} {k : SwitchNo} {q : OpRequest} {res : OpResult} {g : Group} (flight : res.ofFlight = true)
    (group : s.effectiveGroup k = some g) {judged : LockoutReason} (judges : ∀ n c, (s.seq k).state = .reclosing n →
      (s.seq k).note = some c → (s.openedFailed k).recloseCheck k n c = some judged) (p : Position) (j : SwitchNo) :
    (s.landed k q res p).seq j =
      if j = k then (s.seq k).ended q res p g.reclaim judged s.svu.minute else s.seq j := by
  have record : ∀ j, (((s.setRuntime k ((s.runtime k).landed res p)).recordResult k q res).runtime j) = if j = k then
      { (s.runtime k).landed res p with lastResult := some ⟨q.action, q.classes, res⟩ } else s.runtime j := fun j => by
    rw [State.recordResult_runtime, State.runtime_setRuntime_same]
    split
    · rfl
    next other => exact State.runtime_setRuntime_other _ _ other
  have ended := State.rcsResult_ended (s := (s.setRuntime k ((s.runtime k).landed res p)).recordResult k q res) (k := k) (g := g)
    group flight (judged := judged) (fun still opened n c state note => ?_) q j
  · rw [record k, if_pos rfl] at ended
    exact ended
  · subst still
    rw [record k, if_pos rfl] at opened
    have here' : p = .opened := opened
    subst here'
    rw [← judges n c state note]
    have here : (s.openedFailed k).runtime k = _ := State.runtime_setRuntime_same _ _ _
    have others : ((s.setRuntime k ((s.runtime k).landed .noMove .opened)).recordResult k q .noMove).others = (s.openedFailed k).others := rfl
    refine State.recloseCheck_congr others (fun i => ?_) ?_ ?_ ?_ n c
    · rw [record]
      by_cases same : i = k
      · rw [if_pos same, same, here]
        simp only [Runtime.countsClosed, Runtime.landed]
      · rw [if_neg same, State.openedFailed, State.runtime_setRuntime_other _ _ same]
    · rw [record, if_pos rfl, here]
      rfl
    · rw [record, if_pos rfl, here]
      rfl
    · rw [record, if_pos rfl, here]
      rfl

/-- The sequence behind an operation that the hunt concludes nothing on (R112, R115, R116). -/
theorem State.endOperation_sequence {s : State} {k : SwitchNo} {q : OpRequest} {res : OpResult} (flight : res.ofFlight = true)
    (plain : q.classes.hunt = false ∨ (q.action = .toOpen ∧ res = .done))
    (slot : res.fails = true → ∀ cs, (s.runtime k).slot = some ⟨.toClose, cs⟩ → cs.reclose = false ∧ cs.hunt = false) (p : Position) :
    s.sequenceFollows (s.endOperation k q res p) k q res p none := by
  obtain ⟨-, rcs⟩ := State.endOperation_tables plain slot p
  have landed : ∀ j, (s.endOperation k q res p).seq j = (s.landed k q res p).seq j := State.seq_of_rcs rcs
  have others := (State.endInSlot_spec (s.setRuntime k ((s.runtime k).landed res p)) k q res).seq
  have notices : ∀ n, (s.landed k q res p).noticed n → (s.endOperation k q res p).noticed n := fun n told => by
    have reported : (s.landedReport k q res p).noticed n := by
      unfold State.landedReport
      split
      · exact told
      · exact (State.conditionReport_followed _ _).notices _ told
    have handed := (State.huntResult_followed (s.landedReport k q res p) k q res ((s.runtime k).position != p)).notices _ reported
    rw [State.endOperation_eq]
    split
    · exact (State.cancelClose_followed _ _).notices _ handed
    · exact handed
  refine ⟨fun j other => (landed j).trans (others j other), fun idle => ?_, fun g judged group judges => ?_⟩
  · rw [landed]
    have same : s.landed k q res p = (s.setRuntime k ((s.runtime k).landed res p)).recordResult k q res :=
      State.rcsResult_idle (s := (s.setRuntime k ((s.runtime k).landed res p)).recordResult k q res) idle _ _
    rw [same]
    rfl
  · have ended := (State.landed_sequence (q := q) flight group judges p k).trans (if_pos rfl)
    refine ⟨(landed k).trans ended, fun locked unlocked => notices _ ?_⟩
    refine State.rcsResult_lockout (s := (s.setRuntime k ((s.runtime k).landed res p)).recordResult k q res) flight q.action q.classes
      ?_ unlocked
    exact (congrArg Sequence.state ended).trans locked

/-! ### The step of the hunt (R140, R144, R145) -/

theorem State.endOperation_follows {s : State} {k : SwitchNo} {q : OpRequest} {res : OpResult} {p : Position}
    (flight : res.ofFlight = true) (silent : res = .noAnswer → p = .unknown) :
    s.huntFollows (s.endOperation k q res p) k q res p ∧ (s.runningCounted → (s.endOperation k q res p).runningCounted) := by
  refine ⟨fun state other hunt => ?_, fun h => runningCounted_base.endOperation h k q res p⟩
  have quiet : (s.setRuntime k ((s.runtime k).landed res p)).ehu.huntCase.state ≠ .suspended := by
    rw [show (s.setRuntime k ((s.runtime k).landed res p)).ehu.huntCase.state = .stepping from state]
    nofun
  have ehu : (s.landed k q res p).ehu = { s.ehu with runningCount := (s.landed k q res p).ehu.runningCount } :=
    (State.endInSlot_quiet quiet k q res).1
  have stepping : (s.landed k q res p).ehu.huntCase.state = .stepping := by
    rw [ehu]
    exact state
  have same : s.landedReport k q res p = s.landed k q res p := by
    unfold State.landedReport
    split
    · rfl
    · exact State.conditionReport_stepping stepping other
  have record := s.landedReport_runtime k q res p
  have counted : s.runningCounted → (s.landedReport k q res p).runningCounted := fun h => by
    rw [same]
    exact runningCounted_base.endInSlot (runningCounted_base.setRuntime h _ _) k q res
  rw [← same] at ehu
  have follows := State.huntResult_follows (s := s) (v := s.landedReport k q res p) (k := k) (e := q) (now := p) flight
    (by rw [record]; rfl) silent (by rw [ehu]) (by rw [ehu]) (by rw [ehu]) (by rw [ehu]) counted ((s.runtime k).position != p)
  have counted' : s.runningCounted → ((s.landedReport k q res p).huntResult k q res ((s.runtime k).position != p)).runningCounted :=
    fun h => runningCounted_base.huntResult (counted h) _ _ _ _
  have whole : s.huntFollows (s.endOperation k q res p) k q res p := by
    rw [State.endOperation_eq]
    split
    next fails =>
      refine follows.carried (fun ends => State.cancelClose_trails ?_ k) counted'
      refine ends.resolve_left fun done => ?_
      rw [done] at fails
      cases fails
    · exact follows
  exact whole state other hunt

end Sys2Proof.Machine
end

section
/-! The messages not answered and the moves not reported (R84, R85, R86). -/

namespace Sys2Proof.Machine

/-! ### An operation that ends after the link is freed or a switch is heard -/

/-- What is done before an operation ends: of the records of the switches the conditions and the polls wanted may change. -/
structure State.Prepared (s u : State) : Prop where
  rcs : u.rcs = s.rcs
  others : u.others = s.others
  runtime : ∀ j, u.runtime j = { s.runtime j with condition := (u.runtime j).condition, pollWanted := (u.runtime j).pollWanted }
  stepping : s.ehu.huntCase.state = .stepping → u.ehu = s.ehu
  count : u.ehu.runningCount = s.ehu.runningCount

theorem State.freeLink_prepared (s : State) : s.Prepared s.freeLink := ⟨rfl, rfl, fun _ => rfl, fun _ => rfl, rfl⟩

theorem State.Prepared.trans {s t u : State} (a : s.Prepared t) (b : t.Prepared u) : s.Prepared u :=
  ⟨b.rcs.trans a.rcs, b.others.trans a.others, fun j => by rw [b.runtime j, a.runtime j],
    fun h => (b.stepping (by rw [a.stepping h]; exact h)).trans (a.stepping h), b.count.trans a.count⟩

theorem State.Prepared.refl (s : State) : s.Prepared s := ⟨rfl, rfl, fun _ => rfl, fun _ => rfl, rfl⟩

theorem State.Prepared.counted {s u : State} (h : s.Prepared u) (counted : s.runningCounted) : u.runningCounted :=
  State.runningCounted_congr (fun k => by rw [State.seq_of_rcs h.rcs]) h.count counted

theorem State.hear_prepared (s : State) (k : SwitchNo) : s.Prepared (s.hear k) := by
  refine ⟨(s.hear_stand k).1, (s.hear_attended k).others, fun j => by rw [s.hear_runtime], fun stepping => ?_, (s.hear_stand k).2⟩
  rw [State.hear_eq]
  split
  · rw [if_neg (by rw [stepping]; nofun)]
    rfl
  · rfl

/-- The sequence that follows, told of the state before what was done first. -/
theorem State.Prepared.sequenceFollows {s u t : State} {k : SwitchNo} {q : OpRequest} {res : OpResult} {now : Position}
    {report : Option Pole} (h : s.Prepared u) (follows : u.sequenceFollows t k q res now report) :
    s.sequenceFollows t k q res now report := by
  obtain ⟨rcs, others, runtime, -, -⟩ := h
  have seq : ∀ j, u.seq j = s.seq j := State.seq_of_rcs rcs
  obtain ⟨-, -, -, fmu, -, fsu, svu⟩ : _ ∧ _ ∧ _ ∧ u.fmu = s.fmu ∧ _ ∧ u.fsu = s.fsu ∧ u.svu = s.svu := by
    simpa only [State.others, Prod.mk.injEq] using others
  obtain ⟨there, idle, here⟩ := follows
  refine ⟨fun j other => (there j other).trans (seq j), fun out => ?_, fun g judged group judges => ?_⟩
  · rw [← seq k] at out ⊢
    exact idle out
  · have failed : ∀ j, (u.openedFailed k).runtime j = { (s.openedFailed k).runtime j with
        condition := ((u.openedFailed k).runtime j).condition, pollWanted := ((u.openedFailed k).runtime j).pollWanted } := fun j => by
      unfold State.openedFailed
      by_cases same : j = k
      · rw [same, State.runtime_setRuntime_same, State.runtime_setRuntime_same, runtime k]
      · rw [State.runtime_setRuntime_other _ _ same, State.runtime_setRuntime_other _ _ same, runtime j]
    have condition : ((u.openedFailed k).runtime k).condition = ((s.openedFailed k).runtime k).condition := by
      simp only [State.openedFailed, State.runtime_setRuntime_same]
    have check := State.recloseCheck_congr (s := s.openedFailed k) (t := u.openedFailed k) (k := k) others
      (fun j => by rw [failed]; rfl) condition (by rw [failed]) (by rw [failed])
    have after := here g judged ((State.effectiveGroup_congr fmu fsu k).trans group) (fun n c state note => by
      rw [seq k] at state note
      exact (check n c).trans (judges n c state note))
    rw [seq k, svu] at after
    exact after

/-- The step of the hunt that follows, told of the state before what was done first. -/
theorem State.Prepared.huntFollows {s u t : State} {k : SwitchNo} {q : OpRequest} {res : OpResult} {now : Position}
    (h : s.Prepared u) (follows : u.huntFollows t k q res now) : s.huntFollows t k q res now := by
  intro state other hunt
  have ehu := h.stepping state
  have before : ∀ {o own}, u.stepEnds t k o own → s.stepEnds t k o own := fun ends =>
    ends.before (by rw [ehu]) (by rw [ehu]) (by rw [ehu]) (by rw [ehu]) (by rw [ehu]) h.counted
  obtain ⟨opening, closing⟩ := follows (by rw [ehu]; exact state) other hunt
  rw [ehu] at opening closing
  refine ⟨fun o step action => ?_, fun o step action => ?_⟩
  · have follows := opening o step action
    by_cases done : res = .done
    · rw [if_pos done] at follows ⊢
      exact follows
    · rw [if_neg done] at follows ⊢
      exact ⟨before follows.1, follows.2⟩
  · have follows := closing o step action
    by_cases done : res = .done
    · rw [if_pos done] at follows ⊢
      exact before follows
    · rw [if_neg done] at follows ⊢
      exact ⟨before follows.1, follows.2⟩

/-- What an operation in flight leaves that ends at a position, told of the state before what was done first. -/
structure State.OperationEnds (s t : State) (k : SwitchNo) (q : OpRequest) (res : OpResult) (p : Position) : Prop where
  inFlight : (t.runtime k).inFlight = none
  mechanism : (t.runtime k).mechanism = .stopped
  position : (t.runtime k).position = p
  failed : res.fails = true → (t.runtime k).condition = .failed
  told : t.noticed .operation
  result : q.classes.hunt = false ∨ (q.action = .toOpen ∧ res = .done) → (res.fails = true → (s.runtime k).slot = none) →
    (t.runtime k).lastResult = some ⟨q.action, q.classes, res⟩
  sequence : q.classes.hunt = false ∨ (q.action = .toOpen ∧ res = .done) →
    (res.fails = true → ∀ cs, (s.runtime k).slot = some ⟨.toClose, cs⟩ → cs.reclose = false ∧ cs.hunt = false) →
    s.sequenceFollows t k q res p none
  hunt : s.huntFollows t k q res p

theorem State.Prepared.endOperation {s u : State} (h : s.Prepared u) {k : SwitchNo} {q : OpRequest} {res : OpResult} {p : Position}
    (flight : res.ofFlight = true) (silent : res = .noAnswer → p = .unknown) :
    s.OperationEnds (u.endOperation k q res p) k q res p := by
  obtain ⟨-, -, -, here, -, -⟩ := u.endOperation_frame k q res p
  have slot : (u.runtime k).slot = (s.runtime k).slot := by rw [h.runtime]
  refine ⟨by rw [here]; rfl, by rw [here]; rfl, by rw [here]; rfl, fun fails => ?_, u.endOperation_told k q res p, fun plain empty => ?_,
    fun plain closes => ?_, h.huntFollows (State.endOperation_follows flight silent).1⟩
  · rw [here]
    exact if_pos fails
  · exact State.endOperation_result plain (fun fails => slot.trans (empty fails)) p
  · refine h.sequenceFollows (State.endOperation_sequence flight plain (fun fails cs => ?_) p)
    rw [slot]
    exact closes fails cs

/-! ### A switch that falls SILENT (R83, R84) -/

/-- A SOUND switch falls SILENT; the sequences and the settings stand, and the records of the switches but for the polls wanted. -/
theorem State.fallSilent_spec (s : State) (k : SwitchNo) :
    (s.fallSilent k).others = s.others ∧ (s.fallSilent k).rcs = s.rcs
      ∧ (s.fallSilent k).sou = { s.sou with runtime := (s.fallSilent k).sou.runtime }
      ∧ ∀ j, (s.fallSilent k).runtime j = { s.runtime j with
          condition := if j = k ∧ (s.runtime k).condition = .sound then .silent else (s.runtime j).condition
          pollWanted := ((s.fallSilent k).runtime j).pollWanted } := by
  by_cases sound : (s.runtime k).condition = .sound
  · have falls : s.fallSilent k = (s.setRuntime k { s.runtime k with condition := .silent }).conditionReport k := by
      rw [State.fallSilent, if_pos sound, State.setCondition, if_neg (by rw [sound]; nofun)]
    have tables := (s.setRuntime k { s.runtime k with condition := .silent }).conditionReport_tables k
    have followed := (s.setRuntime k { s.runtime k with condition := .silent }).conditionReport_followed k
    rw [falls]
    refine ⟨tables.others, tables.rcs, followed.sou, fun j => ?_⟩
    rw [tables.polls j]
    by_cases same : j = k
    · rw [same, State.runtime_setRuntime_same, if_pos ⟨rfl, sound⟩]
    · rw [State.runtime_setRuntime_other _ _ same, if_neg fun h => same h.1]
  · have stands : s.fallSilent k = s := if_neg sound
    rw [stands]
    exact ⟨rfl, rfl, rfl, fun j => by rw [if_neg fun h => sound h.2]⟩

end Sys2Proof.Machine
end

section
/-! The answer timer and the mechanism timers expire (R84, R85, R86). -/

namespace Sys2Proof.Machine

/-! ### No reply (R84) -/

theorem State.noReply_operate {s : State} {a : Awaited} {f : InFlight} (held : a.withdrawn = false) (kind : a.kind = .operate)
    (flies : (s.runtime a.switch).inFlight = some f) :
    s.noReply a = s.freeLink.endOperation a.switch f.request .noAnswer .unknown := by
  have flies' : (s.freeLink.runtime a.switch).inFlight = some f := flies
  simp [State.noReply, held, kind, flies']

theorem State.noReply_operate_idle {s : State} {a : Awaited} (held : a.withdrawn = false) (kind : a.kind = .operate)
    (idle : (s.runtime a.switch).inFlight = none) : s.noReply a = s.freeLink := by
  have idle' : (s.freeLink.runtime a.switch).inFlight = none := idle
  simp [State.noReply, held, kind, idle']

/-- The profile state of a switch whose SET PROFILE had no answer (R98). -/
def State.unansweredPush (s : State) (k : SwitchNo) : State := s.setRuntime k { s.runtime k with profileState := .noAnswer }

theorem State.noReply_setProfile {s : State} {a : Awaited} {code : Nat} (held : a.withdrawn = false) (kind : a.kind = .setProfile code) :
    s.noReply a = ((s.freeLink.unansweredPush a.switch).fallSilent a.switch).notify .profile := by
  simp [State.noReply, held, kind, State.unansweredPush]

theorem State.noReply_poll {s : State} {a : Awaited} {cls : PollClass} (held : a.withdrawn = false) (kind : a.kind = .poll cls) :
    s.noReply a = s.freeLink.fallSilent a.switch := by
  simp [State.noReply, held, kind]

/-- What no reply leaves where no operation waited for it. -/
structure State.Unanswered (s t : State) (k : SwitchNo) : Prop where
  others : t.others = s.others
  rcs : t.rcs = s.rcs
  sou : t.sou = { s.sou with awaited := none, answerTimer := .stopped, runtime := t.sou.runtime }
  runtime : ∀ j, t.runtime j = { s.runtime j with
    condition := if j = k ∧ (s.runtime k).condition = .sound then .silent else (s.runtime j).condition
    pollWanted := (t.runtime j).pollWanted, profileState := (t.runtime j).profileState }

theorem State.noReply_poll_unanswered {s : State} {a : Awaited} {cls : PollClass} (held : a.withdrawn = false)
    (kind : a.kind = .poll cls) : s.Unanswered (s.noReply a) a.switch := by
  rw [State.noReply_poll held kind]
  obtain ⟨others, rcs, sou, runtime⟩ := s.freeLink.fallSilent_spec a.switch
  exact ⟨others, rcs, sou, fun j => by rw [runtime j]; rfl⟩

theorem State.noReply_push_unanswered {s : State} {a : Awaited} {code : Nat} (held : a.withdrawn = false)
    (kind : a.kind = .setProfile code) : s.Unanswered (s.noReply a) a.switch
      ∧ ((s.noReply a).runtime a.switch).profileState = .noAnswer ∧ (s.noReply a).noticed .profile := by
  rw [State.noReply_setProfile held kind]
  have marked : ∀ j, (s.freeLink.unansweredPush a.switch).runtime j = { s.runtime j with
      profileState := if j = a.switch then .noAnswer else (s.runtime j).profileState } := fun j => by
    unfold State.unansweredPush
    by_cases same : j = a.switch
    · rw [same, State.runtime_setRuntime_same, if_pos rfl]
      rfl
    · rw [State.runtime_setRuntime_other _ _ same, if_neg same]
      rfl
  obtain ⟨others, rcs, sou, runtime⟩ := (s.freeLink.unansweredPush a.switch).fallSilent_spec a.switch
  have records : ∀ j, (State.notify ((s.freeLink.unansweredPush a.switch).fallSilent a.switch) .profile).runtime j = _ := runtime
  refine ⟨⟨others, rcs, sou, fun j => ?_⟩, ?_, State.noticed_notify _ _⟩
  · rw [records j, marked j, marked a.switch]
  · rw [records a.switch, marked a.switch]
    exact if_pos rfl

theorem State.noReply_unanswered {s : State} {a : Awaited} (held : a.withdrawn = false) (kind : a.kind ≠ .operate) :
    s.Unanswered (s.noReply a) a.switch := by
  cases e : a.kind with
  | operate => exact absurd e kind
  | setProfile code => exact (State.noReply_push_unanswered held e).1
  | poll cls => exact State.noReply_poll_unanswered held e

/-- What no reply leaves of the link, the settings and the other switches. -/
theorem State.noReply_frame {s : State} {a : Awaited} (held : a.withdrawn = false) :
    (s.noReply a).sou = { s.sou with awaited := none, answerTimer := .stopped, runtime := (s.noReply a).sou.runtime }
      ∧ (∀ j, j ≠ a.switch → ((s.noReply a).runtime j).position = (s.runtime j).position
          ∧ ((s.noReply a).runtime j).inFlight = (s.runtime j).inFlight
          ∧ ((s.noReply a).runtime j).condition = (s.runtime j).condition)
      ∧ (s.noReply a).fsu = s.fsu ∧ (s.noReply a).svu = s.svu ∧ (s.noReply a).lines = s.lines := by
  by_cases kind : a.kind = .operate
  · cases flies : (s.runtime a.switch).inFlight with
    | none =>
      rw [State.noReply_operate_idle held kind flies]
      exact ⟨rfl, fun _ _ => ⟨rfl, rfl, rfl⟩, rfl, rfl, rfl⟩
    | some f =>
      rw [State.noReply_operate held kind flies]
      obtain ⟨settings, sou, elsewhere, -⟩ := s.freeLink.endOperation_frame a.switch f.request .noAnswer .unknown
      refine ⟨sou, fun j other => ?_, settings⟩
      rw [elsewhere j other]
      exact ⟨rfl, rfl, rfl⟩
  · obtain ⟨others, -, sou, runtime⟩ := State.noReply_unanswered (s := s) held kind
    simp only [State.others, Prod.mk.injEq] at others
    obtain ⟨-, -, lines, -, -, fsu, svu⟩ := others
    refine ⟨sou, fun j other => ?_, fsu, svu, lines⟩
    rw [runtime j]
    exact ⟨rfl, rfl, if_neg fun h => other h.1⟩

/-! ### Settling the expiries -/

/-- Settles O42. -/
theorem unansweredMessagesAndMoves : Obligations.UnansweredMessagesAndMoves := by
  unfold Obligations.UnansweredMessagesAndMoves
  intro s hs
  refine ⟨fun a running awaits => ?_, fun k q running flies => ?_⟩
  · have expires : exec .answerTimerExpiry s = .next (s.noReply a).arbitrate := by
      have taken : s.answerExpired = s.noReply a := by simp only [State.answerExpired, awaits]
      rw [← taken]
      exact congrArg Host.Outcome.next (State.expiry_working hs (·.sou.answerTimer) linkReads State.answerExpired running)
    refine ⟨fun withdrawn => expires.trans ?_, fun held => ⟨s.noReply a, expires, ?_⟩⟩
    · have freed : s.noReply a = s.freeLink := if_pos withdrawn
      rw [freed]
      rfl
    · obtain ⟨sou, elsewhere, settings⟩ := State.noReply_frame (s := s) held
      have ends : ∀ f, a.kind = .operate → (s.runtime a.switch).inFlight = some f →
          s.OperationEnds (s.noReply a) a.switch f.request .noAnswer .unknown := fun f kind flies => by
        rw [State.noReply_operate held kind flies]
        exact s.freeLink_prepared.endOperation rfl fun _ => rfl
      refine ⟨by rw [sou], by rw [sou], by rw [sou], elsewhere, fun f kind flies => ?_, fun f kind flies => ?_, fun kind => ?_,
        fun code kind => (State.noReply_push_unanswered held kind).2, settings⟩
      · obtain ⟨inFlight, mechanism, position, failed, told, result, -, -⟩ := ends f kind flies
        exact ⟨inFlight, position, failed rfl, mechanism, told, fun plain empty => result (.inl plain) fun _ => empty⟩
      · obtain ⟨-, -, -, -, -, -, sequence, hunt⟩ := ends f kind flies
        exact ⟨fun plain closes => sequence (.inl plain) fun _ => closes, hunt⟩
      · obtain ⟨others, rcs, -, runtime⟩ := State.noReply_unanswered (s := s) held kind
        simp only [State.others, Prod.mk.injEq] at others
        obtain ⟨-, -, -, -, htu, -⟩ := others
        have here := runtime a.switch
        refine ⟨by rw [here], by rw [here], rcs, htu, ?_⟩
        rw [here]
        simp only [true_and]
  · have expires : exec (.mechanismTimerExpiry k) s = .next (s.endOperation k q .noMove .unknown).arbitrate := by
      have taken : s.noMove k = s.endOperation k q .noMove .unknown := by rw [State.noMove, State.moveAwaited_some flies]
      rw [← taken]
      exact congrArg Host.Outcome.next
        (State.expiry_working hs (fun t => (t.runtime k).mechanism) linkReads (·.noMove k) running)
    obtain ⟨settings, sou, -⟩ := s.endOperation_frame k q .noMove .unknown
    obtain ⟨inFlight, mechanism, position, failed, told, result, sequence, hunt⟩ :=
      (State.Prepared.refl s).endOperation (k := k) (q := q) (res := .noMove) (p := .unknown) rfl nofun
    exact ⟨_, expires, inFlight, position, failed rfl, mechanism, told, by rw [sou],
      fun plain empty => result (.inl plain) fun _ => empty, fun plain closes => sequence (.inl plain) fun _ => closes, hunt, settings⟩

end Sys2Proof.Machine
end

section
/-! The ANSWER of a switch (R84, R85, R98). -/

namespace Sys2Proof.Machine

/-- The switch heard, and the link freed. -/
def State.answered (s : State) (k : SwitchNo) : State := (s.hear k).freeLink

theorem State.answered_prepared (s : State) (k : SwitchNo) : s.Prepared (s.answered k) :=
  (s.hear_prepared k).trans (s.hear k).freeLink_prepared

theorem State.answered_rqi (s : State) (k : SwitchNo) : (s.answered k).rqi = s.rqi := s.hear_rqi k

theorem State.Prepared.fields {s u : State} (h : s.Prepared u) :
    u.lines = s.lines ∧ u.fmu = s.fmu ∧ u.htu = s.htu ∧ u.fsu = s.fsu ∧ u.svu = s.svu := by
  have others := h.others
  simp only [State.others, Prod.mk.injEq] at others
  obtain ⟨-, -, lines, fmu, htu, fsu, svu⟩ := others
  exact ⟨lines, fmu, htu, fsu, svu⟩

/-! ### What is done with an ANSWER, by what is awaited -/

section
variable {s : State} {k : SwitchNo}

theorem State.takeAnswer_operate (awaits : s.awaitedFrom k = some .operate) (accepted : Bool) (reason : Byte) :
    s.takeAnswer k accepted reason = (s.answered k).operateAnswered k accepted reason := by
  rw [← s.hear_awaitedFrom k k] at awaits
  simp only [State.takeAnswer, awaits, State.answered]

theorem State.takeAnswer_setProfile {code : Nat} (awaits : s.awaitedFrom k = some (.setProfile code)) (accepted : Bool) (reason : Byte) :
    s.takeAnswer k accepted reason = (s.answered k).profileAnswered k code accepted := by
  rw [← s.hear_awaitedFrom k k] at awaits
  simp only [State.takeAnswer, awaits, State.answered]

theorem State.takeAnswer_none (awaits : s.awaitedFrom k = none) (accepted : Bool) (reason : Byte) :
    s.takeAnswer k accepted reason = s.hear k := by
  rw [← s.hear_awaitedFrom k k] at awaits
  simp only [State.takeAnswer, awaits]

theorem State.takeAnswer_poll {cls : PollClass} (awaits : s.awaitedFrom k = some (.poll cls)) (accepted : Bool) (reason : Byte) :
    s.takeAnswer k accepted reason = s.hear k := by
  rw [← s.hear_awaitedFrom k k] at awaits
  simp only [State.takeAnswer, awaits]

/-- The mechanism time of a switch, in its record (R86). -/
def State.mechanismTime (s : State) (k : SwitchNo) : Nat := ((s.config k).map (·.mechanism)).getD 0

theorem State.operateAnswered_accepted {f : InFlight} (flies : (s.runtime k).inFlight = some f) (reason : Byte) :
    s.operateAnswered k true reason = s.setRuntime k { s.runtime k with
      inFlight := some { f with phase := .awaitMove }, mechanism := .start (s.mechanismTime k) } := by
  simp only [State.operateAnswered, flies, if_true]
  rfl

theorem State.operateAnswered_refused {f : InFlight} (flies : (s.runtime k).inFlight = some f) (reason : Byte) :
    s.operateAnswered k false reason = s.endOperation k f.request (.refusedByUnit reason) (s.runtime k).position := by
  simp only [State.operateAnswered, flies, Bool.false_eq_true, if_false]

theorem State.operateAnswered_idle (idle : (s.runtime k).inFlight = none) (accepted : Bool) (reason : Byte) :
    s.operateAnswered k accepted reason = s := by
  simp only [State.operateAnswered, idle]

end

/-! ### What every ANSWER leaves alone -/

/-- The settings and the positions stand, and the switch that answered is not SILENT. -/
structure State.AnswerTaken (s t : State) (k : SwitchNo) : Prop where
  fsu : t.fsu = s.fsu
  svu : t.svu = s.svu
  lines : t.lines = s.lines
  positions : ∀ j, (t.runtime j).position = (s.runtime j).position
  heard : (t.runtime k).condition ≠ .silent

theorem State.hear_taken (s : State) (k : SwitchNo) : s.AnswerTaken (s.hear k) k := by
  obtain ⟨lines, -, -, fsu, svu⟩ := (s.hear_prepared k).fields
  refine ⟨fsu, svu, lines, fun j => by rw [s.hear_runtime], ?_⟩
  rw [s.hear_runtime]
  by_cases silent : (s.runtime k).condition = .silent
  · rw [if_pos ⟨rfl, silent⟩]
    nofun
  · rw [if_neg fun h => silent h.2]
    exact silent

theorem State.answered_taken (s : State) (k : SwitchNo) : s.AnswerTaken (s.answered k) k := by
  obtain ⟨fsu, svu, lines, positions, heard⟩ := s.hear_taken k
  exact ⟨fsu, svu, lines, positions, heard⟩

/-- A record written that keeps the position and the condition. -/
theorem State.AnswerTaken.written {s t : State} {k : SwitchNo} (h : s.AnswerTaken t k) {r : Runtime}
    (position : r.position = (t.runtime k).position) (condition : r.condition = (t.runtime k).condition) :
    s.AnswerTaken (t.setRuntime k r) k := by
  obtain ⟨fsu, svu, lines, positions, heard⟩ := h
  refine ⟨fsu, svu, lines, fun j => ?_, ?_⟩
  · by_cases same : j = k
    · rw [same, State.runtime_setRuntime_same, position]
      exact positions k
    · rw [State.runtime_setRuntime_other _ _ same]
      exact positions j
  · rw [State.runtime_setRuntime_same, condition]
    exact heard

/-- An operation refused by the unit ends where the switch stands. -/
theorem State.AnswerTaken.refused {s t : State} {k : SwitchNo} (h : s.AnswerTaken t k) (q : OpRequest) (reason : Byte) :
    s.AnswerTaken (t.endOperation k q (.refusedByUnit reason) (t.runtime k).position) k := by
  obtain ⟨fsu, svu, lines, positions, heard⟩ := h
  obtain ⟨⟨fsu', svu', lines'⟩, -, elsewhere, here, -⟩ := t.endOperation_frame k q (.refusedByUnit reason) (t.runtime k).position
  refine ⟨fsu'.trans fsu, svu'.trans svu, lines'.trans lines, fun j => ?_, ?_⟩
  · by_cases same : j = k
    · rw [same, here]
      exact positions k
    · rw [elsewhere j same]
      exact positions j
  · rw [here]
    exact heard

theorem State.profileAnswered_cases (s : State) (k : SwitchNo) (code : Nat) (accepted : Bool) :
    s.profileAnswered k code accepted =
      if accepted = true then s.setRuntime k { s.runtime k with
        confirmed := some code
        profileState := match s.requiredProfile k with
          | some d => if d = code then .confirmed else .pending
          | none => (s.runtime k).profileState
        pushWanted := match s.requiredProfile k with
          | some d => if d = code then (s.runtime k).pushWanted else true
          | none => (s.runtime k).pushWanted }
      else (s.setRuntime k { s.runtime k with profileState := .refused }).notify .profile := by
  unfold State.profileAnswered
  cases accepted with
  | false => rfl
  | true =>
    dsimp only
    rw [if_pos rfl, if_pos rfl]
    cases s.requiredProfile k with
    | none => rfl
    | some d =>
      dsimp only
      by_cases same : d = code
      · rw [if_pos same, if_pos same, if_pos same]
      · rw [if_neg same, if_neg same, if_neg same]

theorem State.AnswerTaken.profile {s t : State} {k : SwitchNo} (h : s.AnswerTaken t k) (code : Nat) (accepted : Bool) :
    s.AnswerTaken (t.profileAnswered k code accepted) k := by
  rw [State.profileAnswered_cases]
  split
  · exact h.written rfl rfl
  · obtain ⟨fsu, svu, lines, positions, heard⟩ := h.written (r := { t.runtime k with profileState := .refused }) rfl rfl
    exact ⟨fsu, svu, lines, positions, heard⟩

theorem State.takeAnswer_taken (s : State) (k : SwitchNo) (accepted : Bool) (reason : Byte) :
    s.AnswerTaken (s.takeAnswer k accepted reason) k := by
  cases awaits : s.awaitedFrom k with
  | none =>
    rw [State.takeAnswer_none awaits]
    exact s.hear_taken k
  | some kind =>
    cases kind with
    | poll cls =>
      rw [State.takeAnswer_poll awaits]
      exact s.hear_taken k
    | setProfile code =>
      rw [State.takeAnswer_setProfile awaits]
      exact (s.answered_taken k).profile code accepted
    | operate =>
      rw [State.takeAnswer_operate awaits]
      cases flies : ((s.answered k).runtime k).inFlight with
      | none =>
        rw [State.operateAnswered_idle flies]
        exact s.answered_taken k
      | some f =>
        cases accepted with
        | true =>
          rw [State.operateAnswered_accepted flies]
          exact (s.answered_taken k).written rfl rfl
        | false =>
          rw [State.operateAnswered_refused flies]
          exact (s.answered_taken k).refused f.request reason

/-! ### Settling the ANSWER -/

/-- Settles O36. -/
theorem answerFrameTaken : Obligations.AnswerFrameTaken := by
  unfold Obligations.AnswerFrameTaken
  intro s address k accepted reason hs owner
  refine ⟨s.takeAnswer k accepted reason, congrArg Host.Outcome.next (State.fromUnit_working hs owner _), ?_⟩
  obtain ⟨fsu, svu, lines, positions, heard⟩ := s.takeAnswer_taken k accepted reason
  have prepared := s.answered_prepared k
  obtain ⟨lines', fmu', htu', fsu', svu'⟩ := prepared.fields
  have record := prepared.runtime k
  have flies : ∀ {f}, (s.runtime k).inFlight = some f → ((s.answered k).runtime k).inFlight = some f := fun h => by
    rw [record]
    exact h
  refine ⟨fsu, svu, lines, positions, heard, fun awaits sound => ?_, fun f c awaits inFlight config accepts => ?_,
    fun f awaits inFlight plain refuses => ?_, fun f awaits inFlight refuses => ?_, fun code awaits => ?_⟩
  · rw [State.takeAnswer_none awaits, State.hear_heard sound]
  · have time : (s.answered k).mechanismTime k = c.mechanism := by
      rw [State.mechanismTime, State.config_congr fmu' k, config]
      rfl
    rw [State.takeAnswer_operate awaits, accepts, State.operateAnswered_accepted (flies inFlight), State.runtime_setRuntime_same, time]
    exact ⟨rfl, rfl, rfl, rfl, prepared.rcs, s.answered_rqi k, fmu', htu'⟩
  · rw [State.takeAnswer_operate awaits, refuses, State.operateAnswered_refused (flies inFlight)]
    obtain ⟨-, sou, -⟩ := (s.answered k).endOperation_frame k f.request (.refusedByUnit reason) ((s.answered k).runtime k).position
    obtain ⟨inFlight', mechanism, -, -, told, result, -, -⟩ :=
      prepared.endOperation (k := k) (q := f.request) (res := .refusedByUnit reason) (p := ((s.answered k).runtime k).position) rfl nofun
    obtain ⟨others, -⟩ := State.endOperation_tables (s := s.answered k) (k := k) (q := f.request) (res := .refusedByUnit reason)
      (.inl plain) nofun ((s.answered k).runtime k).position
    simp only [State.others, Prod.mk.injEq] at others
    obtain ⟨-, -, -, fmu, htu, -⟩ := others
    exact ⟨by rw [sou]; rfl, by rw [sou]; rfl, inFlight', mechanism, result (.inl plain) nofun, told, fmu.trans fmu', htu.trans htu'⟩
  · rw [State.takeAnswer_operate awaits, refuses, State.operateAnswered_refused (flies inFlight)]
    have stands : ((s.answered k).runtime k).position = (s.runtime k).position := by rw [record]
    rw [stands]
    obtain ⟨-, -, -, -, -, -, sequence, hunt⟩ :=
      prepared.endOperation (k := k) (q := f.request) (res := .refusedByUnit reason) (p := (s.runtime k).position) rfl nofun
    exact ⟨fun plain => sequence (.inl plain) nofun, hunt⟩
  · have required : (s.answered k).requiredProfile k = s.requiredProfile k := State.requiredProfile_congr fmu' fsu' k
    rw [State.takeAnswer_setProfile awaits, State.profileAnswered_cases]
    cases accepted with
    | true =>
      rw [if_pos rfl, State.runtime_setRuntime_same, required]
      refine ⟨rfl, rfl, prepared.rcs, fmu', htu', fun _ => ⟨rfl, s.answered_rqi k, fun same => ?_, fun d needs differs => ?_⟩, nofun⟩
      · rw [same]
        exact if_pos rfl
      · rw [needs]
        exact ⟨if_neg differs, if_neg differs⟩
    | false =>
      rw [if_neg Bool.false_ne_true]
      have here : (State.notify ((s.answered k).setRuntime k { (s.answered k).runtime k with profileState := .refused }) .profile).runtime k
          = { (s.answered k).runtime k with profileState := .refused } := State.runtime_setRuntime_same _ _ _
      rw [here]
      refine ⟨rfl, rfl, prepared.rcs, fmu', htu', nofun, fun _ => ⟨rfl, State.noticed_notify _ _, ?_⟩⟩
      rw [record]

end Sys2Proof.Machine
end

section
/-! The report of a STATE behind the operation it ends, record by record (R88, R101, R102). -/

namespace Sys2Proof.Machine

/-! ### What the EHU and the RCS leave of the records when a report is handed to them -/

/-- The sequences and the case move, and of the records of the switches the polls wanted alone. -/
structure State.Judged (s t : State) : Prop where
  followed : s.Followed t
  polls : s.PollsOnly t

theorem State.Judged.refl (s : State) : s.Judged s := ⟨.refl s, .refl s⟩

theorem State.Judged.trans {s t u : State} (a : s.Judged t) (b : t.Judged u) : s.Judged u :=
  ⟨a.followed.trans b.followed, a.polls.trans b.polls⟩

/-- The EHU's records alone. -/
theorem State.Judged.of_link {s t : State} (lines : t.lines = s.lines) (fmu : t.fmu = s.fmu) (fsu : t.fsu = s.fsu)
    (sou : t.sou = s.sou) (svu : t.svu = s.svu) (notices : ∀ n, s.noticed n → t.noticed n) : s.Judged t :=
  ⟨.of_link lines fmu fsu sou svu notices, .of_sou sou⟩

theorem State.Polled.judged {s t : State} (h : s.Polled t) : s.Judged t := ⟨h.followed, h.tables.polls⟩

theorem State.Told.judged {k : SwitchNo} {s t : State} (h : s.Told k t) : s.Judged t := ⟨h.followed, h.runtime⟩

theorem State.notify_judged (s : State) (n : Notice) : s.Judged (s.notify n) :=
  .of_link rfl rfl rfl rfl rfl fun _ h => State.noticed_kept _ _ _ h

theorem State.reportPosition_judged (s : State) (k : SwitchNo) (p : Pole) (changed : Bool) :
    s.Judged (s.reportPosition k p changed) := by
  refine (s.rcsPosition_told k p).judged.trans ?_
  unfold State.reportPosition State.huntPosition
  split
  · split
    · exact ⟨State.disturb_followed _, (State.disturb_tables _).polls⟩
    · exact .refl _
  · exact (State.checkResume_polled _).judged

theorem State.startCase_judged (s : State) (origin : StartOrigin) (essential : Bool) : s.Judged (s.startCase origin essential) := by
  unfold State.startCase
  dsimp only
  generalize opened : ({ s with ehu.huntCase := _, ehu.watch := _ } : State) = u
  have open_ : s.Judged u := by
    rw [← opened]
    exact .of_link rfl rfl rfl rfl rfl fun _ h => h
  exact (open_.trans (u.notify_judged .hunt)).trans (State.enterLocating_polled _).judged

theorem State.attemptStart_judged (s : State) : s.Judged s.attemptStart := by
  have failed : ∀ r, s.Judged (s.attemptFailed r) := fun r => by
    have noted : s.Judged { s with ehu.watch.lastRefusal := some r, ehu.huntCase.startDeferred := r == .full } :=
      .of_link rfl rfl rfl rfl rfl fun _ h => h
    unfold State.attemptFailed
    split
    · exact noted
    · exact noted.trans (State.notify_judged _ _)
  unfold State.attemptStart
  split
  · exact s.startCase_judged _ _
  · exact failed _
  · exact failed _

theorem State.watchMove_judged (s : State) (before after : Bool) : s.Judged (s.watchMove before after) := by
  unfold State.watchMove
  dsimp only
  split
  case h_1 => exact .of_link rfl rfl rfl rfl rfl fun _ h => h
  case h_2 =>
    split
    · exact .of_link rfl rfl rfl rfl rfl fun _ h => State.noticed_kept _ _ _ h
    · exact .of_link rfl rfl rfl rfl rfl fun _ h => h
  case h_3 =>
    unfold State.retryStart
    dsimp only
    split
    · exact s.attemptStart_judged
    · exact .refl s
  case h_4 => exact .refl s

theorem State.caseFlagCleared_judged (s : State) : s.Judged s.caseFlagCleared := by
  unfold State.caseFlagCleared
  split
  · exact .of_link rfl rfl rfl rfl rfl fun _ h => h
  · exact .of_link rfl rfl rfl rfl rfl fun _ h => State.noticed_kept _ _ _ h
  · exact .refl s

theorem State.watchHead_judged (s : State) (v : Nat) (q : Quality) (c : ReportClass) : s.Judged (s.watchHead v q c) := by
  have seen : s.Judged (s.headSeen v q c) := .of_link rfl rfl rfl rfl rfl fun _ h => h
  rw [State.watchHead_eq]
  split
  · exact (seen.trans (State.watchMove_judged _ _ _)).trans (State.caseFlagCleared_judged _)
  · exact seen.trans (State.watchMove_judged _ _ _)

theorem State.residualReport_judged (s : State) (k : SwitchNo) (v : Nat) (q : Quality) (p : Pole) :
    s.Judged (s.residualReport k v q p) := by
  have observed : ∀ c, s.Judged (s.observeHead c) := fun c => by
    unfold State.observeHead
    split
    · exact .of_link rfl rfl rfl rfl rfl fun _ h => h
    · exact .refl s
  unfold State.residualReport
  split
  · unfold State.headReport
    dsimp only
    split
    · exact (observed _).trans (State.watchHead_judged _ _ _ _)
    · exact observed _
  · unfold State.locateReport
    split
    · split
      · exact .of_link rfl rfl rfl rfl rfl fun _ h => h
      · exact .of_link rfl rfl rfl rfl rfl fun _ h => h
      · exact .refl s
    · exact .refl s

/-! ### The push wanted again, and the count kept (R101, R102) -/

/-- A failed push that is sent again after an answered poll. -/
def State.pushFailed (s : State) (k : SwitchNo) : Prop :=
  (s.requiredProfile k).isSome = true ∧ ((s.runtime k).profileState = .refused ∨ (s.runtime k).profileState = .noAnswer)

/-- The record of a switch whose push is wanted again. -/
def Runtime.pushAgain (r : Runtime) : Runtime := { r with profileState := .pending, pushWanted := true }

theorem State.retryPush_failed {s : State} {k : SwitchNo} (h : s.pushFailed k) :
    s.retryPush k = s.setRuntime k (s.runtime k).pushAgain := by
  obtain ⟨some_, state⟩ := h
  unfold State.retryPush
  refine if_pos ?_
  simp only [Bool.and_eq_true, Bool.or_eq_true, beq_iff_eq]
  exact ⟨state, some_⟩

theorem State.retryPush_stands {s : State} {k : SwitchNo} (h : ¬ s.pushFailed k) : s.retryPush k = s := by
  unfold State.retryPush
  refine if_neg fun due => h ?_
  simp only [Bool.and_eq_true, Bool.or_eq_true, beq_iff_eq] at due
  exact ⟨due.2, due.1⟩

/-- The residual count that the record keeps after a STATE (R102). -/
def State.residualAfter (s : State) (k : SwitchNo) (raw : Option (BitVec 16)) : Option Residual :=
  match raw, s.config k with
  | some n, some c =>
    if c.sensing then some ⟨(normalise n.toNat c.multiplier c.shift).1, (normalise n.toNat c.multiplier c.shift).2, s.svu.minute⟩
    else (s.runtime k).lastResidual
  | _, _ => (s.runtime k).lastResidual

/-- The residual count taken: the record keeps it, and then it is judged. -/
theorem State.takeResidual_judged (s : State) (k : SwitchNo) (p : Pole) (raw : Option (BitVec 16)) :
    (s.setRuntime k { s.runtime k with lastResidual := s.residualAfter k raw }).Judged (s.takeResidual k p raw) := by
  have unkept : s.residualAfter k raw = (s.runtime k).lastResidual →
      (s.setRuntime k { s.runtime k with lastResidual := s.residualAfter k raw }).Judged s := fun same => by
    rw [same, State.setRuntime_self]
    exact .refl s
  unfold State.takeResidual
  split
  next n c config =>
    have kept : s.residualAfter k (some n) = if c.sensing then
        some ⟨(normalise n.toNat c.multiplier c.shift).1, (normalise n.toNat c.multiplier c.shift).2, s.svu.minute⟩
        else (s.runtime k).lastResidual := by
      simp only [State.residualAfter, config]
    split
    next sensing =>
      rw [kept, if_pos sensing]
      exact State.residualReport_judged _ _ _ _ _
    next blind => exact unkept (kept.trans (if_neg blind))
  next none_ =>
    refine unkept ?_
    unfold State.residualAfter
    split
    next n c config => exact absurd config (none_ n c rfl)
    next => rfl

/-! ### The record behind the report -/

/-- What the report of a STATE leaves behind the operation that it ends or the position that it brings. -/
structure State.ReportKept (s t : State) (k : SwitchNo) (retried : Prop) (raw : Option (BitVec 16)) : Prop where
  fsu : t.fsu = s.fsu
  svu : t.svu = s.svu
  lines : t.lines = s.lines
  sou : t.sou = { s.sou with runtime := t.sou.runtime }
  notices : ∀ n, s.noticed n → t.noticed n
  elsewhere : ∀ j, j ≠ k → t.runtime j = { s.runtime j with pollWanted := (t.runtime j).pollWanted }
  here : t.runtime k = { s.runtime k with
    profileState := (t.runtime k).profileState, pushWanted := (t.runtime k).pushWanted
    lastResidual := s.residualAfter k raw, pollWanted := (t.runtime k).pollWanted }
  pushed : retried → (t.runtime k).profileState = .pending ∧ (t.runtime k).pushWanted = true
  stands : ¬ retried → (t.runtime k).profileState = (s.runtime k).profileState ∧ (t.runtime k).pushWanted = (s.runtime k).pushWanted

theorem State.residualAfter_congr {s t : State} {k : SwitchNo} (config : t.config k = s.config k) (svu : t.svu = s.svu)
    (last : (t.runtime k).lastResidual = (s.runtime k).lastResidual) (raw : Option (BitVec 16)) :
    t.residualAfter k raw = s.residualAfter k raw := by
  simp only [State.residualAfter, config, svu, last]

/-- A residual count taken, in the words of `State.ReportKept`. -/
theorem State.takeResidual_kept (s : State) (k : SwitchNo) (p : Pole) (raw : Option (BitVec 16)) :
    s.ReportKept (s.takeResidual k p raw) k False raw := by
  obtain ⟨⟨fsu, svu, lines, -, -, sou, -, notices⟩, polls⟩ := s.takeResidual_judged k p raw
  have here := polls k
  rw [State.runtime_setRuntime_same] at here
  refine ⟨fsu, svu, lines, sou, notices, fun j other => ?_, ?_, nofun, fun _ => ?_⟩
  · have there := polls j
    rw [State.runtime_setRuntime_other _ _ other] at there
    exact there
  · rw [here]
  · rw [here]
    exact ⟨rfl, rfl⟩

/-- The push retried before the residual count is taken. -/
theorem State.ReportKept.retried {s t : State} {k : SwitchNo} {raw : Option (BitVec 16)}
    (h : (s.retryPush k).ReportKept t k False raw) : s.ReportKept t k (s.pushFailed k) raw := by
  by_cases failed : s.pushFailed k
  · rw [State.retryPush_failed failed] at h
    obtain ⟨fsu, svu, lines, sou, notices, elsewhere, here, -, stands⟩ := h
    have last : ((s.setRuntime k (s.runtime k).pushAgain).runtime k).lastResidual = (s.runtime k).lastResidual := by
      rw [State.runtime_setRuntime_same]
      rfl
    have kept : (s.setRuntime k (s.runtime k).pushAgain).residualAfter k raw = s.residualAfter k raw :=
      State.residualAfter_congr (s := s) (t := s.setRuntime k (s.runtime k).pushAgain) rfl rfl last raw
    rw [State.runtime_setRuntime_same, kept] at here
    rw [State.runtime_setRuntime_same] at stands
    refine ⟨fsu, svu, lines, sou, notices, fun j other => ?_, here, fun _ => stands nofun, fun no => absurd failed no⟩
    have there := elsewhere j other
    rw [State.runtime_setRuntime_other _ _ other] at there
    exact there
  · rw [State.retryPush_stands failed] at h
    obtain ⟨fsu, svu, lines, sou, notices, elsewhere, here, -, stands⟩ := h
    exact ⟨fsu, svu, lines, sou, notices, elsewhere, here, fun no => absurd no failed, fun _ => stands nofun⟩

/-- The position reported before. -/
theorem State.ReportKept.judged {s t u : State} {k : SwitchNo} {retried retried' : Prop} {raw : Option (BitVec 16)} (h : s.Judged t)
    (k' : t.ReportKept u k retried raw) (same : retried' ↔ retried) : s.ReportKept u k retried' raw := by
  obtain ⟨fsu, svu, lines, sou, notices, elsewhere, here, pushed, stands⟩ := k'
  obtain ⟨followed, polls⟩ := h
  have kept : t.residualAfter k raw = s.residualAfter k raw :=
    State.residualAfter_congr (followed.config k) followed.svu (by rw [polls k]) raw
  rw [kept] at here
  refine ⟨fsu.trans followed.fsu, svu.trans followed.svu, lines.trans followed.lines, by rw [sou, followed.sou],
    fun n h => notices n (followed.notices n h), fun j other => by rw [elsewhere j other, polls j], by rw [here, polls k],
    fun r => pushed (same.mp r), fun r => ?_⟩
  have left := stands (mt same.mpr r)
  rw [polls k] at left
  exact left

theorem State.Judged.pushFailed {s t : State} (h : s.Judged t) (k : SwitchNo) : t.pushFailed k ↔ s.pushFailed k := by
  have profile : (t.runtime k).profileState = (s.runtime k).profileState := by rw [h.polls k]
  rw [State.pushFailed, State.pushFailed, (h.followed.group k).2, profile]

/-- The report of a STATE handed on, the push retried where the STATE answers a poll, and its residual count taken. -/
theorem State.reportTaken_kept (s v : State) (k : SwitchNo) (p : Pole) (raw : Option (BitVec 16)) (changed : Bool) :
    v.ReportKept (s.reportTaken k p raw (v.reportPosition k p changed)) k (s.pollAnswered k = true ∧ v.pushFailed k) raw := by
  have judged := v.reportPosition_judged k p changed
  unfold State.reportTaken
  by_cases answers : s.pollAnswered k = true
  · rw [if_pos answers]
    refine (State.takeResidual_kept _ k p raw).retried.judged judged ?_
    rw [judged.pushFailed k]
    exact ⟨fun h => h.2, fun h => ⟨answers, h⟩⟩
  · rw [if_neg answers]
    exact (State.takeResidual_kept _ k p raw).judged judged ⟨fun h => answers h.1, nofun⟩

end Sys2Proof.Machine
end

section
/-! A STATE taken whole (R83, R86, R88, R101, R102). -/

namespace Sys2Proof.Machine

/-! ### The frame taken -/

theorem State.frameTaken_prepared (s : State) (k : SwitchNo) : s.Prepared (s.frameTaken k) := by
  unfold State.frameTaken
  split
  · exact s.answered_prepared k
  · exact s.hear_prepared k

theorem State.frameTaken_heard (s : State) (k : SwitchNo) : ((s.frameTaken k).runtime k).condition ≠ .silent := by
  rw [s.frameTaken_runtime]
  exact (s.hear_taken k).heard

theorem State.frameTaken_awaited (s : State) (k : SwitchNo) : (s.frameTaken k).sou.awaited =
    match s.awaitedFrom k with | some (.poll _) => none | _ => s.sou.awaited := by
  have stands : (s.hear k).sou.awaited = s.sou.awaited := by rw [s.hear_sou]
  unfold State.frameTaken State.pollAnswered
  cases s.awaitedFrom k with
  | none => exact stands
  | some kind =>
    cases kind with
    | poll cls => rfl
    | operate => exact stands
    | setProfile code => exact stands

theorem State.pollAnswered_iff (s : State) (k : SwitchNo) : s.pollAnswered k = true ↔ ∃ cls, s.awaitedFrom k = some (.poll cls) := by
  unfold State.pollAnswered
  split
  next cls awaits => exact ⟨fun _ => ⟨cls, awaits⟩, fun _ => rfl⟩
  next other => exact ⟨nofun, fun ⟨cls, awaits⟩ => absurd awaits (other cls)⟩

/-! ### The state before the report is handed on -/

/-- The frame taken, and the operation in AWAIT MOVE ended or the position brought (R86, R88). -/
def State.moveTaken (s : State) (k : SwitchNo) (p : Pole) : State :=
  match s.moveAwaited k with
  | some q => s.endOperation k q (moveResult q.action p) (poleOf p)
  | none => s.setRuntime k { s.runtime k with position := poleOf p }

/-- The report says that the position changed where no operation ended. -/
def State.reportsChange (s : State) (k : SwitchNo) (p : Pole) : Bool :=
  (s.moveAwaited k).isNone && (s.runtime k).position != poleOf p

theorem State.takeState_moved (s : State) (k : SwitchNo) (p : Pole) (raw : Option (BitVec 16)) : s.takeState k p raw =
    s.reportTaken k p raw (((s.frameTaken k).moveTaken k p).reportPosition k p ((s.frameTaken k).reportsChange k p)) := by
  rw [State.takeState_eq]
  unfold State.moveTaken State.reportsChange
  cases (s.frameTaken k).moveAwaited k with
  | some q => rfl
  | none => rfl

/-- What the records are before the report is handed on. -/
structure State.Moved (s t : State) (k : SwitchNo) (p : Pole) : Prop where
  settings : t.fsu = s.fsu ∧ t.svu = s.svu ∧ t.lines = s.lines
  sou : t.sou = { s.sou with runtime := t.sou.runtime }
  position : (t.runtime k).position = poleOf p
  residual : (t.runtime k).lastResidual = (s.runtime k).lastResidual
  profile : (t.runtime k).profileState = (s.runtime k).profileState ∧ (t.runtime k).pushWanted = (s.runtime k).pushWanted
  elsewhere : ∀ j, j ≠ k → (t.runtime j).position = (s.runtime j).position ∧ (t.runtime j).inFlight = (s.runtime j).inFlight
  heard : (s.runtime k).condition ≠ .silent → (t.runtime k).condition ≠ .silent
  awaiting : ∀ f, (s.runtime k).inFlight = some f → f.phase = .awaitAnswer → (t.runtime k).inFlight = some f
  config : ∀ j, t.config j = s.config j ∧ t.requiredProfile j = s.requiredProfile j

theorem State.moveTaken_some {s : State} {k : SwitchNo} {q : OpRequest} (h : (s.runtime k).inFlight = some ⟨q, .awaitMove⟩) (p : Pole) :
    s.moveTaken k p = s.endOperation k q (moveResult q.action p) (poleOf p) := by
  rw [State.moveTaken, State.moveAwaited_some h]

theorem State.moveTaken_moved (s : State) (k : SwitchNo) (p : Pole) : s.Moved (s.moveTaken k p) k p := by
  by_cases flies : ∃ q, (s.runtime k).inFlight = some ⟨q, .awaitMove⟩
  · obtain ⟨q, flies⟩ := flies
    rw [State.moveTaken_some flies]
    obtain ⟨settings, sou, elsewhere, here, -, config⟩ := s.endOperation_frame k q (moveResult q.action p) (poleOf p)
    refine ⟨settings, sou, by rw [here]; rfl, by rw [here]; rfl, by rw [here]; exact ⟨rfl, rfl⟩, fun j other => ?_, fun heard => ?_,
      fun f same phase => ?_, config⟩
    · rw [elsewhere j other]
      exact ⟨rfl, rfl⟩
    · rw [here]
      change (s.runtime k).endedCondition _ ≠ _
      unfold Runtime.endedCondition
      split
      · nofun
      · exact heard
    · rw [flies] at same
      cases same
      cases phase
  · have idle : s.moveAwaited k = none := State.moveAwaited_none fun q h => flies ⟨q, h⟩
    have brought : s.moveTaken k p = s.setRuntime k { s.runtime k with position := poleOf p } := by rw [State.moveTaken, idle]
    rw [brought]
    refine ⟨⟨rfl, rfl, rfl⟩, rfl, ?_, ?_, ?_, fun j other => ?_, fun heard => ?_, fun f same _ => ?_, fun _ => ⟨rfl, rfl⟩⟩
    · rw [State.runtime_setRuntime_same]
    · rw [State.runtime_setRuntime_same]
    · rw [State.runtime_setRuntime_same]
      exact ⟨rfl, rfl⟩
    · rw [State.runtime_setRuntime_other _ _ other]
      exact ⟨rfl, rfl⟩
    · rw [State.runtime_setRuntime_same]
      exact heard
    · rw [State.runtime_setRuntime_same]
      exact same

/-! ### The sequence and the step behind the report -/

theorem Sequence.reported_outOfService {q : Sequence} (h : q.state = .outOfService) (p : Pole) (time : Nat) : q.reported p time = q := by
  unfold Sequence.reported
  rw [h]

/-- The sequence that follows the end of the operation, moved by the report (R107). -/
theorem State.sequenceFollows.reported {s v t : State} {k : SwitchNo} {q : OpRequest} {res : OpResult} {now : Position} {p : Pole}
    {changed : Bool} (follows : s.sequenceFollows v k q res now none) (time : v.reclaimTime k = s.reclaimTime k)
    (stand : (v.reportPosition k p changed).SequencesStand t) (notices : ∀ n, v.noticed n → t.noticed n) :
    s.sequenceFollows t k q res now (some p) := by
  obtain ⟨there, idle, here⟩ := follows
  have handed := ((v.rcsPosition k p).huntPosition_stand k p changed).trans stand
  have told := v.rcsPosition_told k p
  have moved : t.seq k = (v.seq k).reported p (s.reclaimTime k) := by
    rw [handed.seq k, v.rcsPosition_here k p, time]
  refine ⟨fun j other => ?_, fun out => ?_, fun g judged group judges => ?_⟩
  · exact ((handed.seq j).trans (told.seq_other other)).trans (there j other)
  · rw [moved, idle out]
    exact Sequence.reported_outOfService out p _
  · obtain ⟨after, locks⟩ := here g judged group judges
    refine ⟨?_, fun locked unlocked => notices _ (locks locked unlocked)⟩
    rw [moved, after, State.reclaimTime_of group]

/-- What the report of a STATE leaves of the case, of another switch than the head (R133). -/
theorem State.reportTaken_trails {s v : State} {k : SwitchNo} (other : k ≠ 0) (p : Pole) (raw : Option (BitVec 16)) (changed : Bool) :
    v.CaseTrails (s.reportTaken k p raw (v.reportPosition k p changed)) := by
  have reported := v.reportPosition_trails k p changed
  unfold State.reportTaken
  split
  · exact (reported.trans (State.retryPush_trails _ _)).trans (State.takeResidual_trails other _ _)
  · exact reported.trans (State.takeResidual_trails other _ _)

/-! ### The result of the move -/

theorem moveResult_eq (a : SwitchAction) (p : Pole) : moveResult a p = if (a = .toOpen ↔ p = .opened) then .done else .noMove := by
  cases a <;> cases p <;> rfl

theorem poleOf_eq (p : Pole) : poleOf p = match p with | .opened => Position.opened | .closed => .closed := by
  cases p <;> rfl

theorem moveResult_ofFlight (a : SwitchAction) (p : Pole) : (moveResult a p).ofFlight = true := by
  unfold moveResult
  split <;> rfl

theorem moveResult_fails {a : SwitchAction} {p : Pole} (h : (moveResult a p).fails = true) : moveResult a p = .noMove := by
  unfold moveResult at h ⊢
  split at h
  · cases h
  next missed => exact if_neg missed

theorem moveResult_replies (a : SwitchAction) (p : Pole) : moveResult a p ≠ .noAnswer := by
  unfold moveResult
  split <;> nofun

/-! ### Settling the STATE -/

/-- The count of R102, a half rounded up and cut at the top of its field. -/
theorem State.residualAfter_sensing {s : State} {k : SwitchNo} {c : SwitchConfig} (config : s.config k = some c)
    (sensing : c.sensing = true) (n : BitVec 16) : s.residualAfter k (some n) =
      some (if (2 * n.toNat * c.multiplier + 10 ^ c.shift) / (2 * 10 ^ c.shift) ≤ 65535 then
        ⟨(2 * n.toNat * c.multiplier + 10 ^ c.shift) / (2 * 10 ^ c.shift), .good, s.svu.minute⟩ else ⟨65535, .over, s.svu.minute⟩) := by
  simp only [State.residualAfter, config, sensing, if_true, normalise_eq]
  split
  next low => rw [min_eq_right low]
  next high => rw [min_eq_left (le_of_lt (not_le.mp high))]

theorem State.residualAfter_blind {s : State} {k : SwitchNo} {c : SwitchConfig} {raw : Option (BitVec 16)} (config : s.config k = some c)
    (h : raw = none ∨ c.sensing = false) : s.residualAfter k raw = (s.runtime k).lastResidual := by
  rcases h with none_ | blind
  · rw [none_]
    rfl
  · cases raw with
    | none => rfl
    | some n => simp only [State.residualAfter, config, blind, Bool.false_eq_true, if_false]

/-- Settles O37. -/
theorem stateFrameTaken : Obligations.StateFrameTaken := by
  unfold Obligations.StateFrameTaken
  intro s address k c pole raw hs owner config retried
  refine ⟨s.takeState k pole raw, congrArg Host.Outcome.next (State.fromUnit_working hs owner _), ?_⟩
  have prepared := s.frameTaken_prepared k
  obtain ⟨lines, fmu, -, fsu, svu⟩ := prepared.fields
  have awaited := s.frameTaken_awaited k
  have heard := s.frameTaken_heard k
  have before := prepared.runtime
  rw [State.takeState_moved]
  obtain ⟨settings, sou, position, residual, profile, elsewhere, sounds, awaiting, configs⟩ := (s.frameTaken k).moveTaken_moved k pole
  have flies : ∀ {q}, (s.runtime k).inFlight = some ⟨q, .awaitMove⟩ →
      ((s.frameTaken k).runtime k).inFlight = some ⟨q, .awaitMove⟩ := fun h => by
    rw [s.frameTaken_inFlight]
    exact h
  have ends : ∀ q, (s.runtime k).inFlight = some ⟨q, .awaitMove⟩ →
      s.OperationEnds ((s.frameTaken k).moveTaken k pole) k q (moveResult q.action pole) (poleOf pole) := fun q h => by
    rw [State.moveTaken_some (flies h)]
    exact prepared.endOperation (moveResult_ofFlight _ _) fun no => absurd no (moveResult_replies _ _)
  have counts : ∀ q, (s.runtime k).inFlight = some ⟨q, .awaitMove⟩ → s.runningCounted →
      ((s.frameTaken k).moveTaken k pole).runningCounted := fun q h counted => by
    rw [State.moveTaken_some (flies h)]
    exact (State.endOperation_follows (moveResult_ofFlight _ _) fun no => absurd no (moveResult_replies _ _)).2
      (prepared.counted counted)
  have time : ∀ q, (s.runtime k).inFlight = some ⟨q, .awaitMove⟩ →
      ((s.frameTaken k).moveTaken k pole).reclaimTime k = s.reclaimTime k := fun q h => by
    have followed := (s.frameTaken k).endOperation_followed k q (moveResult q.action pole) (poleOf pole)
    rw [State.moveTaken_some (flies h), State.reclaimTime, (followed.group k).1]
    exact congrArg (fun g => (g.map (·.reclaim)).getD 0) (State.effectiveGroup_congr fmu fsu k)
  have failed : ((s.frameTaken k).moveTaken k pole).pushFailed k ↔ s.pushFailed k := by
    have state : (((s.frameTaken k).moveTaken k pole).runtime k).profileState = (s.runtime k).profileState := by
      rw [profile.1, before k]
    rw [State.pushFailed, State.pushFailed, (configs k).2, State.requiredProfile_congr fmu fsu k, state]
  have config' : ((s.frameTaken k).moveTaken k pole).config k = some c := by
    rw [(configs k).1, State.config_congr fmu k, config]
  have minute : ((s.frameTaken k).moveTaken k pole).svu.minute = s.svu.minute := by rw [settings.2.1, svu]
  have kept := s.reportTaken_kept ((s.frameTaken k).moveTaken k pole) k pole raw ((s.frameTaken k).reportsChange k pole)
  have stand := s.reportTaken_stand
    (((s.frameTaken k).moveTaken k pole).reportPosition k pole ((s.frameTaken k).reportsChange k pole)) k pole raw
  have trails := fun other => State.reportTaken_trails (s := s) (v := (s.frameTaken k).moveTaken k pole) (k := k) other pole raw
    ((s.frameTaken k).reportsChange k pole)
  generalize (s.frameTaken k).reportsChange k pole = changed at *
  generalize (s.frameTaken k).moveTaken k pole = v at *
  generalize s.reportTaken k pole raw (v.reportPosition k pole changed) = t at *
  obtain ⟨fsu', svu', lines', sou', notices, elsewhere', here, pushed, stands⟩ := kept
  have pushes : retried ↔ s.pollAnswered k = true ∧ v.pushFailed k := by
    rw [State.pollAnswered_iff, failed]
    exact Iff.rfl
  refine ⟨?_, fun j other => ?_, ?_, ?_, fun n counted sensing => ?_, fun uncounted => ?_, fun q h => ?_, fun q h => ?_,
    fun h => pushed (pushes.mp h), fun h => ?_, fun f inFlight phase => ?_, fsu'.trans (settings.1.trans fsu),
    svu'.trans (settings.2.1.trans svu), lines'.trans (settings.2.2.trans lines)⟩
  · rw [here]
    exact position.trans (poleOf_eq pole)
  · rw [elsewhere' j other]
    obtain ⟨position', inFlight⟩ := elsewhere j other
    rw [before j] at position' inFlight
    exact ⟨position', inFlight⟩
  · rw [here]
    exact sounds heard
  · rw [sou', sou]
    exact awaited
  · rw [here, counted]
    have left := State.residualAfter_sensing config' sensing n
    rw [minute] at left
    exact left
  · rw [here]
    refine (State.residualAfter_blind config' uncounted).trans (residual.trans ?_)
    rw [before k]
  · obtain ⟨inFlight, mechanism, -, fails, told, result, -, -⟩ := ends q h
    rw [moveResult_eq] at fails result
    rw [here]
    refine ⟨inFlight, mechanism, notices _ told, fun plain reached => ?_, fun missed => fails ?_⟩
    · rw [if_pos reached] at result
      exact result (.inl plain) nofun
    · rw [if_neg missed]
      rfl
  · obtain ⟨-, -, -, -, -, -, sequence, hunt⟩ := ends q h
    intro now res
    have position' : poleOf pole = now := poleOf_eq pole
    have result : moveResult q.action pole = res := moveResult_eq q.action pole
    clear_value now res
    subst position' result
    refine ⟨fun plain closes => ?_, fun state other hunts => ?_⟩
    · exact (sequence plain fun fails cs => closes cs (moveResult_fails fails)).reported (time q h) stand notices
    · exact hunt.carried (fun _ => trails other) (counts q h) state other hunts
  · obtain ⟨state, wanted⟩ := stands (mt pushes.mpr h)
    rw [state, wanted, profile.1, profile.2, before k]
    exact ⟨rfl, rfl⟩
  · rw [here]
    exact awaiting f (by rw [s.frameTaken_inFlight]; exact inFlight) phase

end Sys2Proof.Machine
end
